-- ==== Sys2Proof/Word.lean ====
section
/-! DEFINITION. The words of the HD-410: the bytes of the shared store and of the radio and flash lines,
and the wrapping counters the readings groups carry. -/

namespace Sys2Proof

/-- A byte of the shared store, the radio line or the sound bank. -/
abbrev Byte := BitVec 8

/-- A 16-bit wrapping counter or register. -/
abbrev Half := BitVec 16

/-- A 32-bit wrapping counter or register. -/
abbrev Word := BitVec 32

end Sys2Proof
end

