-- ==== Sys2Proof/Syntax.lean ====
section
/-! DEFINITION. The commands of the HD-410: one constructor for each row of the opcode table.
The table gives its rows no operands; an operand here is what the row's rule says arrives with the event
(log entry 3), or `order`, which names one of the orders the manual leaves open (log entry 4). -/

namespace Sys2Proof

/-- The two motor channels (00_scope, section 4). -/
inductive Channel
  | a
  | b
  deriving DecidableEq, Repr

/-- The mode a transaction takes from its instruction byte (R157). -/
inductive HostMode
  | read
  | write
  deriving DecidableEq, Repr

/-- The mode an instruction byte names: 0x2C is WRITE, 0x2D is READ, any other none (R176). -/
def HostMode.ofByte (b : Byte) : Option HostMode :=
  if b = 0x2C#8 then some .write else if b = 0x2D#8 then some .read else none

/-- What the radio data line delivers as one event (R138). -/
inductive LineInput
  /-- A byte with a good stop bit. -/
  | byte (value : Byte)
  /-- A byte whose stop bit is read low. -/
  | framingError
  deriving DecidableEq, Repr

/-- The commands, one constructor for each row of spec/opcode_table.json. -/
inductive Instr
  | powerOnReset
  | storeInitialised
  | resetComplete
  | uptimeTick
  | hostUnknownInstruction (instruction : Byte)
  | hostWrite (value : Byte)
  | uptimeReadCapture
  | attnPendingReadCapture
  | revisionWrite (value : Byte)
  | attnConfigWrite (value : Byte)
  | attnTake (value : Byte)
  | nudge (value : Byte)
  | cueSlotStateWrite (value : Byte)
  | eventRecordFree
  | inboundRecordFree (value : Byte)
  | commandHalt
  | commandQuiesce
  | commandResume
  | commandReset
  | commandUnknown
  | quiesceDeadlineExpiry (order : Nat)
  | sweepTimerExpiry
  | deferredSweepStart
  | visitBegin
  | adoptDriveProfile
  | adoptSpeedTable
  | adoptMeasureProfile
  | adoptPowerProfile (order : Nat)
  | adoptCadenceProfile
  | adoptSmokeProfile
  | adoptLampProfile
  | adoptSoundProfile
  | adoptRadioProfile
  | adoptFunctionMap
  | adoptDriveDirective
  | adoptSmokeDirective
  | adoptLampDirective
  | adoptSoundDirective
  | adoptFunctionDirective
  | rampStep
  | trip (channel : Channel) (order : Nat)
  | retryTimerExpiry
  | forgiveTimerExpiry
  | windowPeriodExpiry
  | settleTimerExpiry
  | windowLimitExpiry
  | driveReadingsTimer (shortA shortB : Bool)
  | scanTimerExpiry (order : Nat)
  | deferredPassStart (order : Nat)
  | emfRequestServe
  | adcConversionComplete (raw : BitVec 12) (order : Nat)
  | outageTick (order : Nat)
  | powerReadingsTimer
  | camEdge (phase : Nat)
  | wheelStoppedExpiry
  | syntheticChuffExpiry
  | cadenceReadingsTimer
  | heatStaleExpiry
  | idleTimerExpiry
  | pulseTimerExpiry
  | idlePuffExpiry
  | cooldownExpiry
  | budgetTick
  | effectTick
  | mountHeaderRead
  | mountComplete
  | cueSlotScan
  | outputSample
  | ampHoldExpiry
  | radioByte (input : LineInput)
  | gapTimerExpiry
  | radioSpeed (order : Nat)
  | radioHalt (order : Nat)
  | radioFunction (order : Nat)
  | radioFunctionGroup (order : Nat)
  | radioCue (order : Nat)
  | radioVolume
  | radioUser
  | radioUnknownCommand
  | silenceTimerExpiry
  | elapsedTick
  | radioReadingsTimer
  | chipSelectRelease
  | hostAddressComplete (instruction : Byte) (address : BitVec 16)
  | bridgePwmPeriodStart
  | outputPwmPeriodStart
  deriving DecidableEq, Repr

end Sys2Proof
end

