-- ==== Sys2Proof/WellFormed.lean ====
section
/-! DEFINITION. Which commands can be sent: the ranges of the operands. -/

namespace Sys2Proof

/-- How many orders an `order` operand names: the three receivers of an alarm contribution (R58) times the
four of the power publication it may bring (R71), once at the conversion and once at the pass end. -/
def handOffOrders : Nat := 6 * 24

/-- The commands that can be sent. A transaction whose address arrives began with WRITE or READ, and an
unknown instruction is neither (R176); the phase
of a cam edge is its place inside the present millisecond, in 10 µs (R79); an `order` names one of the
orders the manual leaves open at that step. -/
def Instr.WellFormed : Instr → Bool
  | .hostUnknownInstruction b => HostMode.ofByte b == none
  | .hostAddressComplete b _ => HostMode.ofByte b != none
  | .quiesceDeadlineExpiry k => decide (k < 24 * handOffOrders)
  | .adoptPowerProfile k => decide (k < 24)
  | .trip _ k => decide (k < 2)
  | .scanTimerExpiry k => decide (k < handOffOrders)
  | .deferredPassStart k => decide (k < handOffOrders)
  | .adcConversionComplete _ k => decide (k < handOffOrders * handOffOrders)
  | .outageTick k => decide (k < 24)
  | .camEdge p => decide (p < 100)
  | .radioSpeed k => decide (k < 2)
  | .radioHalt k => decide (k < 2)
  | .radioFunction k => decide (k < 2)
  | .radioFunctionGroup k => decide (k < 2)
  | .radioCue k => decide (k < 2)
  | .powerOnReset | .storeInitialised | .resetComplete | .uptimeTick => true
  | .hostWrite _ | .uptimeReadCapture | .attnPendingReadCapture | .revisionWrite _ | .attnConfigWrite _
  | .attnTake _ | .nudge _ | .cueSlotStateWrite _ | .eventRecordFree | .inboundRecordFree _ => true
  | .commandHalt | .commandQuiesce | .commandResume | .commandReset | .commandUnknown => true
  | .sweepTimerExpiry | .deferredSweepStart | .visitBegin => true
  | .adoptDriveProfile | .adoptSpeedTable | .adoptMeasureProfile | .adoptCadenceProfile | .adoptSmokeProfile
  | .adoptLampProfile | .adoptSoundProfile | .adoptRadioProfile | .adoptFunctionMap | .adoptDriveDirective
  | .adoptSmokeDirective | .adoptLampDirective | .adoptSoundDirective | .adoptFunctionDirective => true
  | .rampStep | .retryTimerExpiry | .forgiveTimerExpiry | .windowPeriodExpiry | .settleTimerExpiry
  | .windowLimitExpiry | .driveReadingsTimer _ _ => true
  | .emfRequestServe | .powerReadingsTimer => true
  | .wheelStoppedExpiry | .syntheticChuffExpiry | .cadenceReadingsTimer => true
  | .heatStaleExpiry | .idleTimerExpiry | .pulseTimerExpiry | .idlePuffExpiry | .cooldownExpiry
  | .budgetTick | .effectTick => true
  | .mountHeaderRead | .mountComplete | .cueSlotScan | .outputSample | .ampHoldExpiry => true
  | .radioByte _ | .gapTimerExpiry | .radioVolume | .radioUser | .radioUnknownCommand
  | .silenceTimerExpiry | .elapsedTick | .radioReadingsTimer => true
  | .chipSelectRelease | .bridgePwmPeriodStart | .outputPwmPeriodStart => true

end Sys2Proof
end

