-- ==== Sys2Proof/Decode.lean ====
section
/-! DEFINITION. The opcode table gives none of its rows any bits: the HD-410 is a block that takes commands,
and no word spells one. -/

namespace Sys2Proof

/-- The command a word of the opcode table spells: none, since no row of the table gives bits
(98_reader.md: n_rows_with_fixed 0, n_rows_with_fields 0; log entry 1). -/
def decodeTableWord (_nbits _w : Nat) : Option Instr := none

end Sys2Proof
end

