-- ==== Sys2Proof/Config.lean ====
section
/-! DEFINITION. The values the manual leaves open: constants without a body, so that nothing can be
proved of them but what holds for every value. -/

namespace Sys2Proof.Config

/-- FREE VALUE (R163, log entry 7). How many further body bytes the adoption unit has copied when a host
write to the section being copied is taken. The manual lets such a write reach the buffer or miss it.
It is applied to `State.draws`, so that every draw is independent of the last. -/
opaque copyAdvance : Nat → Nat

/-- FREE VALUE (R176, log entry 8). The level of SDO during the data bytes of a WRITE, which the manual
does not state. -/
opaque sdoInWrite : Nat → Bool

/-- FREE VALUE (R43, log entry 11). Whether a SHORT line last seen asserted still is at a writing that a change of
drive state makes: the release of a line is no command. It is applied to a count of such draws. -/
opaque shortHolds : Nat → Bool

/-- FREE VALUE (R175, log entry 40). The level of FL_CS_N while the sound engine reads the flash, whose moments
within a read the manual does not state. -/
opaque flashSelect : Nat → Bool

/-- FREE VALUE (R165, log entry 44). Whether a host EMPTY that arrives together with a scan of its cue slot is taken
before the result, while the slot is TAKEN. The manual lets either be taken first. It is applied to `State.draws`. -/
opaque emptyTakenFirst : Nat → Bool

end Sys2Proof.Config
end

