-- ==== Sys2Proof/Machine/Operands.lean ====
section
/-! DEFINITION. The arithmetic and byte-order conventions of section 4 of the manual (trunc, clamp, least
significant byte first), the fixed-length vectors the blocks keep, and the two CRCs. -/

namespace Sys2Proof.Machine

/-! ### Conventions (00_scope, section 4) -/

/-- clamp(x, lo, hi) on whole numbers. -/
def clampNat (x lo hi : Nat) : Nat := if x < lo then lo else if hi < x then hi else x

/-- clamp(x, lo, hi) on signed numbers. -/
def clampInt (x lo hi : Int) : Int := if x < lo then lo else if hi < x then hi else x

/-- trunc(x / d): the quotient rounded toward zero. -/
def truncDiv (x d : Int) : Int := Int.tdiv x d

/-! ### Vectors -/

/-- Each element of a vector through `f`, in index order. -/
def vecMap {α β : Type} {n : Nat} (f : α → β) (v : Vector α n) : Vector β n :=
  ⟨(v.toList.map f).toArray, by simp⟩

/-- The vector whose element `i` is `f i`. -/
def vecTab {α : Type} (n : Nat) (f : Fin n → α) : Vector α n :=
  ⟨((List.finRange n).map f).toArray, by simp⟩

/-- Element `i` replaced by its image under `f`. -/
def vecModify {α : Type} {n : Nat} (v : Vector α n) (i : Fin n) (f : α → α) : Vector α n :=
  v.set i (f v[i])

/-! ### Orders the manual leaves open (log entry 4) -/

/-- `xs` in the order that `k` names: the digits of `k` say where each element is put. `k = 0` is the order
of `xs` itself, and every order is named by some `k` below the factorial of the length. -/
def arrange {α : Type} : List α → Nat → List α
  | [], _ => []
  | x :: xs, k => (arrange xs (k / (xs.length + 1))).insertIdx (k % (xs.length + 1)) x

/-! ### Bytes, least significant first (00_scope, section 4; R177) -/

/-- One byte. -/
def le8 (n : Nat) : List Byte := [BitVec.ofNat 8 n]

/-- Two bytes. -/
def le16 (n : Nat) : List Byte := [BitVec.ofNat 8 n, BitVec.ofNat 8 (n / 256)]

/-- Three bytes. -/
def le24 (n : Nat) : List Byte := le16 n ++ [BitVec.ofNat 8 (n / 65536)]

/-- Four bytes. -/
def le32 (n : Nat) : List Byte := le16 n ++ le16 (n / 65536)

/-- A signed 16-bit field, two's complement (R177). -/
def leSigned16 (x : Int) : List Byte := le16 (BitVec.ofInt 16 x).toNat

/-- A flag as a byte: 1 for yes. -/
def flagByte (b : Bool) : Byte := if b then 1#8 else 0#8

/-- The number whose bit n is the n-th element of the list. -/
def maskOf : List Bool → Nat
  | [] => 0
  | b :: bs => (if b then 1 else 0) + 2 * maskOf bs

/-- The unsigned byte at offset `i`, 0 past the end. -/
def u8At (bs : List Byte) (i : Nat) : Nat := (bs.getD i 0#8).toNat

/-- The unsigned 16-bit field at offset `i`. -/
def u16At (bs : List Byte) (i : Nat) : Nat := u8At bs i + 256 * u8At bs (i + 1)

/-- The 32-bit field at offset `i`. -/
def u32At (bs : List Byte) (i : Nat) : Nat := u16At bs i + 65536 * u16At bs (i + 2)

/-- The signed byte at offset `i` (R177). -/
def s8At (bs : List Byte) (i : Nat) : Int := (bs.getD i 0#8).toInt

/-- A field of `n` bytes stored most significant byte first, as the sound bank and the radio frame store
theirs (12.7). -/
def bigEndian (bs : List Byte) : Nat := bs.foldl (fun acc b => acc * 256 + b.toNat) 0

/-! ### Cyclic checks -/

/-- One bit of the frame's CRC: the register moves left and the generator 0x8005 enters where a 1 leaves
(R136). -/
def crc16Shift (r : BitVec 16) : BitVec 16 :=
  if r.msb then (r <<< 1) ^^^ 0x8005#16 else r <<< 1

/-- One byte into the frame's CRC, most significant bit first (R136). -/
def crc16Byte (r : BitVec 16) (b : Byte) : BitVec 16 :=
  (List.range 8).foldl (fun r _ => crc16Shift r) (r ^^^ (b.zeroExtend 16 <<< 8))

/-- The frame's CRC over a run of bytes: preset to 0xFFFF, no inversion (R136). -/
def crc16 (bs : List Byte) : BitVec 16 := bs.foldl crc16Byte 0xFFFF#16

/-- One bit of the bank's CRC-32: the generator 0x04C11DB7 in the bit order in which bytes enter least
significant bit first, that is 0xEDB88320 with the register moving right (R117; DEDUCED, log entry 9). -/
def crc32Shift (r : BitVec 32) : BitVec 32 :=
  if r.getLsbD 0 then (r >>> 1) ^^^ 0xEDB88320#32 else r >>> 1

/-- One byte into the bank's CRC-32, least significant bit first (R117). -/
def crc32Byte (r : BitVec 32) (b : Byte) : BitVec 32 :=
  (List.range 8).foldl (fun r _ => crc32Shift r) (r ^^^ b.zeroExtend 32)

/-- The bank's CRC-32: preset to all ones, the final register inverted (R117). -/
def crc32 (bs : List Byte) : BitVec 32 := ~~~(bs.foldl crc32Byte 0xFFFFFFFF#32)

end Sys2Proof.Machine
end

