-- ==== Sys2Proof/Machine/Memory.lean ====
section
/-! DEFINITION. Byte memories as lists of (address, byte) pairs in one canonical form: addresses strictly
rising, and no entry equal to what an unlisted address reads as. The shared store reads 0 where nothing
is listed (R158, R168); the sound bank's flash reads 0xFF there (log entry 10). -/

namespace Sys2Proof.Machine

/-- A byte memory. -/
abbrev Memory := List Host.Cell

namespace Memory

/-- The addresses rise strictly and no entry equals `blank`, what an unlisted address reads as. -/
abbrev WellFormed (blank : Byte) (m : Memory) : Prop :=
  m.Pairwise (fun x y => x.1 < y.1) ∧ ∀ c ∈ m, c.2 ≠ blank

/-- `WellFormed` as a Bool. -/
def wf (blank : Byte) (m : Memory) : Bool := decide (WellFormed blank m)

/-- The byte at an address. -/
def read (blank : Byte) (m : Memory) (a : Nat) : Byte := (m.lookup a).getD blank

/-- The cells of a run of bytes from address `a` on, without those equal to `blank`. -/
def cells (blank : Byte) : Nat → List Byte → Memory
  | _, [] => []
  | a, b :: bs => if b = blank then cells blank (a + 1) bs else (a, b) :: cells blank (a + 1) bs

/-- A run of bytes written from address `a` on: whatever stood there is replaced. -/
def write (blank : Byte) (m : Memory) (a : Nat) (bs : List Byte) : Memory :=
  m.filter (fun c => c.1 < a) ++ cells blank a bs ++ m.filter (fun c => a + bs.length ≤ c.1)

/-- `n` bytes from address `a` on. -/
def readRun (blank : Byte) (m : Memory) (a n : Nat) : List Byte :=
  (List.range n).map fun i => read blank m (a + i)

end Memory

end Sys2Proof.Machine
end

