-- ==== Sys2Proof/Machine/Profiles.lean ====
section
/-! DEFINITION. The enumerations of the store with their codes (12.4), the working copies of the fifteen
sections, and the defaults they hold until a section is adopted. -/

namespace Sys2Proof.Machine

/-! ### Enumerations and their codes (12.4, 12.6) -/

/-- A direction of travel (R3, R22). -/
inductive Direction
  | fwd
  | rev
  deriving DecidableEq, Repr

def Direction.code : Direction → Nat
  | .fwd => 0
  | .rev => 1

def Direction.ofCode : Nat → Option Direction
  | 0 => some .fwd
  | 1 => some .rev
  | _ => none

/-- The other direction (the consist inversion of R5). -/
def Direction.flip : Direction → Direction
  | .fwd => .rev
  | .rev => .fwd

/-- Who wrote a value: the target (R3), a halt (R22) or a function flag (R152). -/
inductive Source
  | none
  | host
  | radio
  deriving DecidableEq, Repr

def Source.code : Source → Nat
  | .none => 0
  | .host => 1
  | .radio => 2

/-- The momentum mode (section 1.3). -/
inductive Momentum
  | off
  | linear
  | eased
  deriving DecidableEq, Repr

def Momentum.ofCode : Nat → Option Momentum
  | 0 => some .off
  | 1 => some .linear
  | 2 => some .eased
  | _ => none

/-- A protection level, and the drive action of an alarm side or of silence, NONE < EASE < BRAKE < RELEASE
(section 2.5, R58). -/
inductive Level
  | none
  | ease
  | brake
  | release
  deriving DecidableEq, Repr

/-- The rank of a level, which is also its code (12.4). -/
def Level.code : Level → Nat
  | .none => 0
  | .ease => 1
  | .brake => 2
  | .release => 3

def Level.ofCode : Nat → Option Level
  | 0 => some .none
  | 1 => some .ease
  | 2 => some .brake
  | 3 => some .release
  | _ => Option.none

/-- The higher of two levels. -/
def Level.max (x y : Level) : Level := if x.code < y.code then y else x

/-- The codes a silence action may hold: RELEASE is none of them (R35, 12.4). -/
def Level.ofSilenceCode (n : Nat) : Option Level := if n < 3 then Level.ofCode n else Option.none

/-- The smoke action of an alarm side (R58). -/
inductive SmokeAction
  | none
  | hold
  | dry
  deriving DecidableEq, Repr

def SmokeAction.ofCode : Nat → Option SmokeAction
  | 0 => some .none
  | 1 => some .hold
  | 2 => some .dry
  | _ => Option.none

/-- The side of an alarm (R45). -/
inductive Side
  | none
  | low
  | high
  deriving DecidableEq, Repr

def Side.code : Side → Nat
  | .none => 0
  | .low => 1
  | .high => 2

/-- The DRIVE directive's mode (R4). -/
inductive DemandMode
  | direct
  | step
  deriving DecidableEq, Repr

def DemandMode.ofCode : Nat → Option DemandMode
  | 0 => some .direct
  | 1 => some .step
  | _ => none

/-- The chuff source mode (R78). -/
inductive SourceMode
  | cam
  | synthetic
  | auto
  deriving DecidableEq, Repr

def SourceMode.code : SourceMode → Nat
  | .cam => 0
  | .synthetic => 1
  | .auto => 2

def SourceMode.ofCode : Nat → Option SourceMode
  | 0 => some .cam
  | 1 => some .synthetic
  | 2 => some .auto
  | _ => none

/-- A lamp's mode (R104). -/
inductive LampMode
  | steady
  | flicker
  | alternate
  | beacon
  | oneShot
  deriving DecidableEq, Repr

def LampMode.ofCode : Nat → Option LampMode
  | 0 => some .steady
  | 1 => some .flicker
  | 2 => some .alternate
  | 3 => some .beacon
  | 4 => some .oneShot
  | _ => none

/-- A lamp's direction gate (R104). -/
inductive Gate
  | any
  | fwd
  | rev
  deriving DecidableEq, Repr

def Gate.ofCode : Nat → Option Gate
  | 0 => some .any
  | 1 => some .fwd
  | 2 => some .rev
  | _ => none

/-- A lamp's run (R104). -/
inductive LampRun
  | continuous
  | single
  /-- A code the table does not list, which stands in the record of a ONE_SHOT lamp alone: run is not read there and
  not checked (R109, R177; log entry 45). -/
  | unlisted (code : Nat)
  deriving DecidableEq, Repr

def LampRun.ofCode : Nat → Option LampRun
  | 0 => some .continuous
  | 1 => some .single
  | _ => none

/-- A lamp's activity code in the LAMP directive (R105). -/
inductive Activity
  | follow
  | forceOn
  | forceOff
  deriving DecidableEq, Repr

def Activity.ofCode : Nat → Option Activity
  | 0 => some .follow
  | 1 => some .forceOn
  | 2 => some .forceOff
  | _ => none

/-- The SMOKE directive's enable (R90). -/
inductive SmokeEnable
  | off
  | on
  | follow
  deriving DecidableEq, Repr

def SmokeEnable.code : SmokeEnable → Nat
  | .off => 0
  | .on => 1
  | .follow => 2

def SmokeEnable.ofCode : Nat → Option SmokeEnable
  | 0 => some .off
  | 1 => some .on
  | 2 => some .follow
  | _ => none

/-- A routing of the RADIO_PROFILE (R146). -/
inductive Routing
  | ignore
  | apply
  | forward
  | both
  deriving DecidableEq, Repr

def Routing.ofCode : Nat → Option Routing
  | 0 => some .ignore
  | 1 => some .apply
  | 2 => some .forward
  | 3 => some .both
  | _ => none

/-- Whether a routing hands the command to its applying block (R146). -/
def Routing.applies : Routing → Bool
  | .apply | .both => true
  | .ignore | .forward => false

/-- Whether a routing fills an inbound record (R146). -/
def Routing.forwards : Routing → Bool
  | .forward | .both => true
  | .ignore | .apply => false

/-- A flag or switch: 0 off, 1 on (12.4). -/
def switchOfCode : Nat → Option Bool
  | 0 => some false
  | 1 => some true
  | _ => none

/-! ### Two channels -/

/-- One value for each motor channel. -/
structure PerChannel (α : Type) where
  a : α
  b : α
  deriving DecidableEq, Repr

def PerChannel.get {α : Type} (p : PerChannel α) : Channel → α
  | .a => p.a
  | .b => p.b

/-- Both channels through `f`, which is told the channel. -/
def PerChannel.map {α β : Type} (f : Channel → α → β) (p : PerChannel α) : PerChannel β :=
  ⟨f .a p.a, f .b p.b⟩

def PerChannel.set {α : Type} (p : PerChannel α) : Channel → α → PerChannel α
  | .a, x => ⟨x, p.b⟩
  | .b, x => ⟨p.a, x⟩

/-! ### Measurement slots (section 3.1) -/

/-- A measurement slot, 0 to 11. -/
abbrev SlotIx := Fin 12

def slotZero : SlotIx := 0
def slotTrack : SlotIx := 1
def slotStore : SlotIx := 2
def slotEmfA : SlotIx := 5
def slotEmfB : SlotIx := 6
def slotHeat : SlotIx := 7
def slotBoard : SlotIx := 8

/-- The gated slots, converted only on request (section 3.1). -/
def gated (k : SlotIx) : Bool := k == slotEmfA || k == slotEmfB

/-- The EMF slot of a channel. -/
def emfSlot : Channel → SlotIx
  | .a => slotEmfA
  | .b => slotEmfB

/-! ### The working copies -/

/-- A channel's trim (section 1.4). -/
structure Trim where
  gain : Nat
  offset : Int
  enabled : Bool
  deriving DecidableEq, Repr

/-- Section 0, DRIVE_PROFILE (R21). The settle time is in 10 µs units, the retry delay in 10 ms units and
the forgive time in 100 ms units, as 12.4 stores them. -/
structure DriveProfile where
  accelStep : Nat
  decelStep : Nat
  accelInterval : Nat
  decelInterval : Nat
  momentum : Momentum
  trim : PerChannel Trim
  kp : Nat
  ki : Nat
  integralLimit : Nat
  emfScale : Nat
  emfPeriod : Nat
  settle : Nat
  retryDelay : Nat
  retryLimit : Nat
  forgive : Nat
  holdBrake : Bool
  deriving DecidableEq, Repr

/-- The defaults of R21. -/
def DriveProfile.default : DriveProfile where
  accelStep := 16
  decelStep := 16
  accelInterval := 10
  decelInterval := 10
  momentum := .linear
  trim := ⟨⟨128, 0, true⟩, ⟨128, 0, true⟩⟩
  kp := 0
  ki := 0
  integralLimit := 0
  emfScale := 0
  emfPeriod := 0
  settle := 10
  retryDelay := 50
  retryLimit := 3
  forgive := 20
  holdBrake := false

/-- Section 1, SPEED_TABLE: the points P0 to P15 in du (R1). -/
abbrev SpeedTable := Vector Nat 16

/-- Pk = 68k (R1). -/
def SpeedTable.default : SpeedTable := vecTab 16 fun k => 68 * k.val

/-- One slot's record of the MEASURE_PROFILE (R59). -/
structure SlotProfile where
  enabled : Bool
  divisor : Nat
  low : Nat
  high : Nat
  faultCount : Nat
  hysteresis : Nat
  driveLow : Level
  driveHigh : Level
  smokeLow : SmokeAction
  smokeHigh : SmokeAction
  substitute : Bool
  substituteValue : Nat
  deriving DecidableEq, Repr

/-- Section 2, MEASURE_PROFILE (R59). -/
structure MeasureProfile where
  scanPeriod : Nat
  correction : Bool
  slots : Vector SlotProfile 12
  deriving DecidableEq, Repr

/-- A slot's defaults with the limits given (R59). -/
def SlotProfile.withLimits (low high : Nat) : SlotProfile :=
  ⟨true, 1, low, high, 0, 0, .none, .none, .none, .none, false, 0⟩

/-- The defaults of R59 and of the table of section 3.1. -/
def MeasureProfile.default : MeasureProfile where
  scanPeriod := 5
  correction := true
  slots := vecTab 12 fun k =>
    if k.val = 0 then SlotProfile.withLimits 1984 2112
    else if k.val = 11 then SlotProfile.withLimits 2380 2536
    else SlotProfile.withLimits 0 4095

/-- Section 3, POWER_PROFILE (R72). Bridge time is in 100 ms units. -/
structure PowerProfile where
  bridgeTime : Nat
  ceiling : Nat
  attenuation : Nat
  dim : Nat
  storeFull : Nat
  deriving DecidableEq, Repr

/-- The defaults of R72. -/
def PowerProfile.default : PowerProfile := ⟨20, 512, 128, 128, 2000⟩

/-- Section 4, CADENCE_PROFILE (R78). -/
structure CadenceProfile where
  mode : SourceMode
  debounce : Nat
  pulses : Nat
  constant : Nat
  deriving DecidableEq, Repr

/-- The defaults of R78. -/
def CadenceProfile.default : CadenceProfile := ⟨.auto, 5, 4, 400⟩

/-- Section 5, SMOKE_PROFILE (R89). The idle-puff interval is in 100 ms units, the idle delay and the
cooldown time in seconds, the capacity in units of 256. -/
structure SmokeProfile where
  setpoint : Nat
  gain : Nat
  heaterMax : Nat
  idleDelay : Nat
  idleDrop : Nat
  fanIdle : Nat
  pulseDuty : Nat
  pulseLength : Nat
  puffInterval : Nat
  cooldown : Nat
  capacity : Nat
  deriving DecidableEq, Repr

/-- The defaults of R89. -/
def SmokeProfile.default : SmokeProfile := ⟨200, 4, 200, 60, 40, 48, 255, 60, 30, 30, 0⟩

/-- One lamp's record of the LAMP_PROFILE (R104). The partner is kept as the byte adopted; it is read in
mode ALTERNATE only, where it names another lamp. -/
structure LampRecord where
  mode : LampMode
  brightness : Nat
  gate : Gate
  stopDim : Nat
  countA : Nat
  countB : Nat
  run : LampRun
  partner : Nat
  deriving DecidableEq, Repr

/-- Section 6, LAMP_PROFILE (R104). -/
abbrev LampProfile := Vector LampRecord 8

/-- The defaults of R104. -/
def LampProfile.default : LampProfile := vecTab 8 fun k =>
  { mode := .steady, brightness := 255,
    gate := if k.val = 0 then .fwd else if k.val = 1 then .rev else .any,
    stopDim := 255, countA := 50, countB := 50, run := .continuous,
    partner := if k.val % 2 = 0 then k.val + 1 else k.val - 1 }

/-- Section 8, RADIO_PROFILE (R145). The silence timeout is in 100 ms units. -/
structure RadioProfile where
  primary : Nat
  consist : Nat
  consistReversed : Bool
  speed : Routing
  halt : Routing
  function : Routing
  functionGroup : Routing
  cue : Routing
  volume : Routing
  user : Routing
  silenceTimeout : Nat
  silenceAction : Level
  clearTarget : Bool
  deriving DecidableEq, Repr

/-- The defaults of R145. -/
def RadioProfile.default : RadioProfile :=
  ⟨3, 0, false, .apply, .apply, .apply, .apply, .apply, .apply, .forward, 0, .none, false⟩

/-- One entry of the FUNCTION_MAP (R153): bit k of the mask names lamp k. -/
structure FunctionEntry where
  lamps : Byte
  smoke : Bool
  cue : Nat
  deriving DecidableEq, Repr

/-- Section 9, FUNCTION_MAP (R153). -/
abbrev FunctionMap := Vector FunctionEntry 32

/-- The defaults of R153: F0 names lamps 0 and 1. -/
def FunctionMap.default : FunctionMap := vecTab 32 fun n =>
  ⟨if n.val = 0 then 3#8 else 0#8, false, 0⟩

/-- Section 10, the DRIVE directive (R4). -/
structure DriveDirective where
  mode : DemandMode
  demand : Nat
  direction : Direction
  radioAllowed : Bool
  deriving DecidableEq, Repr

/-- The default working copy of R4. -/
def DriveDirective.default : DriveDirective := ⟨.direct, 0, .fwd, true⟩

/-- Section 11, the SMOKE directive (R90). -/
structure SmokeDirective where
  enable : SmokeEnable
  fill : Bool
  deriving DecidableEq, Repr

/-- The defaults of R90. -/
def SmokeDirective.default : SmokeDirective := ⟨.off, false⟩

/-- Section 12, the LAMP directive (R105). -/
abbrev LampDirective := Vector Activity 8

/-- FOLLOW for all eight (R105). -/
def LampDirective.default : LampDirective := vecTab 8 fun _ => .follow

/-- Section 13, the SOUND directive (R116). -/
structure SoundDirective where
  mount : Bool
  volume : Nat
  deriving DecidableEq, Repr

/-- The defaults of R116. -/
def SoundDirective.default : SoundDirective := ⟨false, 128⟩

/-- Section 14, the FUNCTION directive (R153): bit n belongs to Fn. -/
structure FunctionDirective where
  mask : Word
  states : Word
  deriving DecidableEq, Repr

/-- The default working copy, with mask 0 (R153). -/
def FunctionDirective.default : FunctionDirective := ⟨0#32, 0#32⟩

end Sys2Proof.Machine
end

