-- ==== Sys2Proof/Machine/Timing.lean ====
section
/-! DEFINITION. The intervals the manual fixes, in microseconds, so that a timer is started the same way
everywhere. -/

namespace Sys2Proof.Machine

/-- A number of milliseconds in microseconds. -/
def millis (n : Nat) : Nat := n * 1000

/-- A number of 10 ms units in microseconds. -/
def tenMillis (n : Nat) : Nat := n * 10000

/-- A number of 100 ms units in microseconds. -/
def hundredMillis (n : Nat) : Nat := n * 100000

/-- A number of seconds in microseconds. -/
def seconds (n : Nat) : Nat := n * 1000000

/-- The window limit timer, 1 ms (R38). -/
def windowLimitInterval : Nat := millis 1

/-- The readings timers of the drive, the power supervisor, the cadence unit and the radio receiver, 10 ms
(R43, R75, R87, R155). -/
def readingsInterval : Nat := millis 10

/-- The outage tick, 10 ms (R70). -/
def outageInterval : Nat := millis 10

/-- The wheel-stopped timer, 2.5 s (R81). -/
def wheelStoppedInterval : Nat := millis 2500

/-- The heat stale timer, 5 s (R94). -/
def heatStaleInterval : Nat := seconds 5

/-- The budget tick, 100 ms (R99). -/
def budgetInterval : Nat := millis 100

/-- The effect tick, 10 ms (R107). -/
def effectInterval : Nat := millis 10

/-- The cue slot scan timer, 20 ms (R127). -/
def cueScanInterval : Nat := millis 20

/-- The amplifier hold timer, 1 s (R132). -/
def ampHoldInterval : Nat := seconds 1

/-- The radio gap timer, 3 ms (R140). -/
def gapInterval : Nat := millis 3

/-- The elapsed tick during silence, 100 ms (R150). -/
def elapsedInterval : Nat := millis 100

/-- The adoption unit's sweep timer, 10 ms (R162). -/
def sweepInterval : Nat := millis 10

/-- The quiesce deadline, 3 s (R167). -/
def deadlineInterval : Nat := seconds 3

/-- Bytes of the bank read in one millisecond at 1,280,000 bytes per second (R119). -/
def mountBytesPerMilli : Nat := 1280

end Sys2Proof.Machine
end

