-- ==== Sys2Proof/Machine/State.lean ====
section
/-! DEFINITION. The state of the HD-410: every block of 00_scope section 2 with the state its chapter gives
it, the shared store, the host port, the output latches, and the queue of waiting commands. Each piece of
state has one home; a store byte that shows a block's state is computed from it (Machine/Ops.lean). -/

namespace Sys2Proof.Machine

/-! ### Timers (00_scope, section 4) -/

/-- A timer: stopped, or running toward its due time, in microseconds since the last reset, as counted from
the millisecond in which it was started (log entry 5). -/
inductive Timer
  | stopped
  | running (due : Nat)
  deriving DecidableEq, Repr

/-! ### Part, host port and controls (chapter 10) -/

/-- The part states, in the order of their codes (chapter 10). -/
inductive PartState
  | starting
  | run
  | quiescing
  | quiet
  | resetting
  deriving DecidableEq, Repr

/-- What the host port is doing (R157, R176): chip select released or the instruction and address bytes
still arriving; ignoring the rest after an unknown instruction; or serving data bytes. -/
inductive PortPhase
  | idle
  | ignoring
  | reading
  | writing
  deriving DecidableEq, Repr

/-- The host port: its phase, the current store address (13 bits: the top three are ignored, R157), and the
captures of UPTIME and ATTN_PENDING that serve the rest of a read (R159). -/
structure Port where
  phase : PortPhase
  address : BitVec 13
  uptimeCapture : Option Word
  pendingCapture : Option Half
  deriving DecidableEq, Repr

/-- The seven acknowledgements of a quiesce, in the order of R167's table. -/
structure Acks where
  drive : Bool
  sound : Bool
  smoke : Bool
  sequencer : Bool
  radio : Bool
  lamps : Bool
  adoption : Bool
  deriving DecidableEq, Repr

/-- COMMAND_RESULT (R159). -/
inductive CommandResult
  | none
  | accepted
  | refused
  deriving DecidableEq, Repr

/-! ### Cue slots (R165) -/

inductive CueSlotState
  | empty
  | posted
  | taken
  | done
  | refused
  deriving DecidableEq, Repr

/-- A cue slot's result (12.5), and the outcome of a START or STOP (R124, R126). -/
inductive CueResult
  | none
  | ok
  | noBank
  | noCue
  | noVoice
  | badAction
  deriving DecidableEq, Repr

structure CueSlot where
  state : CueSlotState
  cue : Byte
  action : Byte
  gain : Byte
  result : CueResult
  deriving DecidableEq, Repr

def CueSlot.empty : CueSlot := ⟨.empty, 0#8, 0#8, 0#8, .none⟩

/-! ### Attention and events (chapter 11) -/

/-- The twelve attention sources, in the order of their numbers. -/
inductive AttnSource
  | event
  | listFull
  | verdict
  | cue
  | inbox
  | inboxFull
  | power
  | drive
  | alarm
  | silence
  | soundBank
  | partState
  deriving DecidableEq, Repr

/-- The pending flags and the level of the ATTN output (R170, R171). The configuration stands in the store. -/
structure Attention where
  pending : Vector Bool 12
  asserted : Bool
  deriving DecidableEq, Repr

inductive Severity
  | notice
  | warning
  | fault
  deriving DecidableEq, Repr

/-- The event kinds, in the order of their codes 1 to 18 (section 11.2). -/
inductive EventKind
  | halted
  | trip
  | lockout
  | alarmAssert
  | alarmClear
  | powerBridging
  | powerSpent
  | powerSupplied
  | smokeDry
  | fluidLow
  | cueRefused
  | bankReady
  | bankFaulty
  | radioSilent
  | radioRestored
  | inboxDropped
  | quiesceForced
  | resetDone
  deriving DecidableEq, Repr

/-- An event record (section 11.2). A record zeroed by a reset holds no kind. The repeat count lies in
1 to 255 once filled; the times are UPTIME in milliseconds. -/
structure EventRecord where
  filled : Bool
  kind : Option EventKind
  subject : Byte
  repeats : Nat
  seq : Half
  detail : Half
  first : Word
  last : Word
  deriving DecidableEq, Repr

def EventRecord.zero : EventRecord := ⟨false, none, 0#8, 0, 0#16, 0#16, 0#32, 0#32⟩

/-! ### Adoption unit (section 10.3) -/

/-- The outcome of a validation (R164). CLAMPED carries the number of the first clamped field, REFUSED the code of
the first refusal. -/
inductive Verdict
  | accepted
  | clamped (field : Nat)
  | refused (code : Nat)
  deriving DecidableEq, Repr

/-- The visit in progress (R163, R164): the section, the revision step 1 read, the body bytes step 2 has copied so far,
and the verdict once it stands in the header while the adopted byte is still to come. -/
structure Visit where
  section_ : Fin 15
  revision : Byte
  copied : List Byte
  verdict : Option Verdict
  deriving DecidableEq, Repr

/-- The adoption unit (R161 to R163). `sweep` is the next section index the sweep in progress will visit;
15 while its visit to section 14 is still running. -/
structure Adoption where
  adopted : Vector Bool 15
  marks : Vector Bool 15
  nudges : List (Fin 15)
  sweep : Option Nat
  sweepDeferred : Bool
  sweepTimer : Timer
  visit : Option Visit
  deriving DecidableEq, Repr

/-! ### Drive controller (chapters 1 and 2) -/

/-- The target (R3). -/
structure Target where
  magnitude : Nat
  direction : Direction
  source : Source
  deriving DecidableEq, Repr

/-- The drive states (R22), in the order of their codes. -/
inductive DriveState
  | idle
  | running
  | reversing
  | halted
  | tripped
  | locked
  deriving DecidableEq, Repr

/-- The stepping direction of the ramp (R9). -/
inductive StepDir
  | none
  | up
  | down
  deriving DecidableEq, Repr

/-- The EMF window's states (section 2.6), in the order of their codes. -/
inductive WindowState
  | closed
  | settling
  | sampling
  deriving DecidableEq, Repr

/-- A motor channel: the command C, the integral, the correction, the last EMF value E and the computed duty
D (chapter 1); the count the bridge PWM is driving in the present period (R19); and, for the open window,
whether its EMF slot was requested and the reading delivered (R38, R39). -/
structure ChannelState where
  command : Nat
  integral : Int
  correction : Int
  lastEmf : Nat
  duty : Nat
  pwm : Nat
  requested : Bool
  reading : Option Nat
  deriving DecidableEq, Repr

def ChannelState.reset : ChannelState := ⟨0, 0, 0, 0, 0, 0, false, none⟩

/-- The drive controller. `windowId` numbers the EMF windows, so that a reading delivered for an earlier
window's request is told from one for the present window's (R40; the model's own field). `windowMuted` tells that a profile
with Pe = 0 has been handed over since the open window opened, so that its completion leaves the integral and the
correction (R17). `shortA` and `shortB` are the levels of the SHORT lines as last seen, and `shortSamples` counts the
free values drawn for them (log entry 11; the model's own field). `forced` tells that the quiesce deadline forces the
drive, whose bridges coast before its state follows (R41; the model's own field, clear between commands). -/
structure Drive where
  profile : DriveProfile
  table : SpeedTable
  directive : DriveDirective
  target : Target
  ramp : Nat
  stepDir : StepDir
  rampTimer : Timer
  state : DriveState
  direction : Direction
  tripCount : Nat
  retryTimer : Timer
  forgiveTimer : Timer
  haltSource : Source
  level : Level
  slotCauses : Vector Bool 12
  silenceCause : Bool
  window : WindowState
  windowId : Nat
  windowMuted : Bool
  periodTimer : Timer
  settleTimer : Timer
  limitTimer : Timer
  completed : Half
  closedEarly : Half
  timedOut : Half
  channels : PerChannel ChannelState
  readingsTimer : Timer
  shortA : Bool
  shortB : Bool
  shortSamples : Nat
  forced : Bool
  deriving DecidableEq, Repr

/-- The values of R3, R8, R22 and section 1.5 after power-on and after soft reset. -/
def Drive.reset : Drive where
  profile := .default
  table := .default
  directive := .default
  target := ⟨0, .fwd, .none⟩
  ramp := 0
  stepDir := .none
  rampTimer := .stopped
  state := .idle
  direction := .fwd
  tripCount := 0
  retryTimer := .stopped
  forgiveTimer := .stopped
  haltSource := .none
  level := .none
  slotCauses := Vector.replicate 12 false
  silenceCause := false
  window := .closed
  windowId := 0
  windowMuted := false
  periodTimer := .stopped
  settleTimer := .stopped
  limitTimer := .stopped
  completed := 0#16
  closedEarly := 0#16
  timedOut := 0#16
  channels := ⟨.reset, .reset⟩
  readingsTimer := .stopped
  shortA := false
  shortB := false
  shortSamples := 0
  forced := false

/-! ### Measurement sequencer (chapter 3) -/

/-- An alarm's state (R45), in the order of its codes. -/
inductive AlarmState
  | clear
  | counting
  | asserted
  deriving DecidableEq, Repr

/-- A slot's record (R45). -/
structure Slot where
  raw : Nat
  value : Nat
  substituted : Bool
  counter : Nat
  alarm : AlarmState
  side : Side
  deriving DecidableEq, Repr

def Slot.reset : Slot := ⟨0, 0, false, 0, .clear, .none⟩

/-- An EMF request (R52): the window it answers, and the slots whose turn has not come yet. -/
structure EmfRequest where
  window : Nat
  slots : List SlotIx
  deriving DecidableEq, Repr

/-- The conversion in flight (R49), with the window of the request it answers, if any. -/
structure Conversion where
  slot : SlotIx
  request : Option Nat
  deriving DecidableEq, Repr

/-- The measurement sequencer (R45). `pass` holds the slots of the pass in progress whose conversion has
not begun; `requests` is the EMF request list, its head the one being served. -/
structure Sequencer where
  profile : MeasureProfile
  waiting : Option MeasureProfile
  slots : Vector Slot 12
  offset : Int
  passCounter : Byte
  scanTimer : Timer
  passDeferred : Bool
  pass : Option (List SlotIx)
  requests : List EmfRequest
  inFlight : Option Conversion
  deriving DecidableEq, Repr

def Sequencer.reset : Sequencer :=
  ⟨.default, none, Vector.replicate 12 .reset, 0, 0#8, .stopped, false, none, [], none⟩

/-! ### Power supervisor (chapter 4) -/

/-- The power states, in the order of their codes. -/
inductive PowerState
  | supplied
  | bridging
  | spent
  deriving DecidableEq, Repr

/-- The power supervisor (R64). -/
structure Power where
  profile : PowerProfile
  state : PowerState
  trackLost : Bool
  storeLow : Bool
  outageTimer : Timer
  outage : Nat
  bridge : Nat
  lastOutage : Nat
  outageCount : Half
  spentCount : Half
  charge : Bool
  readingsTimer : Timer
  deriving DecidableEq, Repr

/-- The values of R64. -/
def Power.reset : Power :=
  ⟨.default, .supplied, false, false, .stopped, 0, 0, 0, 0#16, 0#16, false, .stopped⟩

/-! ### Cadence unit (chapter 5) -/

/-- The cam states, in the order of their codes. -/
inductive CamState
  | noneSeen
  | live
  | stopped
  deriving DecidableEq, Repr

/-- The source in force (R83). -/
inductive ChuffSource
  | cam
  | synthetic
  deriving DecidableEq, Repr

/-- The cadence unit (R77). Edge times are in 10 µs, chuff times in ms, both since the last reset. -/
structure Cadence where
  profile : CadenceProfile
  cam : CamState
  lastEdge : Option Nat
  period : Nat
  speed : Nat
  stoppedTimer : Timer
  rejected : Half
  odometer : Word
  source : ChuffSource
  heldV : Nat
  interval : Option Nat
  lastChuff : Option Nat
  chuffTimer : Timer
  chuffs : Half
  readingsTimer : Timer
  deriving DecidableEq, Repr

/-- The values of R77, the source settled by the default mode (R83). -/
def Cadence.reset : Cadence :=
  ⟨.default, .noneSeen, none, 0, 0, .stopped, 0#16, 0#32, .synthetic, 0, none, none, .stopped, 0#16,
    .stopped⟩

/-! ### Smoke unit (chapter 6) -/

/-- The smoke states, in the order of their codes. -/
inductive SmokeState
  | off
  | warming
  | ready
  | idling
  | held
  | dry
  deriving DecidableEq, Repr

/-- The smoke unit (R88), with the counts its two PWM outputs drive in the present period (R94). -/
structure Smoke where
  profile : SmokeProfile
  directive : SmokeDirective
  state : SmokeState
  enabled : Bool
  powerHold : Bool
  alarmHold : Vector Bool 12
  alarmDry : Vector Bool 12
  temperature : Nat
  computed : Nat
  heater : Nat
  fan : Nat
  staleTimer : Timer
  stale : Bool
  idleTimer : Timer
  puffTimer : Timer
  pulseTimer : Timer
  cooldownTimer : Timer
  budgetTimer : Timer
  budget : Nat
  heaterPwm : Nat
  fanPwm : Nat
  deriving DecidableEq, Repr

/-- The values of R88 after power-on. -/
def Smoke.reset : Smoke where
  profile := .default
  directive := .default
  state := .off
  enabled := false
  powerHold := false
  alarmHold := Vector.replicate 12 false
  alarmDry := Vector.replicate 12 false
  temperature := 0
  computed := 0
  heater := 0
  fan := 0
  staleTimer := .stopped
  stale := false
  idleTimer := .stopped
  puffTimer := .stopped
  pulseTimer := .stopped
  cooldownTimer := .stopped
  budgetTimer := .stopped
  budget := 0
  heaterPwm := 0
  fanPwm := 0

/-! ### Lamp unit (chapter 7) -/

/-- The phase of an effect counter (R103), in the order of its codes. -/
inductive Phase
  | a
  | b
  | ended
  deriving DecidableEq, Repr

/-- A lamp (R103), with the count its PWM drives in the present period (R112). -/
structure Lamp where
  active : Bool
  phase : Phase
  count : Nat
  level : Nat
  duty : Nat
  pwm : Nat
  deriving DecidableEq, Repr

def Lamp.reset : Lamp := ⟨false, .a, 0, 0, 0, 0⟩

/-- The lamp unit (R103). `ticks` counts effect ticks modulo 10, for the writing of every tenth (R114). -/
structure Lamps where
  profile : LampProfile
  directive : LampDirective
  lamps : Vector Lamp 8
  lfsr : BitVec 16
  tickTimer : Timer
  ticks : Nat
  direction : Direction
  standing : Bool
  factor : Nat
  deriving DecidableEq, Repr

/-- The values of R103. -/
def Lamps.reset : Lamps :=
  ⟨.default, .default, Vector.replicate 8 .reset, 0xACE1#16, .stopped, 0, .fwd, true, 256⟩

/-! ### Sound engine (chapter 8) -/

/-- The bank states, in the order of their codes. -/
inductive BankState
  | absent
  | mounting
  | ready
  | faulty
  deriving DecidableEq, Repr

/-- The bank fault reasons, in the order of their codes. -/
inductive BankFault
  | none
  | format
  | counts
  | crc
  | cueRecord
  | clipRecord
  deriving DecidableEq, Repr

/-- A cue record of the bank, its bytes as stored (12.7). -/
structure CueRecord where
  start : Nat
  loop : Nat
  tail : Nat
  priority : Nat
  gain : Nat
  kind : Nat
  deriving DecidableEq, Repr

/-- A clip record of the bank (12.7). -/
structure ClipRecord where
  address : Nat
  length : Nat
  deriving DecidableEq, Repr

/-- The kept header (R119), with the bank CRC it holds. -/
structure BankHeader where
  cueCount : Nat
  clipCount : Nat
  length : Nat
  crc : Word
  deriving DecidableEq, Repr

/-- The voice states, in the order of their codes (R122). -/
inductive VoiceState
  | free
  | leading
  | looping
  | tailing
  | fading
  deriving DecidableEq, Repr

/-- Which of its cue's clips a voice plays (R122). -/
inductive Part
  | start
  | loop
  | tail
  deriving DecidableEq, Repr

/-- A voice's record (R122). -/
structure Voice where
  state : VoiceState
  cue : Nat
  part : Part
  clip : Nat
  position : Nat
  gain : Nat
  fade : Nat
  release : Bool
  deriving DecidableEq, Repr

/-- A FREE voice that has played nothing (its other fields: log entry 12). -/
def Voice.reset : Voice := ⟨.free, 0, .start, 0, 0, 0, 320, false⟩

/-- The sound engine (R115), with its working copies (R116) and the sample last sent on the link (R130). -/
structure Sound where
  directive : SoundDirective
  chuffLoad : Bool
  bank : BankState
  fault : BankFault
  cues : List CueRecord
  clips : List ClipRecord
  progress : Nat
  header : Option BankHeader
  voices : Vector Voice 6
  order : List (Fin 6)
  lastChuff : Half
  volume : Nat
  attenuation : Nat
  clipCounter : Half
  noBank : Half
  noCue : Half
  noVoice : Half
  badAction : Half
  steals : Half
  ampTimer : Timer
  ampEnabled : Bool
  scanTimer : Timer
  output : Int
  deriving DecidableEq, Repr

/-- The values of R115 and R116. -/
def Sound.reset : Sound where
  directive := .default
  chuffLoad := true
  bank := .absent
  fault := .none
  cues := []
  clips := []
  progress := 0
  header := none
  voices := Vector.replicate 6 .reset
  order := []
  lastChuff := 0#16
  volume := 128
  attenuation := 256
  clipCounter := 0#16
  noBank := 0#16
  noCue := 0#16
  noVoice := 0#16
  badAction := 0#16
  steals := 0#16
  ampTimer := .stopped
  ampEnabled := false
  scanTimer := .stopped
  output := 0

/-! ### Radio receiver and function table (chapter 9) -/

/-- The frame finder's states, in the order of their codes (R137). -/
inductive FinderState
  | hunt
  | sync
  | length
  | body
  | check
  deriving DecidableEq, Repr

/-- The frame buffer, and a completed frame (R136): LEN, the bytes from the address through the payload, and
the CRC bytes. -/
structure Frame where
  len : Byte
  body : List Byte
  crc : List Byte
  deriving DecidableEq, Repr

def Frame.empty : Frame := ⟨0#8, [], []⟩

/-- How a frame was addressed (R142), in the order of its codes. -/
inductive Via
  | primary
  | consist
  | broadcast
  deriving DecidableEq, Repr

/-- An entry of the recent-senders table (R143); `heard` is in ms since the last reset. -/
structure Sender where
  sender : Byte
  counter : Byte
  heard : Nat
  deriving DecidableEq, Repr

/-- The silence states, in the order of their codes (R137). -/
inductive SilenceState
  | disarmed
  | listening
  | silent
  deriving DecidableEq, Repr

/-- An inbound record (section 9.4). -/
structure InboundRecord where
  filled : Bool
  seq : Byte
  sender : Byte
  counter : Byte
  command : Byte
  via : Via
  payload : List Byte
  deriving DecidableEq, Repr

def InboundRecord.zero : InboundRecord := ⟨false, 0#8, 0#8, 0#8, 0#8, .primary, []⟩

/-- The radio receiver (R137). `completed` is a completed frame whose judgement (R141) has not been taken
yet (log entry 13). -/
structure Radio where
  profile : RadioProfile
  finder : FinderState
  buffer : Frame
  completed : Option Frame
  gapTimer : Timer
  senders : List Sender
  silence : SilenceState
  heard : Bool
  silenceTimer : Timer
  elapsedTimer : Timer
  elapsed : Nat
  inboundSeq : Byte
  framesGood : Half
  crcBad : Half
  abandoned : Half
  notAddressed : Half
  duplicates : Half
  refused : Half
  heldOff : Half
  inboundDropped : Half
  readingsTimer : Timer
  deriving DecidableEq, Repr

/-- The values of R137. -/
def Radio.reset : Radio where
  profile := .default
  finder := .hunt
  buffer := .empty
  completed := none
  gapTimer := .stopped
  senders := []
  silence := .disarmed
  heard := false
  silenceTimer := .stopped
  elapsedTimer := .stopped
  elapsed := 0
  inboundSeq := 0#8
  framesGood := 0#16
  crcBad := 0#16
  abandoned := 0#16
  notAddressed := 0#16
  duplicates := 0#16
  refused := 0#16
  heldOff := 0#16
  inboundDropped := 0#16
  readingsTimer := .stopped

/-- One function flag with the source of its last write (R152). -/
structure FunctionFlag where
  on : Bool
  source : Source
  deriving DecidableEq, Repr

/-- The function table (R152), with the working copies of the FUNCTION_MAP and the FUNCTION directive. -/
structure Functions where
  flags : Vector FunctionFlag 32
  map : FunctionMap
  directive : FunctionDirective
  deriving DecidableEq, Repr

def Functions.reset : Functions :=
  ⟨Vector.replicate 32 ⟨false, .none⟩, .default, .default⟩

/-! ### The machine -/

/-- The whole state. `time` is the milliseconds since the last reset, of which UPTIME is the low 32 bits
(R159). `store` holds the bytes of the attention configuration, the sections, the readings groups, the
retained group and host scratch; the control words, cue slots, event records and inbound records have
fields of their own. `flash` is the sound bank's serial flash. `draws` counts the free values drawn
(the model's own field). `pending` is the queue of waiting commands, first in, first out. -/
structure State where
  time : Nat
  part : PartState
  resetMark : Bool
  deadline : Timer
  acks : Acks
  command : Byte
  commandResult : CommandResult
  port : Port
  store : Memory
  cueSlots : Vector CueSlot 8
  events : Vector EventRecord 24
  eventSeq : Half
  inbound : Vector InboundRecord 8
  attention : Attention
  adoption : Adoption
  drive : Drive
  sequencer : Sequencer
  power : Power
  cadence : Cadence
  smoke : Smoke
  lamps : Lamps
  sound : Sound
  radio : Radio
  functions : Functions
  flash : Memory
  draws : Nat
  pending : List Instr
  deriving DecidableEq, Repr

/-- The reasons a command could stop the block with a fault. There are none: the manual gives every command
an effect in every state, and an access to any 16-bit address reaches one of the 8192 store bytes
(R157), so nobody raises a fault. -/
inductive Fault
  deriving DecidableEq, Repr

/-- The reasons a command could be refused. -/
inductive Refusal
  /-- Raised by `exec`'s arm of a command that has no meaning yet; safe, since nothing is claimed of it. No
  arm raises it: every command has its meaning. -/
  | notModelled (mnemonic : String)
  deriving DecidableEq, Repr

def Acks.none : Acks := ⟨false, false, false, false, false, false, false⟩

def Adoption.reset : Adoption :=
  ⟨Vector.replicate 15 false, Vector.replicate 15 false, [], none, false, .stopped, none⟩

def Port.reset : Port := ⟨.idle, 0#13, none, none⟩

/-- The machine right after a power-on reset (R168): every block at its reset value, the store zeroed, the
part state STARTING, and no command waiting. The flash and the queue are outside the reset: here the flash
lists nothing. -/
def State.reset : State where
  time := 0
  part := .starting
  resetMark := false
  deadline := .stopped
  acks := .none
  command := 0#8
  commandResult := .none
  port := .reset
  store := []
  cueSlots := Vector.replicate 8 .empty
  events := Vector.replicate 24 .zero
  eventSeq := 0#16
  inbound := Vector.replicate 8 .zero
  attention := ⟨Vector.replicate 12 false, false⟩
  adoption := .reset
  drive := .reset
  sequencer := .reset
  power := .reset
  cadence := .reset
  smoke := .reset
  lamps := .reset
  sound := .reset
  radio := .reset
  functions := .reset
  flash := []
  draws := 0
  pending := []

/-! ### Named updates, one for each field (their lemmas: Laws/State.lean) -/

def State.withTime (s : State) (x : Nat) : State := { s with time := x }
def State.withPart (s : State) (x : PartState) : State := { s with part := x }
def State.withResetMark (s : State) (x : Bool) : State := { s with resetMark := x }
def State.withDeadline (s : State) (x : Timer) : State := { s with deadline := x }
def State.withAcks (s : State) (x : Acks) : State := { s with acks := x }
def State.withCommand (s : State) (x : Byte) : State := { s with command := x }
def State.withCommandResult (s : State) (x : CommandResult) : State := { s with commandResult := x }
def State.withPort (s : State) (x : Port) : State := { s with port := x }
def State.withStore (s : State) (x : Memory) : State := { s with store := x }
def State.withCueSlots (s : State) (x : Vector CueSlot 8) : State := { s with cueSlots := x }
def State.withEvents (s : State) (x : Vector EventRecord 24) : State := { s with events := x }
def State.withEventSeq (s : State) (x : Half) : State := { s with eventSeq := x }
def State.withInbound (s : State) (x : Vector InboundRecord 8) : State := { s with inbound := x }
def State.withAttention (s : State) (x : Attention) : State := { s with attention := x }
def State.withAdoption (s : State) (x : Adoption) : State := { s with adoption := x }
def State.withDrive (s : State) (x : Drive) : State := { s with drive := x }
def State.withSequencer (s : State) (x : Sequencer) : State := { s with sequencer := x }
def State.withPower (s : State) (x : Power) : State := { s with power := x }
def State.withCadence (s : State) (x : Cadence) : State := { s with cadence := x }
def State.withSmoke (s : State) (x : Smoke) : State := { s with smoke := x }
def State.withLamps (s : State) (x : Lamps) : State := { s with lamps := x }
def State.withSound (s : State) (x : Sound) : State := { s with sound := x }
def State.withRadio (s : State) (x : Radio) : State := { s with radio := x }
def State.withFunctions (s : State) (x : Functions) : State := { s with functions := x }
def State.withFlash (s : State) (x : Memory) : State := { s with flash := x }
def State.withDraws (s : State) (x : Nat) : State := { s with draws := x }
def State.withPending (s : State) (x : List Instr) : State := { s with pending := x }

end Sys2Proof.Machine
end

