-- ==== Sys2Proof/Machine/Ops.lean ====
section
/-! DEFINITION. The operations every block shares: timers, the layout of the shared store (12.2 to 12.6), the
reading of one store byte as the host sees it, and the writing of a readings group (R160). -/

namespace Sys2Proof.Machine

/-! ### Timers -/

/-- Whether a timer runs. -/
def Timer.isRunning : Timer → Bool
  | .stopped => false
  | .running _ => true

/-- The timer started at the present millisecond with an interval in microseconds: a timer that runs begins
again from its full interval (00_scope, section 4). -/
def State.startTimer (s : State) (micros : Nat) : Timer := .running (millis s.time + micros)

/-- The timer started unless its interval is 0, which expires at once (R97) or turns it off (R89). -/
def State.startUnlessZero (s : State) (micros : Nat) : Timer :=
  if micros = 0 then .stopped else s.startTimer micros

/-- Whether a timer's interval is over: its due time lies before the end of the present millisecond. A timer that an
event has restarted does not expire by the interval it had before (R81, R85, R98, R140, R149; log entry 5). -/
def State.hasExpired (s : State) : Timer → Bool
  | .stopped => false
  | .running due => decide (due < millis (s.time + 1))

/-- The time left on a timer in 100 ms units, 0 when stopped (R155; truncated, log entry 14). -/
def State.timeLeft (s : State) : Timer → Nat
  | .stopped => 0
  | .running due => (due - millis s.time) / hundredMillis 1

/-- UPTIME: milliseconds since the last reset, wrapping (R159). -/
def State.uptime (s : State) : Word := BitVec.ofNat 32 s.time

/-! ### Codes of the states, in the order their chapters list them (12.6) -/

def PartState.code : PartState → Nat
  | .starting => 0
  | .run => 1
  | .quiescing => 2
  | .quiet => 3
  | .resetting => 4

def CommandResult.code : CommandResult → Nat
  | .none => 0
  | .accepted => 1
  | .refused => 3

def CueSlotState.code : CueSlotState → Nat
  | .empty => 0
  | .posted => 1
  | .taken => 2
  | .done => 3
  | .refused => 4

def CueResult.code : CueResult → Nat
  | .none => 0
  | .ok => 1
  | .noBank => 2
  | .noCue => 3
  | .noVoice => 4
  | .badAction => 5

def Severity.code : Severity → Nat
  | .notice => 0
  | .warning => 1
  | .fault => 2

/-- The event codes of section 11.2. -/
def EventKind.code : EventKind → Nat
  | .halted => 1
  | .trip => 2
  | .lockout => 3
  | .alarmAssert => 4
  | .alarmClear => 5
  | .powerBridging => 6
  | .powerSpent => 7
  | .powerSupplied => 8
  | .smokeDry => 9
  | .fluidLow => 10
  | .cueRefused => 11
  | .bankReady => 12
  | .bankFaulty => 13
  | .radioSilent => 14
  | .radioRestored => 15
  | .inboxDropped => 16
  | .quiesceForced => 17
  | .resetDone => 18

/-- The severities of section 11.2. -/
def EventKind.severity : EventKind → Severity
  | .halted => .notice
  | .trip => .warning
  | .lockout => .fault
  | .alarmAssert => .warning
  | .alarmClear => .notice
  | .powerBridging => .notice
  | .powerSpent => .warning
  | .powerSupplied => .notice
  | .smokeDry => .warning
  | .fluidLow => .notice
  | .cueRefused => .notice
  | .bankReady => .notice
  | .bankFaulty => .warning
  | .radioSilent => .warning
  | .radioRestored => .notice
  | .inboxDropped => .notice
  | .quiesceForced => .warning
  | .resetDone => .notice

def Via.code : Via → Nat
  | .primary => 0
  | .consist => 1
  | .broadcast => 2

/-! ### Store layout (12.2 to 12.6) -/

/-- Where a section stands (12.2, 12.4). -/
def sectionBase (k : Fin 15) : Nat :=
  [0x0100, 0x0120, 0x0150, 0x0210, 0x0220, 0x0230, 0x0250, 0x02A0, 0x02B0, 0x02D0,
    0x0440, 0x0450, 0x0460, 0x0470, 0x0480].getD k.val 0

/-- How many body bytes a section's fields take, from offset 4 on (12.4). -/
def sectionLength (k : Fin 15) : Nat :=
  [22, 32, 182, 9, 5, 13, 64, 1, 15, 96, 5, 2, 8, 2, 8].getD k.val 0

/-- The section whose header or body holds an address, with the offset in it. -/
def sectionAt (a : Nat) : Option (Fin 15 × Nat) :=
  ((List.finRange 15).find? fun k => sectionBase k ≤ a && a < sectionBase k + 4 + sectionLength k).map
    fun k => (k, a - sectionBase k)

def attnConfigBase : Nat := 0x0020
def cueSlotBase : Nat := 0x0500
def readingsBase : Nat := 0x0800
def driveGroup : Nat := 0x0800
def sequencerGroup : Nat := 0x0840
def powerGroup : Nat := 0x08C0
def cadenceGroup : Nat := 0x08E0
def smokeGroup : Nat := 0x0900
def lampGroup : Nat := 0x0930
def soundGroup : Nat := 0x0970
def radioGroup : Nat := 0x09F0
def retainedGroup : Nat := 0x0A70
def eventBase : Nat := 0x0C00
def inboundBase : Nat := 0x0E00
def scratchBase : Nat := 0x1000

/-- What a host write to a byte meets (R158). -/
inductive AccessClass
  | attnTake
  | nudge
  | command
  | attnConfig
  | revision (k : Fin 15)
  | body (k : Fin 15)
  | cueState (n : Fin 8)
  | cueField (n : Fin 8) (offset : Nat)
  | eventState (n : Fin 24)
  | inboundState (n : Fin 8)
  | scratch
  /-- A byte the host does not own, or one outside every region: the write is discarded. -/
  | discarded
  deriving DecidableEq, Repr

/-- The access class of each byte of the store (R158; the bytes given no field by chapter 12 are
unassigned). -/
def accessClass (a : Nat) : AccessClass :=
  if a = 0x0A then .attnTake
  else if a = 0x0B then .nudge
  else if a = 0x0C then .command
  else if 0x20 ≤ a ∧ a < 0x39 then .attnConfig
  else if 0x0500 ≤ a ∧ a < 0x0540 then
    let n : Fin 8 := Fin.ofNat 8 ((a - 0x0500) / 8)
    let j := (a - 0x0500) % 8
    if j = 0 then .cueState n else if j ≤ 3 then .cueField n j else .discarded
  else if 0x0C00 ≤ a ∧ a < 0x0D80 then
    if (a - 0x0C00) % 16 = 0 then .eventState (Fin.ofNat 24 ((a - 0x0C00) / 16)) else .discarded
  else if 0x0E00 ≤ a ∧ a < 0x0EC0 then
    if (a - 0x0E00) % 24 = 0 then .inboundState (Fin.ofNat 8 ((a - 0x0E00) / 24)) else .discarded
  else if 0x1000 ≤ a then .scratch
  else match sectionAt a with
    | some (k, 0) => .revision k
    | some (k, n + 1) => if n < 3 then .discarded else .body k
    | none => .discarded

/-! ### The store as the host and the blocks read it -/

/-- A byte of the store's memory. -/
def State.storeAt (s : State) (a : Nat) : Byte := s.store.read 0#8 a

/-- Bytes written into the store's memory by one of the controller's blocks, or by a host write taken. -/
def State.writeStore (s : State) (a : Nat) (bs : List Byte) : State :=
  s.withStore (s.store.write 0#8 a bs)

/-- A section's revision byte. -/
def State.revision (s : State) (k : Fin 15) : Byte := s.storeAt (sectionBase k)

/-- A section's adopted byte. -/
def State.adoptedByte (s : State) (k : Fin 15) : Byte := s.storeAt (sectionBase k + 1)

/-- A section's body as it stands. -/
def State.sectionBody (s : State) (k : Fin 15) : List Byte :=
  s.store.readRun 0#8 (sectionBase k + 4) (sectionLength k)

/-- ATTN_PENDING, one bit for each source (R159). -/
def State.attnPending (s : State) : Half := BitVec.ofNat 16 (maskOf s.attention.pending.toList)

/-- A byte of the control words (R159, 12.3). -/
def State.controlByte (s : State) : Nat → Byte
  | 0x00 => 0x10#8
  | 0x01 => 0x4A#8
  | 0x02 => 1#8
  | 0x03 => BitVec.ofNat 8 s.part.code
  | 0x04 => s.uptime.extractLsb' 0 8
  | 0x05 => s.uptime.extractLsb' 8 8
  | 0x06 => s.uptime.extractLsb' 16 8
  | 0x07 => s.uptime.extractLsb' 24 8
  | 0x08 => s.attnPending.extractLsb' 0 8
  | 0x09 => s.attnPending.extractLsb' 8 8
  | 0x0C => s.command
  | 0x0D => BitVec.ofNat 8 s.commandResult.code
  | _ => 0#8

/-- A cue slot's bytes (12.5). -/
def CueSlot.bytes (c : CueSlot) : List Byte :=
  [BitVec.ofNat 8 c.state.code, c.cue, c.action, c.gain, BitVec.ofNat 8 c.result.code]

/-- An event record's bytes (12.5). -/
def EventRecord.bytes (e : EventRecord) : List Byte :=
  [flagByte e.filled,
    match e.kind with
    | none => 0#8
    | some k => BitVec.ofNat 8 (k.code + 64 * k.severity.code),
    e.subject, BitVec.ofNat 8 e.repeats] ++
    le16 e.seq.toNat ++ le16 e.detail.toNat ++ le32 e.first.toNat ++ le32 e.last.toNat

/-- An inbound record's bytes: the payload takes 11, the rest of them 0 (12.5, section 9.4). -/
def InboundRecord.bytes (r : InboundRecord) : List Byte :=
  [flagByte r.filled, r.seq, r.sender, r.counter, r.command, BitVec.ofNat 8 r.via.code,
    BitVec.ofNat 8 r.payload.length] ++ r.payload.take 11

/-- The byte at a store address, as a host READ finds it outside the captures of R159. -/
def State.storeByte (s : State) (a : Nat) : Byte :=
  if a < 0x10 then s.controlByte a
  else if 0x0500 ≤ a ∧ a < 0x0540 then
    s.cueSlots[Fin.ofNat 8 ((a - 0x0500) / 8)].bytes.getD ((a - 0x0500) % 8) 0#8
  else if 0x0C00 ≤ a ∧ a < 0x0D80 then
    s.events[Fin.ofNat 24 ((a - 0x0C00) / 16)].bytes.getD ((a - 0x0C00) % 16) 0#8
  else if 0x0E00 ≤ a ∧ a < 0x0EC0 then
    s.inbound[Fin.ofNat 8 ((a - 0x0E00) / 24)].bytes.getD ((a - 0x0E00) % 24) 0#8
  else s.storeAt a

/-! ### Readings groups (R160) -/

/-- A writing of a readings group: every field from offset `offset` on, then the write count, the group's
first byte, raised by 1, wrapping (R160). -/
def State.writeGroup (s : State) (base offset : Nat) (fields : List Byte) : State :=
  (s.writeStore (base + offset) fields).writeStore base [s.storeAt base + 1#8]

/-- Whether the blocks' timers and inputs are taken: part states RUN, QUIESCING and QUIET. -/
def PartState.active : PartState → Bool
  | .run | .quiescing | .quiet => true
  | .starting | .resetting => false

end Sys2Proof.Machine
end

