-- ==== Sys2Proof/Machine/Flags.lean ====
section
/-! DEFINITION. The attention unit: the twelve pending flags, their configuration read live from the store,
and the level of ATTN (section 11.1). -/

namespace Sys2Proof.Machine

/-- The number of an attention source (section 11.1). -/
def AttnSource.index : AttnSource → Fin 12
  | .event => 0
  | .listFull => 1
  | .verdict => 2
  | .cue => 3
  | .inbox => 4
  | .inboxFull => 5
  | .power => 6
  | .drive => 7
  | .alarm => 8
  | .silence => 9
  | .soundBank => 10
  | .partState => 11

/-- A priority or threshold byte: above 7 it is read as 7 (R171). -/
def urgency (b : Byte) : Nat := min b.toNat 7

/-- Whether a source is unmasked and its priority number is not greater than the threshold (R171). -/
def State.attnListens (s : State) (n : Fin 12) : Bool :=
  s.storeAt (attnConfigBase + n.val) == 0#8 &&
    decide (urgency (s.storeAt (attnConfigBase + 12 + n.val)) ≤ urgency (s.storeAt (attnConfigBase + 24)))

/-- The level ATTN has by R171: some source is pending, unmasked and within the threshold. -/
def State.attnLevel (s : State) : Bool :=
  (List.finRange 12).any fun n => s.attention.pending[n] && s.attnListens n

/-- ATTN evaluated again (R171). -/
def State.evaluateAttn (s : State) : State :=
  s.withAttention { s.attention with asserted := s.attnLevel }

/-- A pending flag set to a value, and ATTN evaluated again (R170, R171). -/
def State.setPending (s : State) (n : Fin 12) (b : Bool) : State :=
  (s.withAttention { s.attention with pending := s.attention.pending.set n b }).evaluateAttn

/-- A raise of an attention source: taken in part states RUN, QUIESCING and QUIET (R170). -/
def State.raise (s : State) (a : AttnSource) : State :=
  if s.part.active then s.setPending a.index true else s

/-- A host write to ATTN_TAKE: a value 0 to 11 clears that source's flag, other values are ignored
(R159, R170). -/
def State.takeAttn (s : State) (v : Byte) : State :=
  if h : v.toNat < 12 then s.setPending ⟨v.toNat, h⟩ false else s

end Sys2Proof.Machine
end

