-- ==== Sys2Proof/Machine/EventList.lean ====
section
/-! DEFINITION. The event list: the taking of a raised event, with its repeats, its caps and its sequence
counter (section 11.2). -/

namespace Sys2Proof.Machine

/-- The FILLED record of a kind and subject, if there is one (R172 step 1). -/
def State.findRepeat (s : State) (k : EventKind) (subject : Byte) : Option (Fin 24) :=
  (List.finRange 24).find? fun i =>
    s.events[i].filled && s.events[i].kind == some k && s.events[i].subject == subject

/-- The lowest-numbered FREE record. -/
def State.freeEvent (s : State) : Option (Fin 24) :=
  (List.finRange 24).find? fun i => !s.events[i].filled

/-- Whether a record counts toward the cap of 20: FILLED, of severity NOTICE or WARNING (R172 step 2). -/
def EventRecord.capped (e : EventRecord) : Bool :=
  e.filled && match e.kind with
    | some k => k.severity != .fault
    | none => false

/-- The next seq (R172). -/
def State.nextEventSeq (s : State) : Half := s.eventSeq + 1#16

/-- The record an event that is no repeat may fill, if it has room (R172 step 2). -/
def State.eventRoom (s : State) (k : EventKind) : Option (Fin 24) :=
  if (k.severity = .fault ∨ s.events.toList.countP EventRecord.capped < 20) ∧
      s.events.toList.all (fun e => !(e.filled && e.seq == s.nextEventSeq))
  then s.freeEvent else none

/-- The record a fill writes (R172 step 3). -/
def State.filledRecord (s : State) (k : EventKind) (subject : Byte) (detail : Half) : EventRecord :=
  ⟨true, some k, subject, 1, s.nextEventSeq, detail, s.uptime, s.uptime⟩

/-- A repeat's change of its record (R172 step 1). -/
def State.repeatedRecord (s : State) (e : EventRecord) (detail : Half) : EventRecord :=
  { e with repeats := min (e.repeats + 1) 255, last := s.uptime, detail := detail }

/-- An event raised, with its subject and detail (R172, R173). In STARTING and RESETTING it is not taken. -/
def State.event (s : State) (k : EventKind) (subject : Byte) (detail : Half) : State :=
  if !s.part.active then s
  else match s.findRepeat k subject with
    | some i => (s.withEvents (s.events.set i (s.repeatedRecord s.events[i] detail))).raise .event
    | none =>
      match s.eventRoom k with
      | some i =>
        ((s.withEvents (s.events.set i (s.filledRecord k subject detail))).withEventSeq
          s.nextEventSeq).raise .event
      | none => s.raise .listFull

/-- A record freed by the host: its other bytes keep their values (R174). -/
def State.freeEventRecord (s : State) (n : Fin 24) : State :=
  s.withEvents (vecModify s.events n fun e => { e with filled := false })

end Sys2Proof.Machine
end

