-- ==== Sys2Proof/Machine/Smoke.lean ====
section
/-! DEFINITION. The smoke unit (chapter 6): its states, hold causes and dry latch, the heater law, the fan, the
fluid budget, and the meanings of the unit's own commands. -/

namespace Sys2Proof.Machine

def SmokeState.code : SmokeState → Nat
  | .off => 0
  | .warming => 1
  | .ready => 2
  | .idling => 3
  | .held => 4
  | .dry => 5

/-- WARMING, READY and IDLING are the heating states (section 6.2). -/
def SmokeState.heating : SmokeState → Bool
  | .warming | .ready | .idling => true
  | .off | .held | .dry => false

/-! ### Reading the unit's state -/

/-- Whether a hold cause is in force (R92). -/
def Smoke.held (u : Smoke) : Bool := u.powerHold || u.alarmHold.toList.any id

/-- The low mark of the fluid budget (R99). -/
def Smoke.lowMark (u : Smoke) : Nat := u.profile.capacity * 256 / 8

/-- The setpoint in use: less the idle drop in IDLING (R93, R102). DESIGN CHOICE (log entry 60): R89 and R95 apply a new
setpoint or idle drop, and a move into or out of IDLING, from the next HEAT value, and R102 does not say which setpoint
is in use until then; readings written before that value show the new one at once. -/
def Smoke.setpoint (u : Smoke) : Nat :=
  if u.state = .idling then u.profile.setpoint - u.profile.idleDrop else u.profile.setpoint

/-- The computed duty of the control law: clamp(Kh × (S − T), 0, Hmax), the product signed (R93). -/
def Smoke.heaterLaw (u : Smoke) : Nat :=
  (clampInt ((u.profile.gain : Int) * ((u.setpoint : Int) - u.temperature)) 0 u.profile.heaterMax).toNat

/-- The fan duty of R97's table, by the first row that applies. -/
def State.fanDuty (s : State) : Nat :=
  let u := s.smoke
  if s.part = .quiescing ∨ s.part = .quiet ∨ s.part = .resetting then 0
  else if u.held then 0
  else if u.state.heating && u.pulseTimer.isRunning then u.profile.pulseDuty
  else if u.state.heating then u.profile.fanIdle
  else if (u.state = .off ∨ u.state = .dry) ∧ u.cooldownTimer.isRunning then u.profile.fanIdle
  else 0

/-- The enabled value: ON, or FOLLOW with a function on whose map entry has its smoke flag set (R90). -/
def State.smokeWanted (s : State) : Bool :=
  match s.smoke.directive.enable with
  | .off => false
  | .on => true
  | .follow => (List.finRange 32).any fun n => s.functions.flags[n].on && s.functions.map[n].smoke

/-! ### Readings (R102) -/

/-- The smoke group from offset 1 on (12.6). -/
def Smoke.groupBytes (u : Smoke) : List Byte :=
  le8 u.state.code ++ le8 u.directive.enable.code ++
    le8 (maskOf [u.enabled, u.powerHold, u.stale, u.pulseTimer.isRunning, u.cooldownTimer.isRunning,
      decide (u.budget < u.lowMark)]) ++
    le16 (maskOf u.alarmHold.toList) ++ le16 (maskOf u.alarmDry.toList) ++ le16 u.temperature ++
    le16 u.setpoint ++ le8 u.computed ++ le8 u.heater ++ le8 u.fan ++ [0#8] ++ le24 u.budget ++ [0#8] ++
    le16 u.profile.capacity

/-- A writing of the smoke readings group, with the fluid budget placed in the retained group (R102). -/
def State.writeSmokeReadings (s : State) : State :=
  (s.writeGroup smokeGroup 1 s.smoke.groupBytes).writeGroup retainedGroup 8 (le24 s.smoke.budget)

/-! ### Outputs -/

/-- The fan duty read again (R97). A fall reaches the PWM at once, a rise at the next period start (R94). -/
def State.rereadFan (s : State) : State :=
  let d := s.fanDuty
  s.withSmoke { s.smoke with fan := d, fanPwm := min s.smoke.fanPwm d }

/-- The heater duty set; a fall reaches the PWM at once (R94). -/
def Smoke.setHeater (u : Smoke) (d : Nat) : Smoke :=
  { u with heater := d, heaterPwm := min u.heaterPwm d }

/-! ### Changes of state -/

/-- A change of smoke state once the unit's record has been set: the fan is read again and, if the state
differs from `old`, the readings are written (R97, R102). -/
def State.smokeMoved (s : State) (old : SmokeState) : State :=
  let s := s.rereadFan
  if s.smoke.state = old then s else s.writeSmokeReadings

/-- The unit's record on leaving the heating states: heater and computed duty 0, the idle, idle-puff, pulse and
heat stale timers cancelled, the stale record cleared (R91, R92, R94, R96). -/
def Smoke.leaveHeating (u : Smoke) : Smoke :=
  { u.setHeater 0 with
    computed := 0
    idleTimer := .stopped
    puffTimer := .stopped
    pulseTimer := .stopped
    staleTimer := .stopped
    stale := false }

/-- The cooldown timer started with the cooldown time; 0 expires at once (R97). -/
def State.cooldownStart (s : State) : Timer := s.startUnlessZero (seconds s.smoke.profile.cooldown)

/-- Entry to WARMING from a state that is not a heating state (R91, R94, R95, R97). -/
def State.enterWarming (s : State) : State :=
  s.withSmoke { s.smoke.setHeater 0 with
    state := .warming
    computed := 0
    staleTimer := s.startTimer heatStaleInterval
    stale := false
    idleTimer := if s.drive.state = .idle then s.startTimer (seconds s.smoke.profile.idleDelay) else .stopped
    cooldownTimer := .stopped }

/-- Entry to OFF from a heating state or from HELD, starting the cooldown (R91, R92, R97). -/
def State.enterSmokeOff (s : State) : State :=
  s.withSmoke { s.smoke.leaveHeating with state := .off, cooldownTimer := s.cooldownStart }

/-- A change of the enabled value acts on the state (R91). -/
def State.smokeEnableActs (s : State) : State :=
  if s.smoke.enabled then
    match s.smoke.state with
    | .off => if s.smoke.held then s.withSmoke { s.smoke with state := .held } else s.enterWarming
    | .warming | .ready | .idling | .held | .dry => s
  else
    match s.smoke.state with
    | .warming | .ready | .idling => s.enterSmokeOff
    | .off | .held | .dry => s

/-- The enabled value worked out again: a value left as it was changes nothing (R90). -/
def State.reevaluateSmoke (s : State) : State :=
  if s.smokeWanted = s.smoke.enabled then s
  else
    let old := s.smoke.state
    ((s.withSmoke { s.smoke with enabled := s.smokeWanted }).smokeEnableActs).smokeMoved old

/-- Hold causes set to `power` and `alarms`: the first beginning and the last ending act on the state
(R92). -/
def State.setHolds (s : State) (power : Bool) (alarms : Vector Bool 12) : State :=
  let old := s.smoke.state
  let before := s.smoke.held
  let s := s.withSmoke { s.smoke with powerHold := power, alarmHold := alarms }
  let s :=
    if !before && s.smoke.held then
      if s.smoke.state.heating then s.withSmoke { s.smoke.leaveHeating with state := .held } else s
    else if before && !s.smoke.held then
      if s.smoke.state = .held then
        if s.smoke.enabled then s.enterWarming else s.enterSmokeOff
      else s
    else s
  s.smokeMoved old

/-- Entry to DRY from any state but DRY, with SMOKE_DRY raised (R96). -/
def State.enterDry (s : State) (subject : Byte) (detail : Half) : State :=
  let old := s.smoke.state
  if old = .dry then s
  else
    let cooldown := if old = .off then s.smoke.cooldownTimer else s.cooldownStart
    ((s.withSmoke { s.smoke.leaveHeating with state := .dry, cooldownTimer := cooldown }).smokeMoved
      old).event .smokeDry subject detail

/-- The unit takes the slots' contributions: a slot that comes to contribute DRY may enter DRY, and the
alarm holds are brought up to date (R92, R96). DESIGN CHOICE (log entry 23): where several slots come to contribute
DRY at once, at a pass end that takes a new profile, SMOKE_DRY names the lowest-numbered of them; R58, R61 and R96 do
not say which. -/
def State.smokeContributions (s : State) (holds drys : Vector Bool 12) : State :=
  let fresh := (List.finRange 12).filter fun k => drys[k] && !s.smoke.alarmDry[k]
  let s := s.withSmoke { s.smoke with alarmDry := drys }
  let s := fresh.foldl (fun s k => s.enterDry 2#8 (BitVec.ofNat 16 k.val)) s
  s.setHolds s.smoke.powerHold holds

/-- The unit takes a change of drive state (R95). -/
def State.smokeDriveChange (s : State) (new : DriveState) : State :=
  if new = .idle then
    match s.smoke.state with
    | .warming | .ready =>
      s.withSmoke { s.smoke with idleTimer := s.startTimer (seconds s.smoke.profile.idleDelay) }
    | .off | .idling | .held | .dry => s
  else
    let s := s.withSmoke { s.smoke with idleTimer := .stopped }
    if s.smoke.state = .idling then
      (s.withSmoke { s.smoke with state := .warming, puffTimer := .stopped }).smokeMoved .idling
    else s

/-- A pulse: the pulse timer starts and the fan takes the pulse duty (R98). -/
def State.fanPulse (s : State) : State :=
  (s.withSmoke { s.smoke with pulseTimer := s.startTimer (millis s.smoke.profile.pulseLength) }).rereadFan

/-- A chuff taken by the unit: a pulse in WARMING or READY (R98). -/
def State.smokeChuff (s : State) : State :=
  match s.smoke.state with
  | .warming | .ready => s.fanPulse
  | .off | .idling | .held | .dry => s

/-- The temperature transitions of R93. -/
def Smoke.temperatureMove (u : Smoke) : Smoke :=
  match u.state with
  | .warming => if u.profile.setpoint ≤ u.temperature + 10 then { u with state := .ready } else u
  | .ready => if u.temperature + 30 < u.profile.setpoint then { u with state := .warming } else u
  | .off | .idling | .held | .dry => u

/-- A HEAT value delivered (R93, R94, R101). -/
def State.heatValue (s : State) (value : Nat) : State :=
  let old := s.smoke.state
  let s := s.withSmoke { s.smoke with temperature := value * 400 / 4096 }
  if old.heating then
    let u := { s.smoke.temperatureMove with staleTimer := s.startTimer heatStaleInterval, stale := false }
    let u := { u with computed := u.heaterLaw }
    (s.withSmoke (if s.part = .run then u.setHeater u.computed else u)).smokeMoved old
  else s

/-- A fill (R100). -/
def State.fillBudget (s : State) : State :=
  s.withSmoke { s.smoke with budget := s.smoke.profile.capacity * 256 }

/-- The dry latch released by a fill while no slot contributes DRY (R96). `enabled` is judged with the enable
just adopted. -/
def State.releaseDry (s : State) : State :=
  if s.smoke.state = .dry ∧ s.smoke.alarmDry.toList.all (fun b => !b) then
    let s := s.withSmoke { s.smoke with enabled := s.smokeWanted }
    (if s.smoke.enabled then
      if s.smoke.held then s.withSmoke { s.smoke with state := .held } else s.enterWarming
    else s.withSmoke { s.smoke with state := .off }).smokeMoved .dry
  else s

/-- The SMOKE directive handed over (R90). -/
def State.takeSmokeDirective (s : State) (d : SmokeDirective) : State :=
  let s := s.withSmoke { s.smoke with directive := d }
  let s := if d.fill then s.fillBudget.releaseDry else s
  s.reevaluateSmoke

/-- The SMOKE_PROFILE handed over (R89, R100). The heater duty follows the computed duty down to the new
maximum (log entry 17). DESIGN CHOICE (log entry 58): an idle-puff interval changed from 0 in IDLING starts the timer even
where an older start of it still runs. -/
def State.takeSmokeProfile (s : State) (p : SmokeProfile) : State :=
  let u := s.smoke
  let puff :=
    if u.profile.puffInterval = 0 ∧ p.puffInterval ≠ 0 ∧ u.state = .idling then
      s.startTimer (hundredMillis p.puffInterval)
    else u.puffTimer
  let budget := if p.capacity ≠ 0 then min u.budget (p.capacity * 256) else u.budget
  (s.withSmoke { u.setHeater (min u.heater p.heaterMax) with
    profile := p, computed := min u.computed p.heaterMax, puffTimer := puff, budget := budget }).rereadFan

/-- The unit at the entry to QUIESCING: heater and fan to 0 at once (R101). -/
def State.smokeQuiesce (s : State) : State := (s.withSmoke (s.smoke.setHeater 0)).rereadFan

/-! ### Meanings -/

/-- HEAT_STALE_EXPIRY: computed and heater duty 0, the reading recorded as stale (R94). -/
def execHeatStaleExpiry (s : State) : Host.Outcome State Fault Refusal :=
  .next <|
    if s.smoke.staleTimer.isRunning then
      s.withSmoke { s.smoke.setHeater 0 with computed := 0, staleTimer := .stopped, stale := true }
    else s

/-- IDLE_TIMER_EXPIRY: WARMING or READY becomes IDLING, and idle puffs start (R95). -/
def execIdleTimerExpiry (s : State) : Host.Outcome State Fault Refusal :=
  .next <|
    if s.smoke.idleTimer.isRunning then
      let old := s.smoke.state
      let s := s.withSmoke { s.smoke with idleTimer := .stopped }
      match old with
      | .warming | .ready =>
        (s.withSmoke { s.smoke with
          state := .idling
          puffTimer := s.startUnlessZero (hundredMillis s.smoke.profile.puffInterval) }).smokeMoved old
      | .off | .idling | .held | .dry => s
    else s

/-- PULSE_TIMER_EXPIRY: the fan returns to its idle duty (R98). -/
def execPulseTimerExpiry (s : State) : Host.Outcome State Fault Refusal :=
  .next <|
    if s.hasExpired s.smoke.pulseTimer then
      (s.withSmoke { s.smoke with pulseTimer := .stopped }).rereadFan
    else s

/-- IDLE_PUFF_EXPIRY: in IDLING a pulse starts, and the idle-puff timer starts again (R98). -/
def execIdlePuffExpiry (s : State) : Host.Outcome State Fault Refusal :=
  .next <|
    if s.smoke.puffTimer.isRunning then
      (s.withSmoke { s.smoke with
        puffTimer := s.startUnlessZero (hundredMillis s.smoke.profile.puffInterval) }).fanPulse
    else s

/-- COOLDOWN_EXPIRY: the fan goes to 0 in OFF or DRY (R97). -/
def execCooldownExpiry (s : State) : Host.Outcome State Fault Refusal :=
  .next <|
    if s.smoke.cooldownTimer.isRunning then
      (s.withSmoke { s.smoke with cooldownTimer := .stopped }).rereadFan
    else s

/-- One budget tick while the estimate is on (R99). -/
def State.budgetTick (s : State) : State :=
  let u := s.smoke
  if u.profile.capacity = 0 then s
  else
    let after := u.budget - u.heater
    let s := s.withSmoke { u with budget := after }
    let s :=
      if u.lowMark ≤ u.budget ∧ after < u.lowMark then
        s.event .fluidLow 0#8 (BitVec.ofNat 16 (after / 256))
      else s
    if after = 0 ∧ u.state.heating then s.enterDry 1#8 0#16 else s

/-- BUDGET_TICK: the tick timer restarts, the budget is judged, and the smoke readings are written (R99,
R102). -/
def execBudgetTick (s : State) : Host.Outcome State Fault Refusal :=
  .next <|
    if s.smoke.budgetTimer.isRunning then
      ((s.withSmoke { s.smoke with budgetTimer := s.startTimer budgetInterval }).budgetTick).writeSmokeReadings
    else s

end Sys2Proof.Machine
end

