-- ==== Sys2Proof/Machine/Sound.lean ====
section
/-! DEFINITION. The sound engine (chapter 8): the bank and its mount, the voices and their arbiter, the mixer
and the amplifier, and the meanings of the engine's own commands. -/

namespace Sys2Proof.Machine

/-! ### Codes (12.6, 12.7) -/

def BankState.code : BankState → Nat
  | .absent => 0
  | .mounting => 1
  | .ready => 2
  | .faulty => 3

/-- The fault reasons, numbered as the BANK_FAULTY subject (R135). -/
def BankFault.code : BankFault → Nat
  | .none => 0
  | .format => 1
  | .counts => 2
  | .crc => 3
  | .cueRecord => 4
  | .clipRecord => 5

def VoiceState.code : VoiceState → Nat
  | .free => 0
  | .leading => 1
  | .looping => 2
  | .tailing => 3
  | .fading => 4

def Part.code : Part → Nat
  | .start => 0
  | .loop => 1
  | .tail => 2

def kindOneshot : Nat := 0
def kindHeld : Nat := 1
def kindChuff : Nat := 2

/-- The sources of a START, as CUE_REFUSED's detail names them (R135). -/
inductive CueSource
  | slot
  | radio
  | function
  | chuff
  deriving DecidableEq, Repr

def CueSource.code : CueSource → Nat
  | .slot => 1
  | .radio => 2
  | .function => 3
  | .chuff => 4

/-! ### Reading the engine's state -/

/-- The record of cue `n` in the engine's table; cues are numbered from 1 (R117). -/
def Sound.cue (e : Sound) (n : Nat) : Option CueRecord := if n = 0 then none else e.cues[n - 1]?

/-- The record of clip `c`; clips are numbered from 1 (R117). -/
def Sound.clip (e : Sound) (c : Nat) : Option ClipRecord := if c = 0 then none else e.clips[c - 1]?

/-- The number of the table's CHUFF cue, 0 when it holds none (R134). DESIGN CHOICE (log entry 43): while the bank is
MOUNTING it is the first CHUFF record among those copied so far, not yet checked. -/
def Sound.chuffCue (e : Sound) : Nat :=
  match e.cues.findIdx? (fun r => r.kind == kindChuff) with
  | some i => i + 1
  | none => 0

def Voice.busy (v : Voice) : Bool := v.state != .free

/-- Whether any voice is not FREE. -/
def Sound.anyBusy (e : Sound) : Bool := e.voices.toList.any Voice.busy

/-- The voice that is not FREE and holds cue `n`. -/
def Sound.holder (e : Sound) (n : Nat) : Option (Fin 6) :=
  (List.finRange 6).find? fun v => e.voices[v].busy && e.voices[v].cue == n

/-- The lowest-numbered FREE voice. -/
def Sound.freeVoice (e : Sound) : Option (Fin 6) :=
  (List.finRange 6).find? fun v => !e.voices[v].busy

/-- The priority number of the cue a voice plays. -/
def Sound.voicePriority (e : Sound) (v : Fin 6) : Nat :=
  ((e.cue e.voices[v].cue).map (·.priority)).getD 0

/-- The voice arbiter's choice for a cue of priority `p`: among the voices of a greater priority number the
greatest, on a tie the one nearest the front of the start order list (R125). -/
def Sound.victim (e : Sound) (p : Nat) : Option (Fin 6) :=
  e.order.foldl
    (fun best v =>
      if p < e.voicePriority v ∧ best.all (fun b => e.voicePriority b < e.voicePriority v) then some v
      else best)
    none

/-- The effective master volume, trunc(M × A / 256) (R130). -/
def Sound.effectiveVolume (e : Sound) : Nat := e.volume * e.attenuation / 256

/-! ### Readings (R134) -/

def Voice.bytes (v : Voice) : List Byte :=
  le8 v.state.code ++ le8 v.cue ++ le8 v.part.code ++ le8 v.clip ++ le24 v.position ++ le8 v.gain ++
    le16 v.fade ++ [flagByte v.release, 0#8]

/-- The start order list with its unused places 0xFF (12.6). -/
def Sound.orderBytes (e : Sound) : List Byte :=
  ((e.order.map fun v => BitVec.ofNat 8 v.val) ++ List.replicate 6 0xFF#8).take 6

/-- The sound group from offset 1 on (12.6). -/
def Sound.groupBytes (e : Sound) : List Byte :=
  le8 e.bank.code ++ le8 e.fault.code ++
    le8 (((e.header.map (·.cueCount))).getD 0) ++ le8 ((e.header.map (·.clipCount)).getD 0) ++
    le8 e.chuffCue ++ le24 e.progress ++ le24 ((e.header.map (·.length)).getD 0) ++
    le8 e.volume ++ [flagByte e.chuffLoad] ++ le16 e.attenuation ++ le8 e.effectiveVolume ++
    [flagByte e.ampEnabled] ++ le8 e.order.length ++ e.orderBytes ++ [0#8] ++
    le16 e.clipCounter.toNat ++ le16 e.noBank.toNat ++ le16 e.noCue.toNat ++ le16 e.noVoice.toNat ++
    le16 e.badAction.toNat ++ le16 e.steals.toNat ++ le16 e.lastChuff.toNat ++
    (e.voices.toList.map Voice.bytes).flatten

/-- A writing of the sound readings group (R134). -/
def State.writeSoundReadings (s : State) : State := s.writeGroup soundGroup 1 s.sound.groupBytes

/-! ### Voices -/

/-- The clip a start of a cue plays: its start clip, and for a CHUFF cue the one its rotation has reached
(R121). -/
def Sound.startClip (e : Sound) (r : CueRecord) : Nat :=
  if r.kind = kindChuff then r.start + e.lastChuff.toNat % 4 else r.start

/-- A voice started with a cue: LEADING at position 0, at the back of the start order list (R122, R124);
AMP_EN is asserted and its hold timer cancelled (R132). -/
def Sound.startVoice (e : Sound) (v : Fin 6) (n : Nat) (r : CueRecord) (gain : Nat) : Sound :=
  { e with
    voices := e.voices.set v ⟨.leading, n, .start, e.startClip r, 0, gain, 320, false⟩
    order := e.order.filter (fun w => w != v) ++ [v]
    ampEnabled := true
    ampTimer := if e.anyBusy then e.ampTimer else .stopped }

/-- The engine once its voices have changed to `voices`: those that became FREE leave the start order list,
and the amplifier hold timer starts when the last of them did (R122, R132). -/
def State.settleVoices (s : State) (voices : Vector Voice 6) : State :=
  let e := { s.sound with voices := voices, order := s.sound.order.filter fun v => voices[v].busy }
  s.withSound
    (if s.sound.anyBusy && !e.anyBusy then { e with ampTimer := s.startTimer ampHoldInterval } else e)

/-- Every voice FREE at once, without fade (R118, R133). -/
def State.freeVoices (s : State) : State :=
  s.settleVoices (vecMap (fun v => { v with state := .free }) s.sound.voices)

/-- A voice sent to FADING: part, clip and position are kept, and a fade in progress stands (R123). -/
def Voice.toFading (v : Voice) : Voice :=
  match v.state with
  | .leading | .looping | .tailing => { v with state := .fading, fade := 320 }
  | .fading | .free => v

/-- A voice moved into its cue's end clip, or FREE if the cue has none (R122, R126). -/
def Voice.toTail (v : Voice) (r : CueRecord) : Voice :=
  if r.kind = kindChuff ∨ r.tail = 0 then { v with state := .free }
  else { v with state := .tailing, part := .tail, clip := r.tail, position := 0 }

/-- What a voice does at the end of its clip (R122). -/
def Voice.clipEnd (v : Voice) (r : CueRecord) : Voice :=
  match v.state with
  | .leading =>
    if v.release = false ∧ r.kind ≠ kindChuff ∧ r.loop ≠ 0 then
      { v with state := .looping, part := .loop, clip := r.loop, position := 0 }
    else v.toTail r
  | .looping => { v with position := 0 }
  | .tailing => { v with state := .free }
  | .fading => if v.part = .loop then { v with position := 0 } else { v with state := .free }
  | .free => v

/-- A voice's fade after a sample: the factor falls by 1, and at 0 the voice is FREE (R123). -/
def Voice.fadeStep (v : Voice) : Voice :=
  if v.state = .fading then
    if v.fade ≤ 1 then { v with fade := 0, state := .free } else { v with fade := v.fade - 1 }
  else v

/-- A voice's advance after it has given a sample, in a clip of `length` samples (R122, R123). DESIGN CHOICE (log entry
50): a FADING voice that the end of its clip makes FREE keeps its fade factor. DESIGN CHOICE (log entry 53): a voice that
the end of its clip makes FREE keeps the position it reached there, the clip's length. -/
def Voice.advance (v : Voice) (r : CueRecord) (length : Nat) : Voice :=
  if v.state = .free then v
  else
    let moved := { v with position := v.position + 1 }
    (if length ≤ moved.position then moved.clipEnd r else moved).fadeStep

/-! ### START and STOP (R124 to R126) -/

/-- A START refused NO_VOICE: counted, and raised as CUE_REFUSED (R125, R135). -/
def State.refuseNoVoice (s : State) (n : Nat) (source : CueSource) : State :=
  (s.withSound { s.sound with noVoice := s.sound.noVoice + 1#16 }).event .cueRefused
    (BitVec.ofNat 8 n) (BitVec.ofNat 16 source.code)

/-- A START of cue `n`, with the gain given or the cue's own (R124). A START outside RUN is dropped: it
changes nothing and has no result. -/
def State.startCue (s : State) (n : Nat) (gain : Option Nat) (source : CueSource) : State × CueResult :=
  if s.part ≠ .run then (s, .none)
  else if s.sound.bank ≠ .ready then
    (s.withSound { s.sound with noBank := s.sound.noBank + 1#16 }, .noBank)
  else match s.sound.cue n with
    | none => (s.withSound { s.sound with noCue := s.sound.noCue + 1#16 }, .noCue)
    | some r =>
      let g := gain.getD r.gain
      match s.sound.holder n with
      | some v => if r.kind = kindHeld then (s, .ok) else (s.withSound (s.sound.startVoice v n r g), .ok)
      | none =>
        match s.sound.freeVoice with
        | some v => (s.withSound (s.sound.startVoice v n r g), .ok)
        | none =>
          match s.sound.victim r.priority with
          | some v =>
            (s.withSound
              { s.sound.startVoice v n r g with steals := s.sound.steals + 1#16 }, .ok)
          | none => (s.refuseNoVoice n source, .noVoice)

/-- How a voice answers a STOP of its cue (R126). -/
def Voice.stop (v : Voice) (r : CueRecord) : Voice :=
  if r.kind = kindHeld then
    match v.state with
    | .leading => { v with release := true }
    | .looping => v.toTail r
    | .tailing | .fading | .free => v
  else v.toFading

/-- A STOP of cue `n` (R126). -/
def State.stopCue (s : State) (n : Nat) : State × CueResult :=
  if !s.part.active then (s, .none)
  else if s.sound.bank ≠ .ready then
    (s.withSound { s.sound with noBank := s.sound.noBank + 1#16 }, .noBank)
  else match s.sound.cue n with
    | none => (s.withSound { s.sound with noCue := s.sound.noCue + 1#16 }, .noCue)
    | some r =>
      match s.sound.holder n with
      | none => (s, .ok)
      | some v => (s.settleVoices (vecModify s.sound.voices v fun x => x.stop r), .ok)

/-- A request for cue `n` with an action code: 1 START, 2 STOP, any other BAD_ACTION (R127, R128). DEDUCED (log entry
51): 12.5 gives the codes for a cue slot's action byte, and the radio's CUE carries the same. -/
def State.cueRequest (s : State) (n : Nat) (action : Nat) (gain : Option Nat) (source : CueSource) :
    State × CueResult :=
  if action = 1 then s.startCue n gain source
  else if action = 2 then s.stopCue n
  else (s.withSound { s.sound with badAction := s.sound.badAction + 1#16 }, .badAction)

/-! ### Chuffs (R129) -/

/-- The chuff gain of a cue's gain under the drive's load (R129). -/
def chuffGain (cueGain : Nat) (loadOn : Bool) (command duty : Nat) : Nat :=
  let l : Int := if loadOn then clampInt ((duty : Int) - command) (-64) 63 else 0
  (clampInt (truncDiv (cueGain * (256 + 2 * l)) 256) 0 255).toNat

/-- A chuff event taken by the engine: the count is stored, and the CHUFF cue is started (R129). -/
def State.soundChuff (s : State) (count : Half) : State :=
  let s := s.withSound { s.sound with lastChuff := count }
  let n := s.sound.chuffCue
  if s.sound.bank = .ready ∧ n = 0 then s
  else
    let own := ((s.sound.cue n).map (·.gain)).getD 0
    let a := s.drive.channels.a
    (s.startCue n (some (chuffGain own s.sound.chuffLoad a.command a.duty)) .chuff).1

/-! ### Function edges (R128) -/

/-- Whether cue `n` is a HELD cue of the mounted bank. -/
def Sound.isHeldCue (e : Sound) (n : Nat) : Bool :=
  e.bank == .ready && ((e.cue n).map (fun r => r.kind == kindHeld)).getD false

/-- A changed flag of function `n` taken by the engine (R128). -/
def State.soundEdge (s : State) (n : Fin 32) (on : Bool) : State :=
  let c := s.functions.map[n].cue
  if on then if c = 0 then s else (s.startCue c none .function).1
  else if s.sound.isHeldCue c then (s.stopCue c).1 else s

/-! ### The bank (R117 to R120) -/

/-- A byte of the serial flash. -/
def State.flashAt (s : State) (a : Nat) : Byte := s.flash.read 0xFF#8 a

/-- `n` bytes of the serial flash. -/
def State.flashRun (s : State) (a n : Nat) : List Byte := s.flash.readRun 0xFF#8 a n

/-- Cue record `i`, counted from 0 (12.7). -/
def State.cueRecordAt (s : State) (i : Nat) : CueRecord :=
  let b := s.flashRun (32 + 8 * i) 6
  ⟨u8At b 0, u8At b 1, u8At b 2, u8At b 3, u8At b 4, u8At b 5⟩

/-- Clip record `i`, counted from 0, behind `cueCount` cue records (12.7). -/
def State.clipRecordAt (s : State) (cueCount i : Nat) : ClipRecord :=
  let a := 32 + 8 * cueCount + 8 * i
  ⟨bigEndian (s.flashRun a 3), bigEndian (s.flashRun (a + 3) 3)⟩

/-- The cue records the CRC pass has passed once it has read `progress` bytes (R119). -/
def State.cuesRead (s : State) (h : BankHeader) (progress : Nat) : List CueRecord :=
  (List.range (min h.cueCount ((progress - 32) / 8))).map s.cueRecordAt

/-- The clip records the CRC pass has passed once it has read `progress` bytes (R119). -/
def State.clipsRead (s : State) (h : BankHeader) (progress : Nat) : List ClipRecord :=
  (List.range (min h.clipCount ((progress - 32 - 8 * h.cueCount) / 8))).map (s.clipRecordAt h.cueCount)

/-- A change of bank state: the sound readings are written (R134). -/
def State.changeBank (s : State) (e : Sound) : State := (s.withSound e).writeSoundReadings

/-- A mount begins: progress 0, no header kept, empty tables, no fault reason (R118, R119; log entry 15). -/
def State.beginMount (s : State) : State :=
  s.changeBank { s.sound with bank := .mounting, fault := .none, progress := 0, header := none,
                              cues := [], clips := [] }

/-- A mount abandoned: progress 0, tables emptied, no event (R118). -/
def State.abandonMount (s : State) : State :=
  s.changeBank { s.sound with bank := .absent, progress := 0, header := none, cues := [], clips := [] }

/-- A READY bank unmounted: every voice FREE at once, tables emptied (R118). -/
def State.unmountReady (s : State) : State :=
  let s := s.freeVoices
  s.changeBank { s.sound with bank := .absent, header := none, cues := [], clips := [] }

/-- The SOUND directive's mount field acts on the bank (R118). Outside RUN no mount goes on (R133): a MOUNT taken there
leaves the bank ABSENT, as a mount begun and abandoned at once would, and RESUME begins it (log entry 30). An UNMOUNT
of a FAULTY bank keeps the progress (log entry 34). -/
def State.applyMount (s : State) (mount : Bool) : State :=
  match s.sound.bank, mount with
  | .absent, true => if s.part = .run then s.beginMount else s
  | .absent, false => s
  | .mounting, true => s
  | .mounting, false => s.abandonMount
  | .ready, true => s
  | .ready, false => s.unmountReady
  | .faulty, true =>
    if s.part = .run then s.beginMount
    else s.changeBank { s.sound with bank := .absent, fault := .none, progress := 0, header := none,
                                     cues := [], clips := [] }
  | .faulty, false => s.changeBank { s.sound with bank := .absent, fault := .none, header := none }

/-- A mount ends FAULTY: the tables are emptied, BANK_FAULTY and SOUND_BANK raised (R119, R120, R135). -/
def State.failMount (s : State) (why : BankFault) (record : Nat) : State :=
  ((s.changeBank { s.sound with bank := .faulty, fault := why, cues := [], clips := [] }).event
    .bankFaulty (BitVec.ofNat 8 why.code) (BitVec.ofNat 16 record)).raise .soundBank

/-- The first cue record that fails R120's check, by its number. `seen` tells whether a CHUFF cue came
before. -/
def badCue (clipCount : Nat) : Nat → Bool → List CueRecord → Option Nat
  | _, _, [] => none
  | n, seen, r :: rs =>
    if r.start = 0 ∨ clipCount < r.start
        ∨ (r.kind ≠ kindChuff ∧ (clipCount < r.loop ∨ clipCount < r.tail))
        ∨ 7 < r.priority
        ∨ kindChuff < r.kind
        ∨ (r.kind = kindChuff ∧ seen)
        ∨ (r.kind = kindChuff ∧ clipCount < r.start + 3)
    then some n
    else badCue clipCount (n + 1) (seen || r.kind == kindChuff) rs

/-- The first clip record that fails R120's check, by its number. -/
def badClip (tablesEnd bankLength : Nat) : Nat → List ClipRecord → Option Nat
  | _, [] => none
  | n, r :: rs =>
    if r.length = 0 ∨ 1048576 < r.length ∨ r.address < tablesEnd ∨ bankLength < r.address + r.length
    then some n
    else badClip tablesEnd bankLength (n + 1) rs

/-- Whether a mount goes on: the bank is MOUNTING, and the part state is RUN (R133). -/
def State.mountGoesOn (s : State) : Bool := s.sound.bank == .mounting && s.part == .run

/-- The CRC pass goes on for one millisecond: 1280 more bytes are read, and the records passed are copied
(R119; log entry 16). -/
def State.mountProgress (s : State) : State :=
  match s.mountGoesOn, s.sound.header with
  | true, some h =>
    let p := min h.length (s.sound.progress + mountBytesPerMilli)
    s.withSound { s.sound with progress := p, cues := s.cuesRead h p, clips := s.clipsRead h p }
  | _, _ => s

/-! ### Part states (R118, R133) -/

/-- The engine at the entry to QUIESCING: busy voices fade, and a mount is abandoned (R118, R133). -/
def State.soundQuiesce (s : State) : State :=
  let s := s.withSound { s.sound with voices := vecMap Voice.toFading s.sound.voices }
  if s.sound.bank = .mounting then s.abandonMount else s

/-- The engine at RESUME: a mount cut short is taken up again (R118). -/
def State.soundResume (s : State) : State :=
  if s.sound.bank = .absent ∧ s.sound.directive.mount then s.beginMount else s

/-! ### The mixer (R130) -/

/-- A voice's gain in the mix (R123, R130). -/
def Voice.mixGain (v : Voice) : Nat := if v.state = .fading then v.gain * v.fade / 320 else v.gain

/-- The sample a voice gives, from its clip at its position (R122, R130). -/
def State.voiceSample (s : State) (v : Voice) : Int :=
  match s.sound.clip v.clip with
  | some c => (s.flashAt (c.address + v.position)).toInt
  | none => 0

/-- The sum of the busy voices' samples at their gains (R130). -/
def State.mix (s : State) : Int :=
  (s.sound.voices.toList.map fun v => if v.busy then s.voiceSample v * v.mixGain else 0).sum

/-- A voice's advance, by its cue and the length of its clip. -/
def State.advanceVoice (s : State) (v : Voice) : Voice :=
  match s.sound.cue v.cue with
  | some r => v.advance r (((s.sound.clip v.clip).map (·.length)).getD 0)
  | none => { v with state := .free }

/-! ### Meanings -/

/-- MOUNT_HEADER_READ: a mount reads and checks the header, ending FAULTY or beginning the CRC pass
(R119). -/
def execMountHeaderRead (s : State) : Host.Outcome State Fault Refusal :=
  .next <|
    if s.mountGoesOn ∧ s.sound.header = none then
      let b := s.flashRun 0 12
      let cueCount := u8At b 1
      let clipCount := u8At b 2
      let length := bigEndian (s.flashRun 4 3)
      if u8At b 0 ≠ 1 then s.failMount .format 0
      else if 63 < cueCount ∨ 255 < clipCount then s.failMount .counts 0
      else if length < 32 + 8 * cueCount + 8 * clipCount then s.failMount .counts 0
      else s.withSound { s.sound with
        header := some ⟨cueCount, clipCount, length, BitVec.ofNat 32 (bigEndian (s.flashRun 8 4))⟩
        progress := 32 }
    else s

/-- MOUNT_COMPLETE: the CRC pass has reached the bank length, and the bank becomes READY or FAULTY (R120). -/
def execMountComplete (s : State) : Host.Outcome State Fault Refusal :=
  .next <|
    match s.mountGoesOn, s.sound.header with
    | true, some h =>
      let s := s.withSound { s.sound with
        progress := h.length, cues := s.cuesRead h h.length, clips := s.clipsRead h h.length }
      if crc32 (s.flashRun 32 (h.length - 32)) ≠ h.crc then s.failMount .crc 0
      else match badCue h.clipCount 1 false s.sound.cues with
        | some n => s.failMount .cueRecord n
        | none =>
          match badClip (32 + 8 * h.cueCount + 8 * h.clipCount) h.length 1 s.sound.clips with
          | some n => s.failMount .clipRecord n
          | none =>
            ((s.changeBank { s.sound with bank := .ready }).event .bankReady 0#8
              (BitVec.ofNat 16 h.cueCount)).raise .soundBank
    | _, _ => s

/-- The engine at an output sample: the mix is scaled and clamped, and every voice advances (R130). -/
def State.sampleVoices (s : State) : State :=
  let scaled := truncDiv (s.mix * s.sound.effectiveVolume) 256
  let out := clampInt scaled (-32768) 32767
  let s := s.settleVoices (vecMap s.advanceVoice s.sound.voices)
  s.withSound { s.sound with
    output := out
    clipCounter := if out = scaled then s.sound.clipCounter else s.sound.clipCounter + 1#16 }

/-- AMP_HOLD_EXPIRY: AMP_EN is released (R132). -/
def execAmpHoldExpiry (s : State) : Host.Outcome State Fault Refusal :=
  .next <|
    if s.sound.ampTimer.isRunning then
      s.withSound { s.sound with ampTimer := .stopped, ampEnabled := false }
    else s

end Sys2Proof.Machine
end

