-- ==== Sys2Proof/Machine/Cadence.lean ====
section
/-! DEFINITION. The cadence unit (chapter 5): the cam, the choice of source, the synthetic timer, the delivery of
chuffs, and the meanings of the unit's own commands. -/

namespace Sys2Proof.Machine

def CamState.code : CamState → Nat
  | .noneSeen => 0
  | .live => 1
  | .stopped => 2

def ChuffSource.code : ChuffSource → Nat
  | .cam => 0
  | .synthetic => 1

/-- The source in force by R83's table. -/
def settledSource (mode : SourceMode) (cam : CamState) : ChuffSource :=
  match mode, cam with
  | .cam, _ => .cam
  | .synthetic, _ => .synthetic
  | .auto, .live => .cam
  | .auto, .noneSeen => .synthetic
  | .auto, .stopped => .synthetic

/-- The synthetic interval in ms for a held V above 0 (R84). -/
def syntheticInterval (k v : Nat) : Nat := clampNat (k * 256 / v) 20 5000

/-- The time since the last chuff in ms, none when there was none (R77). -/
def State.sinceChuff (s : State) : Option Nat := s.cadence.lastChuff.map fun t => s.time - t

/-- Whether the time since the last chuff has reached an interval; a last chuff of none has (R77). -/
def State.chuffDue (s : State) (interval : Nat) : Bool :=
  match s.sinceChuff with
  | none => true
  | some d => decide (interval ≤ d)

/-! ### Readings (R87) -/

/-- The cadence group from offset 1 on (12.6). -/
def State.cadenceBytes (s : State) : List Byte :=
  let c := s.cadence
  le8 c.profile.mode.code ++ le8 c.source.code ++ le8 c.cam.code ++ le24 c.period ++ [0#8] ++ le16 c.speed ++
    le16 c.rejected.toNat ++ le32 c.odometer.toNat ++ le16 c.heldV ++ le16 (c.interval.getD 0) ++
    le16 (min (s.sinceChuff.getD 65535) 65535) ++ le16 c.chuffs.toNat

/-- A writing of the cadence readings group, with the odometer placed in the retained group (R82, R87). -/
def State.writeCadenceReadings (s : State) : State :=
  (s.writeGroup cadenceGroup 1 s.cadenceBytes).writeGroup retainedGroup 4 (le32 s.cadence.odometer.toNat)

/-! ### Chuffs (R85, R86) -/

/-- A chuff delivered: the count rises, the last chuff becomes the present time, and the sound engine and the
smoke unit take the event (R86). The two hand-offs commute, so their order is not chosen. -/
def State.deliverChuff (s : State) : State :=
  let n := s.cadence.chuffs + 1#16
  let s := s.withCadence { s.cadence with chuffs := n, lastChuff := some s.time }
  (s.soundChuff n).smokeChuff

/-- A synthetic chuff, with the timer set one interval later (R85). -/
def State.syntheticChuff (s : State) (interval : Nat) : State :=
  let s := s.deliverChuff
  s.withCadence { s.cadence with chuffTimer := s.startTimer (millis interval) }

/-- The synthetic interval recomputed from the held V, with the chuff timing measured from the last chuff
(R84). -/
def State.recomputeInterval (s : State) : State :=
  let c := s.cadence
  if c.heldV = 0 then s.withCadence { c with interval := none, chuffTimer := .stopped }
  else
    let i := syntheticInterval c.profile.constant c.heldV
    let s := s.withCadence { c with interval := some i }
    if s.chuffDue i then s.syntheticChuff i
    else s.withCadence { s.cadence with
      chuffTimer := .running (millis (s.cadence.lastChuff.getD 0 + i)) }

/-- A ramp step handed over by the drive with the R it has reached (R20, R84). -/
def State.cadenceStep (s : State) : State :=
  let s := s.withCadence { s.cadence with heldV := s.drive.ramp / 16 }
  match s.cadence.source with
  | .synthetic => s.recomputeInterval
  | .cam => s

/-- The source in force settled again (R83). -/
def State.settleSource (s : State) : State :=
  let new := settledSource s.cadence.profile.mode s.cadence.cam
  if new = s.cadence.source then s
  else
    let s := s.withCadence { s.cadence with source := new }
    match new with
    | .cam => s.withCadence { s.cadence with interval := none, chuffTimer := .stopped }
    | .synthetic => s.recomputeInterval

/-- The CADENCE_PROFILE handed over (R78). DESIGN CHOICE (log entry 42): the whole profile is installed before the
source is settled, so that where both the source mode and the constant change, the settling uses the new constant, and a
source that turns to CAM leaves the new constant no interval to form; R78 does not order the fields. -/
def State.takeCadenceProfile (s : State) (p : CadenceProfile) : State :=
  let old := s.cadence.source
  let newConstant := decide (p.constant ≠ s.cadence.profile.constant)
  let s := (s.withCadence { s.cadence with profile := p }).settleSource
  if newConstant ∧ s.cadence.source = .synthetic ∧ old = .synthetic then s.recomputeInterval else s

/-! ### The cam (R79 to R82) -/

/-- The wheel speed of a cam period in 10 µs and `pulses` pulses per revolution (R80). -/
def wheelSpeed (period pulses : Nat) : Nat := min (6000000 / (period * pulses)) 65535

/-- An accepted edge at time `t`, in 10 µs (R79 to R83). -/
def State.acceptEdge (s : State) (t : Nat) : State :=
  let c := s.cadence
  let c := match c.lastEdge with
    | none => { c with period := 0, speed := 0 }
    | some e =>
      let p := min (t - e) 16777215
      { c with period := p, speed := wheelSpeed p c.profile.pulses }
  let c := { c with
    lastEdge := some t, odometer := c.odometer + 1#32,
    stoppedTimer := s.startTimer wheelStoppedInterval, cam := .live }
  let s := (s.withCadence c).settleSource
  match s.cadence.source with
  | .cam => s.deliverChuff
  | .synthetic => s

/-- Whether an edge at time `t`, in 10 µs, falls inside the debounce of the last accepted edge (R79). -/
def Cadence.bounces (c : Cadence) (t : Nat) : Bool :=
  match c.lastEdge with
  | none => false
  | some e => decide (t < e + c.profile.debounce * 100)

/-! ### Meanings -/

/-- CAM_EDGE: a rising cam edge is judged against the debounce (R79). Its time is the present millisecond
and its phase inside it, in 10 µs. -/
def execCamEdge (phase : Nat) (s : State) : Host.Outcome State Fault Refusal :=
  .next <|
    let t := s.time * 100 + phase
    if !s.part.active then s
    else if s.cadence.bounces t then
      s.withCadence { s.cadence with rejected := s.cadence.rejected + 1#16 }
    else s.acceptEdge t

/-- WHEEL_STOPPED_EXPIRY: the cam becomes STOPPED, the wheel speed 0, and the source is settled; a timer that an edge
has restarted does not expire (R81). -/
def execWheelStoppedExpiry (s : State) : Host.Outcome State Fault Refusal :=
  .next <|
    if s.hasExpired s.cadence.stoppedTimer then
      (s.withCadence { s.cadence with stoppedTimer := .stopped, cam := .stopped, speed := 0 }).settleSource
    else s

/-- SYNTHETIC_CHUFF_EXPIRY: a chuff, and the next expiry one interval later; an expiry that a ramp step has moved is
not taken (R85). -/
def execSyntheticChuffExpiry (s : State) : Host.Outcome State Fault Refusal :=
  .next <|
    if s.hasExpired s.cadence.chuffTimer then
      match s.cadence.interval with
      | some i => s.syntheticChuff i
      | none => s
    else s

/-- CADENCE_READINGS_TIMER: the timer restarts, and the group and the odometer are written (R87). -/
def execCadenceReadingsTimer (s : State) : Host.Outcome State Fault Refusal :=
  .next <|
    if s.cadence.readingsTimer.isRunning then
      (s.withCadence { s.cadence with
        readingsTimer := s.startTimer readingsInterval }).writeCadenceReadings
    else s

end Sys2Proof.Machine
end

