-- ==== Sys2Proof/Machine/Lamp.lean ====
section
/-! DEFINITION. The lamp unit (chapter 7): activity, gates, effect counters and levels, duties, and the meaning of
the effect tick. -/

namespace Sys2Proof.Machine

def Phase.code : Phase → Nat
  | .a => 0
  | .b => 1
  | .ended => 2

/-! ### From activity to duty (R105, R106, R109 to R112) -/

/-- Whether a lamp is wanted: FORCE_ON, or FOLLOW with a function on whose entry names it (R105). -/
def State.lampWanted (s : State) (k : Fin 8) : Bool :=
  match s.lamps.directive[k] with
  | .forceOn => true
  | .forceOff => false
  | .follow => (List.finRange 32).any fun n =>
      s.functions.flags[n].on && s.functions.map[n].lamps.getLsbD k.val

/-- Whether a gate allows a direction in force (R106). -/
def Gate.allows : Gate → Direction → Bool
  | .any, _ => true
  | .fwd, d => d == .fwd
  | .rev, d => d == .rev

/-- Whether a lamp is lit: active, its gate allowing the direction in force (R106). -/
def Lamps.lit (u : Lamps) (k : Fin 8) : Bool := u.lamps[k].active && u.profile[k].gate.allows u.direction

/-- The effect level of an ALTERNATE lamp: an owner runs on its own counter, a follower opposite to its
lower-numbered partner's (R110). -/
def Lamps.alternateLevel (u : Lamps) (k : Fin 8) : Nat :=
  let r := u.profile[k]
  if r.partner < k.val then
    if u.lamps[Fin.ofNat 8 r.partner].phase = .b then r.brightness else 0
  else if u.lamps[k].phase = .a then r.brightness else 0

/-- The effect level of a lit lamp (R109). -/
def Lamps.effectLevel (u : Lamps) (k : Fin 8) : Nat :=
  let r := u.profile[k]
  let c := u.lamps[k]
  match r.mode with
  | .steady => r.brightness
  | .flicker => r.brightness * (128 + u.lfsr.toNat % 128) / 256
  | .alternate => u.alternateLevel k
  | .beacon =>
    match c.phase with
    | .a => r.brightness * c.count / r.countA
    | .b => r.brightness * (r.countB - c.count) / r.countB
    | .ended => 0
  | .oneShot => if c.phase = .a then r.brightness else 0

/-- A lamp's level: 0 unless lit, and limited to the stop-dim level while the drive stands (R106, R111). -/
def Lamps.levelOf (u : Lamps) (k : Fin 8) : Nat :=
  if u.lit k then
    if u.standing then min (u.effectLevel k) u.profile[k].stopDim else u.effectLevel k
  else 0

/-- The duty of a level by R112's table. -/
def State.lampDuty (s : State) (level : Nat) : Nat :=
  if s.part = .quiescing ∨ s.part = .quiet ∨ s.part = .resetting then 0 else level * s.lamps.factor / 256

/-- A lamp with its level and duty formed again; a fall of duty reaches the PWM at once (R112). -/
def State.formLamp (s : State) (k : Fin 8) : State :=
  let level := s.lamps.levelOf k
  let duty := s.lampDuty level
  s.withLamps { s.lamps with
    lamps := vecModify s.lamps.lamps k fun l => { l with level := level, duty := duty, pwm := min l.pwm duty } }

/-- Every lamp's level and duty formed again (R112). -/
def State.formLamps (s : State) : State := (List.finRange 8).foldl State.formLamp s

/-! ### Readings (R114) -/

def Lamps.lampBytes (u : Lamps) (k : Fin 8) : List Byte :=
  let l := u.lamps[k]
  le8 (maskOf [l.active, u.lit k]) ++ le8 l.phase.code ++ le8 l.count ++ le8 l.level ++ le8 l.duty ++ [0#8]

/-- The lamp group from offset 1 on (12.6). -/
def Lamps.groupBytes (u : Lamps) : List Byte :=
  le8 (maskOf [u.direction == .rev, u.standing]) ++ le16 u.lfsr.toNat ++ le16 u.factor ++
    ((List.finRange 8).map u.lampBytes).flatten

/-- A writing of the lamp readings group (R114). -/
def State.writeLampReadings (s : State) : State := s.writeGroup lampGroup 1 s.lamps.groupBytes

/-! ### Activity (R105) -/

/-- A lamp's effect counter restarted (R108). -/
def Lamp.restart (l : Lamp) : Lamp := { l with phase := .a, count := 0 }

/-- The lamps whose activation edge a working-out of activity gives. -/
def State.lampEdges (s : State) : List (Fin 8) :=
  (List.finRange 8).filter fun k => s.lampWanted k && !s.lamps.lamps[k].active

/-- The lamps that become inactive. -/
def State.lampDrops (s : State) : List (Fin 8) :=
  (List.finRange 8).filter fun k => !s.lampWanted k && s.lamps.lamps[k].active

/-- Activity worked out again for all eight lamps: a lamp at its activation edge restarts its counter, then
every level and duty is formed again, since a follower reads the counter that its owner's edge restarts (R110,
R112), and an edge writes the readings (R105, R114). -/
def State.workOutActivity (s : State) : State :=
  let edges := s.lampEdges
  let drops := s.lampDrops
  let wanted := vecTab 8 s.lampWanted
  let s := s.withLamps { s.lamps with
    lamps := vecTab 8 fun k =>
      let l := { s.lamps.lamps[k] with active := wanted[k] }
      if edges.contains k then l.restart else l }
  let s := if edges.isEmpty && drops.isEmpty then s else s.formLamps
  if edges.isEmpty then s else s.writeLampReadings

/-- The LAMP directive handed over (R105). -/
def State.takeLampDirective (s : State) (d : LampDirective) : State :=
  (s.withLamps { s.lamps with directive := d }).workOutActivity

/-- Whether a lamp's counter restarts between two records (R104). -/
def LampRecord.restarts (old new : LampRecord) : Bool :=
  old.mode != new.mode || old.run != new.run || old.countA != new.countA || old.countB != new.countB

/-- The LAMP_PROFILE handed over: changed lamps' counters restart, and every level is formed again (R104). -/
def State.takeLampProfile (s : State) (p : LampProfile) : State :=
  (s.withLamps { s.lamps with
    profile := p
    lamps := vecTab 8 fun k =>
      if s.lamps.profile[k].restarts p[k] then s.lamps.lamps[k].restart else s.lamps.lamps[k] }).formLamps

/-! ### Neighbours -/

/-- The unit takes the drive's direction in force (R106). -/
def State.lampDirection (s : State) : State :=
  if s.lamps.direction = s.drive.direction then s
  else (s.withLamps { s.lamps with direction := s.drive.direction }).formLamps

/-- Standing: the drive is IDLE or HALTED (R111). -/
def DriveState.standing : DriveState → Bool
  | .idle | .halted => true
  | .running | .reversing | .tripped | .locked => false

/-- The unit takes a change of drive state; a change of standing forms every level again and writes the
readings (R111, R114). -/
def State.lampDriveChange (s : State) : State :=
  if s.lamps.standing = s.drive.state.standing then s
  else ((s.withLamps { s.lamps with standing := s.drive.state.standing }).formLamps).writeLampReadings

/-- The unit takes a publication of the lamp factor (R112). -/
def State.lampFactor (s : State) (l : Nat) : State := (s.withLamps { s.lamps with factor := l }).formLamps

/-! ### Effect counters and the LFSR (R107, R108) -/

/-- One step of the LFSR: taps 0, 2, 3 and 5, moving toward the least significant end (R107). -/
def lfsrStep (x : BitVec 16) : BitVec 16 :=
  let feedback := (x.getLsbD 0 ^^ x.getLsbD 2) ^^ (x.getLsbD 3 ^^ x.getLsbD 5)
  (x >>> 1) ||| (if feedback then 0x8000#16 else 0#16)

/-- An effect counter's advance at a tick (R108). -/
def Lamp.advance (l : Lamp) (r : LampRecord) : Lamp :=
  match l.phase with
  | .a => if r.countA ≤ l.count + 1 then { l with phase := .b, count := 0 } else { l with count := l.count + 1 }
  | .b =>
    if r.countB ≤ l.count + 1 then
      { l with phase := if r.mode = .oneShot ∨ r.run = .single then .ended else .a, count := 0 }
    else { l with count := l.count + 1 }
  | .ended => l

/-! ### Meaning -/

/-- EFFECT_TICK: the LFSR steps, every effect counter advances, every level and duty is formed again, and
every tenth tick writes the readings (R107, R114). -/
def execEffectTick (s : State) : Host.Outcome State Fault Refusal :=
  .next <|
    if s.lamps.tickTimer.isRunning then
      let u := s.lamps
      let s := (s.withLamps { u with
        tickTimer := s.startTimer effectInterval
        ticks := (u.ticks + 1) % 10
        lfsr := lfsrStep u.lfsr
        lamps := vecTab 8 fun k => u.lamps[k].advance u.profile[k] }).formLamps
      if s.lamps.ticks = 0 then s.writeLampReadings else s
    else s

end Sys2Proof.Machine
end

