-- ==== Sys2Proof/Machine/Drive.lean ====
section
/-! DEFINITION. The drive controller (chapters 1 and 2): the speed table and the target, momentum, trim, load
compensation and duty, the drive states, protection, the EMF window, and the meanings of the drive's own
commands. -/

namespace Sys2Proof.Machine

def DriveState.code : DriveState → Nat
  | .idle => 0
  | .running => 1
  | .reversing => 2
  | .halted => 3
  | .tripped => 4
  | .locked => 5

def WindowState.code : WindowState → Nat
  | .closed => 0
  | .settling => 1
  | .sampling => 2

/-! ### Speed table (R2) -/

/-- A speed step 0 to 120 converted to du by interpolation, the signed quotient truncated toward zero
(R2). -/
def stepToDu (p : SpeedTable) (step : Nat) : Nat :=
  if step = 0 then 0
  else
    let k := step / 8
    let f := step - 8 * k
    if 15 ≤ k then p[15]
    else
      let lo : Int := p.toList.getD k 0
      let hi : Int := p.toList.getD (k + 1) 0
      (lo + truncDiv ((hi - lo) * f) 8).toNat

/-! ### Effective target (R7) -/

/-- HALTED, TRIPPED and LOCKED: the states that hold R at 0 and whose entries and exits raise DRIVE. -/
def DriveState.stopped : DriveState → Bool
  | .halted | .tripped | .locked => true
  | .idle | .running | .reversing => false

/-- BRAKE and RELEASE. -/
def Level.holds : Level → Bool
  | .brake | .release => true
  | .none | .ease => false

/-- T, by the first row of R7's table that applies. -/
def State.effectiveTarget (s : State) : Nat :=
  let d := s.drive
  if s.part = .quiescing ∨ s.part = .quiet ∨ s.part = .resetting then 0
  else if s.power.state = .spent then 0
  else if d.state.stopped then 0
  else if d.level.holds then 0
  else if d.state = .reversing then 0
  else if d.level = .ease then 0
  else if d.state = .idle then 0
  else d.target.magnitude * 16

/-! ### Trim and duty (R14, R18, R19) -/

/-- A channel's command C from R (R14). -/
def trimCommand (t : Trim) (ramp : Nat) : Nat :=
  let v := ramp / 16
  if !t.enabled then 0
  else if v = 0 then 0
  else (clampInt (truncDiv ((v : Int) * (128 + t.gain)) 256 + t.offset) 0 1023).toNat

/-- A channel's duty D from its command and correction, under the bridge ceiling while BRIDGING (R18). -/
def State.computedDuty (s : State) (command : Nat) (correction : Int) : Nat :=
  let d := (clampInt (command + correction) 0 1023).toNat
  if s.power.state = .bridging then min d s.power.profile.ceiling else d

/-- Whether R19 holds the applied duty at 0, or the bridges of a forced drive coast (R41), whose D is 0 as well. -/
def State.zeroDuty (s : State) : Bool :=
  s.drive.state.stopped || s.drive.state == .idle || s.drive.level.holds || s.drive.window != .closed ||
    s.power.state == .spent || s.part == .quiet || s.part == .resetting || s.drive.forced

/-- The duty applied to a channel's bridge (R19). -/
def State.appliedDuty (s : State) (c : Channel) : Nat :=
  if s.zeroDuty then 0 else (s.drive.channels.get c).duty

/-- A fall of the applied duty reaches the bridge at once; a rise waits for the period start (R19). -/
def State.latchBridge (s : State) : State :=
  s.withDrive { s.drive with
    channels := s.drive.channels.map fun c x => { x with pwm := min x.pwm (s.appliedDuty c) } }

/-- A channel with C formed from R, its integral and correction cleared when C is 0, and D recomputed (R14,
R16, R18). -/
def State.formChannel (s : State) (c : Channel) (x : ChannelState) : ChannelState :=
  let command := trimCommand (s.drive.profile.trim.get c) s.drive.ramp
  let x := if command = 0 then { x with integral := 0, correction := 0 } else x
  { x with command := command, duty := s.computedDuty command x.correction }

/-- Both channels' C and D recomputed (R14, R18). -/
def State.refreshDuty (s : State) : State :=
  (s.withDrive { s.drive with channels := s.drive.channels.map s.formChannel }).latchBridge

/-- Both channels' integral and correction cleared, and D recomputed (R16). -/
def State.clearIntegrals (s : State) : State :=
  (s.withDrive { s.drive with
    channels := s.drive.channels.map fun _ x => { x with integral := 0, correction := 0 } }).refreshDuty

/-! ### Bridges (R23, R175) -/

inductive BridgeMode
  | drive
  | coast
  | brake
  deriving DecidableEq, Repr

def BridgeMode.code : BridgeMode → Nat
  | .drive => 0
  | .coast => 1
  | .brake => 2

/-- The mode of both bridges, by the first row of R23's table that applies. A drive that the quiesce deadline forces
coasts, and is not HALTED, since its R was above 0 (R41; log entry 55). -/
def State.bridgeMode (s : State) : BridgeMode :=
  let d := s.drive
  if s.part = .quiet ∨ s.part = .resetting ∨ s.part = .starting then .coast
  else if d.state = .halted then .brake
  else if d.state = .tripped ∨ d.state = .locked ∨ d.forced then .coast
  else if s.power.state = .spent then .coast
  else if d.level = .brake then .brake
  else if d.level = .release then .coast
  else if d.window ≠ .closed then .coast
  else if d.state = .idle then (if d.profile.holdBrake then .brake else .coast)
  else .drive

/-! ### Readings (R43) -/

/-- A channel's part of the drive group (12.6). -/
def State.channelBytes (s : State) (c : Channel) : List Byte :=
  let x := s.drive.channels.get c
  le16 x.command ++ le16 x.duty ++ le16 (s.appliedDuty c) ++ le8 s.bridgeMode.code ++ [0#8] ++
    leSigned16 x.integral ++ leSigned16 x.correction ++ le16 x.lastEmf

/-- The drive group from offset 1 on (12.6). -/
def State.driveBytes (s : State) : List Byte :=
  let d := s.drive
  le8 d.state.code ++ le8 d.direction.code ++ le8 d.level.code ++
    le16 (maskOf (d.slotCauses.toList ++ [d.silenceCause])) ++
    le16 d.target.magnitude ++ le8 d.target.direction.code ++ le8 d.target.source.code ++
    le8 d.haltSource.code ++ le8 d.tripCount ++ le16 s.effectiveTarget ++ le16 d.ramp ++
    le8 (maskOf [d.shortA, d.shortB]) ++ le8 d.window.code ++
    le16 d.completed.toNat ++ le16 d.closedEarly.toNat ++ le16 d.timedOut.toNat ++
    s.channelBytes .a ++ s.channelBytes .b

/-- A writing of the drive readings group (R43). -/
def State.writeDriveReadings (s : State) : State := s.writeGroup driveGroup 1 s.driveBytes

/-- The levels of the SHORT lines at a writing that a change of drive state makes: the line whose trip brings the
change is asserted, and another line last seen asserted may have been released since, by a free value; one seen
released has not asserted, for that would be a TRIP (R31, R43; log entry 11). -/
def State.seeShorts (s : State) (asserting : Option Channel) : State :=
  let d := s.drive
  s.withDrive { d with
    shortA := asserting == some .a || (d.shortA && Config.shortHolds (2 * d.shortSamples))
    shortB := asserting == some .b || (d.shortB && Config.shortHolds (2 * d.shortSamples + 1))
    shortSamples := d.shortSamples + 1 }

/-! ### The EMF window's timer and closure (R37, R40) -/

def DriveProfile.anyEnabled (p : DriveProfile) : Bool := p.trim.a.enabled || p.trim.b.enabled

/-- The conditions under which the window period timer runs (R37). -/
def State.windowMayOpen (s : State) : Bool :=
  s.drive.state == .running && decide (0 < s.drive.ramp) && decide (0 < s.drive.profile.emfPeriod) &&
    s.drive.profile.anyEnabled && s.power.state != .spent && s.part == .run && s.drive.window == .closed

/-- The window period timer brought in line with R37: started when its conditions come to hold, cancelled
when one fails, and otherwise left running. -/
def State.settleWindow (s : State) : State :=
  if s.windowMayOpen then
    if s.drive.periodTimer.isRunning then s
    else s.withDrive { s.drive with periodTimer := s.startTimer (millis s.drive.profile.emfPeriod) }
  else s.withDrive { s.drive with periodTimer := .stopped }

/-- A channel with the window's request and reading forgotten. -/
def ChannelState.forget (x : ChannelState) : ChannelState := { x with requested := false, reading := none }

/-- The window CLOSED: its timers cancelled, its readings discarded (R39, R40). -/
def Drive.closeWindow (d : Drive) : Drive :=
  { d with
    window := .closed
    windowMuted := false
    settleTimer := .stopped
    limitTimer := .stopped
    channels := d.channels.map fun _ x => x.forget }

/-- An open window closed without update, counted as closed early (R40). -/
def State.closeWindowEarly (s : State) : State :=
  if s.drive.window = .closed then s
  else
    (s.withDrive { s.drive.closeWindow with closedEarly := s.drive.closedEarly + 1#16 }).latchBridge.settleWindow

/-! ### The ramp (R8 to R12, R20) -/

/-- R has changed: C and D are recomputed, and the step is handed to the cadence unit (R18, R20; the order:
log entry 18). -/
def State.rampMoved (s : State) : State := s.refreshDuty.cadenceStep

/-- R set to 0 at once: the stepping direction becomes NONE and the interval timer is cancelled (R8). -/
def State.zeroRamp (s : State) : State :=
  (s.withDrive { s.drive with ramp := 0, stepDir := .none, rampTimer := .stopped }).rampMoved

/-- A jump of mode OFF: R becomes T (R12). -/
def State.jumpRamp (s : State) : State :=
  (s.withDrive { s.drive with
    ramp := s.effectiveTarget, stepDir := .none, rampTimer := .stopped }).rampMoved

/-- The stepping direction from R toward T (R9). -/
def stepDirection (ramp target : Nat) : StepDir :=
  if ramp < target then .up else if target < ramp then .down else .none

/-- The ramp interval timer for a stepping direction (R9). -/
def State.rampInterval (s : State) : StepDir → Timer
  | .up => s.startTimer (millis s.drive.profile.accelInterval)
  | .down => s.startTimer (millis s.drive.profile.decelInterval)
  | .none => .stopped

/-- The ramp re-evaluated against the T in force: a jump in mode OFF, otherwise the stepping direction, whose
change acts on the interval timer (R9, R12). -/
def State.followTarget (s : State) : State :=
  let t := s.effectiveTarget
  if s.drive.profile.momentum = .off then
    if s.drive.ramp = t then s.withDrive { s.drive with stepDir := .none, rampTimer := .stopped }
    else s.jumpRamp
  else
    let dir := stepDirection s.drive.ramp t
    if dir = s.drive.stepDir then s
    else s.withDrive { s.drive with stepDir := dir, rampTimer := s.rampInterval dir }

/-- The size of a step of S over a distance, by the momentum mode (R10, R11). -/
def stepSize (mode : Momentum) (step distance : Nat) : Nat :=
  match mode with
  | .eased => max 1 (step * min distance 1024 / 1024)
  | .linear | .off => step

/-- R after one step toward T, which it never passes (R8, R10, R11). -/
def rampStepFrom (p : DriveProfile) (ramp target : Nat) : Nat :=
  if ramp < target then ramp + min (stepSize p.momentum p.accelStep (target - ramp)) (target - ramp)
  else ramp - min (stepSize p.momentum p.decelStep (ramp - target)) (ramp - target)

/-! ### Drive states (R22 to R34) -/

/-- The direction in force set; a change clears both integrals and is taken by the lamp unit (R16, R24,
R106). -/
def State.setDirection (s : State) (dir : Direction) : State :=
  if dir = s.drive.direction then s
  else (s.withDrive { s.drive with direction := dir }).clearIntegrals.lampDirection

/-- A change of drive state: the forgive timer, the window, attention DRIVE, the smoke and lamp units and the
readings follow it (R33, R40, R43, R44, R95, R111). `asserting` is the channel whose trip brings the change. -/
def State.enterDriveState (s : State) (new : DriveState) (asserting : Option Channel := none) : State :=
  let old := s.drive.state
  if old = new then s
  else
    let forgive :=
      if new.stopped then .stopped
      else if old.stopped ∧ 0 < s.drive.tripCount then s.startTimer (hundredMillis s.drive.profile.forgive)
      else s.drive.forgiveTimer
    let s := (s.withDrive { s.drive with state := new, forgiveTimer := forgive }).latchBridge.settleWindow
    let s := if new.stopped ∨ new = .idle then s.closeWindowEarly else s
    let s := if old.stopped ∨ new.stopped then s.raise .drive else s
    (((s.smokeDriveChange new).lampDriveChange).seeShorts asserting).writeDriveReadings

/-- What follows from R = 0: a reversal completes, and a RUNNING drive with target magnitude 0 becomes IDLE
(R25, R28). -/
def State.reachedZero (s : State) : State :=
  if s.drive.ramp ≠ 0 then s
  else match s.drive.state with
    | .reversing =>
      let s := s.setDirection s.drive.target.direction
      s.enterDriveState (if s.drive.target.magnitude = 0 then .idle else .running)
    | .running => if s.drive.target.magnitude = 0 then s.enterDriveState .idle else s
    | .idle | .halted | .tripped | .locked => s

/-- The drive brought in line with its conditions: the ramp follows T, R = 0 has its consequences, and the
ramp follows the T these leave (R7, R9, R12, R25, R28, R37). -/
def State.settleDrive (s : State) : State :=
  s.followTarget.settleWindow.reachedZero.followTarget.settleWindow

/-- A target write (R6, R24 to R27, R30, R34). DESIGN CHOICE (log entry 49): where it changes both the direction in
force and the drive state, the lamp unit takes the direction first. -/
def State.writeTarget (s : State) (magnitude : Nat) (dir : Direction) (source : Source) : State :=
  let store (s : State) : State := s.withDrive { s.drive with target := ⟨magnitude, dir, source⟩ }
  match s.drive.state with
  | .halted =>
    if magnitude = 0 then (((store s).setDirection dir).enterDriveState .idle).settleDrive else s
  | .locked =>
    if magnitude = 0 then
      let s := store s
      (((s.withDrive { s.drive with tripCount := 0 }).setDirection dir).enterDriveState .idle).settleDrive
    else store s
  | .tripped => store s
  | .idle =>
    let s := (store s).setDirection dir
    (if magnitude = 0 then s else s.enterDriveState .running).settleDrive
  | .running =>
    let s := store s
    (if dir = s.drive.direction then s
    else if s.drive.ramp = 0 then s.setDirection dir
    else s.enterDriveState .reversing).settleDrive
  | .reversing =>
    let s := store s
    (if dir = s.drive.direction then s.enterDriveState .running else s).settleDrive

/-- A HALT taken by the drive (R29). -/
def State.halt (s : State) (source : Source) : State :=
  match s.drive.state with
  | .halted | .locked => s
  | .idle | .running | .reversing | .tripped =>
    let d := s.drive
    let s := s.withDrive { d with
      target := { d.target with magnitude := 0 }, haltSource := source, retryTimer := .stopped }
    let s := s.zeroRamp.clearIntegrals.enterDriveState .halted
    (s.event .halted (BitVec.ofNat 8 source.code) 0#16).settleDrive

/-- The number of a channel, as a TRIP's subject gives it (section 2.7). -/
def channelNumber : Channel → Nat
  | .a => 0
  | .b => 1

/-- The events of a lockout, in the order `order` names: the manual takes either first (section 11.3). -/
def State.lockoutEvents (s : State) (subject : Byte) (detail : Half) (order : Nat) : State :=
  (arrange [EventKind.trip, EventKind.lockout] order).foldl (fun s k => s.event k subject detail) s

/-- A trip taken by the drive (R31). -/
def State.takeTrip (s : State) (c : Channel) (order : Nat) : State :=
  match s.drive.state with
  | .halted | .tripped | .locked => s
  | .idle | .running | .reversing =>
    let count := s.drive.tripCount + 1
    let subject := BitVec.ofNat 8 (channelNumber c)
    let detail := BitVec.ofNat 16 count
    let s := (s.withDrive { s.drive with tripCount := count }).zeroRamp.clearIntegrals
    if count ≤ s.drive.profile.retryLimit then
      let s := s.withDrive { s.drive with retryTimer := s.startTimer (tenMillis s.drive.profile.retryDelay) }
      ((s.enterDriveState .tripped (some c)).event .trip subject detail).settleDrive
    else ((s.enterDriveState .locked (some c)).lockoutEvents subject detail order).settleDrive

/-! ### Protection (R35, R36) -/

/-- The drive action a slot's alarm contributes: that of its side while it is ASSERTED (R35, R58). -/
def Sequencer.driveAction (q : Sequencer) (k : SlotIx) : Level :=
  if q.slots[k].alarm = .asserted then
    match q.slots[k].side with
    | .low => q.profile.slots[k].driveLow
    | .high => q.profile.slots[k].driveHigh
    | .none => .none
  else .none

/-- The action radio silence contributes (R35). -/
def Radio.silenceLevel (r : Radio) : Level :=
  if r.silence = .silent then r.profile.silenceAction else .none

/-- The highest action among the causes in force (R35). -/
def State.protectionLevel (s : State) : Level :=
  (List.finRange 12).foldl (fun l k => l.max (s.sequencer.driveAction k)) s.radio.silenceLevel

/-- A change of the protection level acts on the drive (R36). -/
def State.changeLevel (s : State) (new : Level) : State :=
  let old := s.drive.level
  let s := s.withDrive { s.drive with level := new }
  (if new.holds && !old.holds then s.zeroRamp.clearIntegrals.closeWindowEarly
  else s.refreshDuty).settleDrive

/-- The protection level recomputed, with the causes that contribute an action above NONE (R35, R36). -/
def State.recomputeProtection (s : State) : State :=
  let new := s.protectionLevel
  let s := s.withDrive { s.drive with
    slotCauses := vecTab 12 fun k => s.sequencer.driveAction k != .none
    silenceCause := s.radio.silenceLevel != .none }
  if new = s.drive.level then s else s.changeLevel new

/-! ### Neighbours -/

/-- The drive takes a publication of the power supervisor (R18, R71). `entersSpent` tells an entry to
SPENT. -/
def State.drivePower (s : State) (entersSpent : Bool) : State :=
  (if entersSpent then s.zeroRamp.closeWindowEarly else s.refreshDuty).settleDrive

/-- The drive at the entry to QUIESCING: an open window closes, and T is 0 (R40, R41). -/
def State.driveQuiesce (s : State) : State := s.closeWindowEarly.settleDrive

/-- The bridges of a forced drive coast (R41). -/
def State.coastForced (s : State) : State := (s.withDrive { s.drive with forced := true }).latchBridge

/-- The drive forced by the quiesce deadline: R is 0, the integral and the correction are cleared, the bridges coast,
and then the drive state follows from R = 0 (R41). The bridges coast from there on (log entry 55). -/
def State.driveForce (s : State) : State := s.coastForced.zeroRamp.clearIntegrals.settleDrive

/-- The forcing of the drive is over: what coasts its bridges from here on is the part state (R23). -/
def State.endForce (s : State) : State := s.withDrive { s.drive with forced := false }

/-- The drive takes RESUME: a target write of magnitude 0 with source NONE; a drive in TRIPPED becomes IDLE
at once, its retry timer cancelled and its count kept (R42). -/
def State.driveResume (s : State) : State :=
  let dir := s.drive.target.direction
  match s.drive.state with
  | .tripped =>
    let s := s.withDrive { s.drive with target := ⟨0, dir, .none⟩, retryTimer := .stopped }
    ((s.setDirection dir).enterDriveState .idle).settleDrive
  | .idle | .running | .reversing | .halted | .locked => s.writeTarget 0 dir .none

/-- The SPEED_TABLE handed over (R1). -/
def State.takeSpeedTable (s : State) (p : SpeedTable) : State := s.withDrive { s.drive with table := p }

/-- The DRIVE directive handed over: the target is written with source HOST (R4). -/
def State.takeDriveDirective (s : State) (d : DriveDirective) : State :=
  let s := s.withDrive { s.drive with directive := d }
  let magnitude := match d.mode with
    | .direct => d.demand
    | .step => stepToDu s.drive.table d.demand
  s.writeTarget magnitude d.direction .host

/-- A channel under a new profile: the integral clamped into the new limit, and with Pe = 0 integral and
correction 0 (R17). -/
def ChannelState.underProfile (x : ChannelState) (p : DriveProfile) : ChannelState :=
  if p.emfPeriod = 0 then { x with integral := 0, correction := 0 }
  else { x with integral := clampInt x.integral (-(p.integralLimit : Int)) p.integralLimit }

/-- The DRIVE_PROFILE handed over (R13, R14, R17, R23, R37, R40). A profile with Pe = 0 mutes the open window for good
(R17). DESIGN CHOICE (log entry 41): where the profile also turns the mode OFF, C and D are formed anew at the old R
first, and the jump comes second; R13, R14 and R18 do not order the two. -/
def State.takeDriveProfile (s : State) (p : DriveProfile) : State :=
  let turnsOff := decide (p.momentum = .off ∧ s.drive.profile.momentum ≠ .off)
  let s := (s.withDrive { s.drive with
    profile := p
    windowMuted := s.drive.windowMuted || (p.emfPeriod == 0 && s.drive.window != .closed)
    channels := s.drive.channels.map fun _ x => x.underProfile p }).refreshDuty
  let s := if p.anyEnabled then s else s.closeWindowEarly
  (if turnsOff then s.jumpRamp else s).settleDrive

/-! ### The EMF window (R38, R39) -/

/-- A channel's update from a completed reading (R15). -/
def ChannelState.compensate (x : ChannelState) (p : DriveProfile) (code : Nat) : ChannelState :=
  let e : Int := (x.command : Int) - (code * p.emfScale / 256 : Nat)
  let integral := clampInt (x.integral + e) (-(p.integralLimit : Int)) p.integralLimit
  { x with
    integral := integral
    correction := truncDiv (p.kp * e) 16 + truncDiv (p.ki * integral) 256 }

/-- A channel at the completion of the window (R15, R17, R39): a requested channel still enabled takes its
last EMF value, and its integral and correction where C is above 0 and no profile in force since the window opened
has had Pe = 0. DESIGN CHOICE (log entry 46): enabled is read at the completion alone, so that a channel disabled and
enabled again while the window is SAMPLING takes its reading. -/
def State.completeChannel (s : State) (c : Channel) (x : ChannelState) : ChannelState :=
  let p := s.drive.profile
  match x.requested, x.reading with
  | true, some code =>
    if (p.trim.get c).enabled then
      let y := if x.command = 0 ∨ p.emfPeriod = 0 ∨ s.drive.windowMuted then x else x.compensate p code
      { y with lastEmf := code * p.emfScale / 256 }
    else x
  | _, _ => x

/-- The window completes (R39). -/
def State.completeWindow (s : State) : State :=
  let s := s.withDrive { s.drive with channels := s.drive.channels.map s.completeChannel }
  let s := s.withDrive { s.drive.closeWindow with completed := s.drive.completed + 1#16 }
  s.refreshDuty.settleWindow

/-- Whether a channel's requested reading has been delivered, or none was requested. -/
def ChannelState.answered (x : ChannelState) : Bool := !x.requested || x.reading.isSome

/-- A reading delivered for the request of window `w`: one for an earlier or closed window is discarded; the
last one outstanding completes the window (R39, R40). -/
def State.deliverEmf (s : State) (c : Channel) (w value : Nat) : State :=
  if s.drive.window = .sampling ∧ s.drive.windowId = w ∧ (s.drive.channels.get c).requested then
    let x := { s.drive.channels.get c with reading := some value }
    let s := s.withDrive { s.drive with channels := s.drive.channels.set c x }
    if s.drive.channels.a.answered && s.drive.channels.b.answered then s.completeWindow else s
  else s

/-- The EMF slots of the channels requested, A before B (R38). -/
def Drive.requestedSlots (d : Drive) : List SlotIx :=
  (if d.channels.a.requested then [slotEmfA] else []) ++ (if d.channels.b.requested then [slotEmfB] else [])

/-! ### Meanings -/

/-- RETRY_TIMER_EXPIRY: the drive leaves TRIPPED for RUNNING or IDLE on the stored target (R32). -/
def execRetryTimerExpiry (s : State) : Host.Outcome State Fault Refusal :=
  .next <|
    if s.drive.retryTimer.isRunning ∧ s.drive.state = .tripped then
      let s := s.withDrive { s.drive with retryTimer := .stopped }
      let s := s.setDirection s.drive.target.direction
      (s.enterDriveState (if s.drive.target.magnitude = 0 then .idle else .running)).settleDrive
    else s

/-- FORGIVE_TIMER_EXPIRY: the trip count becomes 0 (R33). -/
def execForgiveTimerExpiry (s : State) : Host.Outcome State Fault Refusal :=
  .next <|
    if s.drive.forgiveTimer.isRunning then
      s.withDrive { s.drive with forgiveTimer := .stopped, tripCount := 0 }
    else s

/-- WINDOW_PERIOD_EXPIRY: the window enters SETTLING, the duty falls to 0 and the bridges coast (R38). -/
def execWindowPeriodExpiry (s : State) : Host.Outcome State Fault Refusal :=
  .next <|
    if s.drive.periodTimer.isRunning then
      (s.withDrive { s.drive with
        window := .settling
        windowId := s.drive.windowId + 1
        windowMuted := false
        periodTimer := .stopped
        settleTimer := s.startTimer (s.drive.profile.settle * 10)
        channels := s.drive.channels.map fun _ x => x.forget }).latchBridge
    else s

/-- SETTLE_TIMER_EXPIRY: the window enters SAMPLING, the enabled channels' conversions are requested, and
the window limit timer starts (R38, R52). -/
def execSettleTimerExpiry (s : State) : Host.Outcome State Fault Refusal :=
  .next <|
    if s.drive.settleTimer.isRunning then
      let p := s.drive.profile
      let s := s.withDrive { s.drive with
        window := .sampling
        settleTimer := .stopped
        limitTimer := s.startTimer windowLimitInterval
        channels := s.drive.channels.map fun c x => { x with requested := (p.trim.get c).enabled } }
      s.withSequencer { s.sequencer with
        requests := s.sequencer.requests ++ [⟨s.drive.windowId, s.drive.requestedSlots⟩] }
    else s

/-- WINDOW_LIMIT_EXPIRY: the window closes without update and counts as timed out (R40). -/
def execWindowLimitExpiry (s : State) : Host.Outcome State Fault Refusal :=
  .next <|
    if s.drive.limitTimer.isRunning then
      (s.withDrive { s.drive.closeWindow with
        timedOut := s.drive.timedOut + 1#16 }).latchBridge.settleWindow
    else s

/-- DRIVE_READINGS_TIMER: the timer restarts and the group is written, with the levels of the SHORT lines
as they stand (R43). -/
def execDriveReadingsTimer (shortA shortB : Bool) (s : State) : Host.Outcome State Fault Refusal :=
  .next <|
    if s.drive.readingsTimer.isRunning then
      (s.withDrive { s.drive with
        readingsTimer := s.startTimer readingsInterval, shortA := shortA, shortB := shortB }).writeDriveReadings
    else s

end Sys2Proof.Machine
end

