-- ==== Sys2Proof/Machine/PartState.lean ====
section
/-! DEFINITION. The part states (sections 10.5 and 10.6): the entry to QUIESCING, the seven acknowledgements and
the end of a quiesce, and the soft reset at the entry to RESETTING. -/

namespace Sys2Proof.Machine

/-! ### The radio receiver's finder (R139, R140, R154) -/

def FinderState.code : FinderState → Nat
  | .hunt => 0
  | .sync => 1
  | .length => 2
  | .body => 3
  | .check => 4

/-- Whether a return to HUNT from this state counts as an abandonment (R139). -/
def FinderState.inFrame : FinderState → Bool
  | .length | .body | .check => true
  | .hunt | .sync => false

/-- The finder's return to HUNT without a completed frame: the buffer is emptied, the gap timer cancelled, and
a frame in progress counted as abandoned (R139, R140). -/
def Radio.toHunt (r : Radio) : Radio :=
  { r with
    finder := .hunt
    buffer := .empty
    gapTimer := .stopped
    abandoned := if r.finder.inFrame then r.abandoned + 1#16 else r.abandoned }

/-! ### The entry to QUIESCING (R167) -/

/-- The receiver at the entry to QUIESCING: the finder returns to HUNT and the silence timer is cancelled
(R154). -/
def State.radioQuiesce (s : State) : State := s.withRadio { s.radio.toHunt with silenceTimer := .stopped }

/-- The sequencer at the entry to QUIESCING: the EMF request list is dropped (R53, R62). -/
def State.sequencerQuiesce (s : State) : State := s.withSequencer { s.sequencer with requests := [] }

/-- The adoption unit at the entry to QUIESCING: the sweep is abandoned and its timer cancelled (R162). -/
def State.adoptionQuiesce (s : State) : State :=
  s.withAdoption { s.adoption with sweep := none, sweepDeferred := false, sweepTimer := .stopped }

/-- The acknowledgements that stand at the entry: those made at once (R167). -/
def State.firstAcks (s : State) : Acks :=
  { Acks.none with smoke := true, sequencer := s.sequencer.inFlight.isNone, radio := true, lamps := true }

/-! ### The entry to RESETTING (R169) -/

/-- The store after the re-initialisation of a soft reset: the readings groups are zeroed, the rest is kept
(R169). -/
def resetStore (m : Memory) : Memory :=
  m.filter fun c => decide (c.1 < readingsBase) || decide (retainedGroup ≤ c.1)

/-- The entry to RESETTING: every block takes its soft-reset values, the odometer and the fluid budget are kept,
and the store is re-initialised by R169's table. -/
def State.softReset (s : State) : State :=
  { State.reset with
    part := .resetting
    port := s.port
    store := resetStore s.store
    drive := { Drive.reset with
      shortA := s.drive.shortA, shortB := s.drive.shortB, shortSamples := s.drive.shortSamples }
    cadence := { Cadence.reset with odometer := s.cadence.odometer }
    smoke := { Smoke.reset with budget := s.smoke.budget }
    flash := s.flash
    draws := s.draws
    pending := s.pending }

/-! ### The end of a quiesce (R167) -/

/-- The entry to QUIET: the outputs are off by their owners' rules, and attention PART_STATE is raised. The part state
coasts the bridges, so a forced drive is forced no longer (R23, R41). -/
def State.enterQuiet (s : State) : State :=
  let s := ((s.withPart .quiet).withDeadline .stopped).endForce
  (((s.withAcks .none).latchBridge.rereadFan).formLamps).raise .partState

/-- The end of a quiesce: QUIET, or RESETTING if the reset mark is set (R167). -/
def State.endQuiesce (s : State) : State := if s.resetMark then s.softReset else s.enterQuiet

def Acks.all (a : Acks) : Bool :=
  a.drive && a.sound && a.smoke && a.sequencer && a.radio && a.lamps && a.adoption

/-- The acknowledgements with those whose condition now holds: an acknowledgement, once made, stands. The
sequencer's is made where its conversion completes (R41, R62, R133, R162). -/
def State.acksNow (s : State) : Acks :=
  { s.acks with
    drive := s.acks.drive || s.drive.ramp == 0
    sound := s.acks.sound || !s.sound.anyBusy
    adoption := s.acks.adoption || s.adoption.visit.isNone }

/-- In QUIESCING the acknowledgements are brought up to date, and the last one ends the quiesce (R167). -/
def State.settleQuiesce (s : State) : State :=
  if s.part = .quiescing then
    let s := s.withAcks s.acksNow
    if s.acks.all then s.endQuiesce else s
  else s

/-- The entry to QUIESCING, with the reset mark as given: the deadline starts, attention PART_STATE is raised,
and the seven blocks wind down (R166, R167). -/
def State.enterQuiescing (s : State) (mark : Bool) : State :=
  let s := ((s.withPart .quiescing).withResetMark mark).withDeadline (s.startTimer deadlineInterval)
  let s := (s.withAcks s.firstAcks).raise .partState
  let s := s.driveQuiesce.soundQuiesce.smokeQuiesce.sequencerQuiesce.radioQuiesce
  (s.formLamps).adoptionQuiesce.settleQuiesce

/-! ### Meanings of the drive's commands that may end a quiesce -/

/-- RAMP_STEP: the ramp takes one step toward T, and the interval timer starts again if R still differs
(R9 to R11). -/
def execRampStep (s : State) : Host.Outcome State Fault Refusal :=
  .next <|
    if s.drive.rampTimer.isRunning then
      let t := s.effectiveTarget
      let r := rampStepFrom s.drive.profile s.drive.ramp t
      let dir := stepDirection r t
      let s := s.withDrive { s.drive with ramp := r, stepDir := dir, rampTimer := s.rampInterval dir }
      s.rampMoved.settleDrive.settleQuiesce
    else s

/-- TRIP: a SHORT line asserts; in QUIET and RESETTING only its level is seen (R31). -/
def execTrip (c : Channel) (order : Nat) (s : State) : Host.Outcome State Fault Refusal :=
  .next <|
    let s := match c with
      | .a => s.withDrive { s.drive with shortA := true }
      | .b => s.withDrive { s.drive with shortB := true }
    if s.part = .quiet ∨ s.part = .resetting then s else (s.takeTrip c order).settleQuiesce

end Sys2Proof.Machine
end

