-- ==== Sys2Proof/Machine/Functions.lean ====
section
/-! DEFINITION. The function table and the function map (section 9.6): the writing of flags, and the one hand-off
that a change makes to the lamp unit, the smoke unit and the sound engine. -/

namespace Sys2Proof.Machine

/-- The flags after a write: each flag written takes the new state and the writer's source (R152). -/
def writtenFlags (flags : Vector FunctionFlag 32) (write : Fin 32 → Option Bool) (source : Source) :
    Vector FunctionFlag 32 :=
  vecTab 32 fun n => match write n with
    | some on => ⟨on, source⟩
    | none => flags[n]

/-- The functions whose state a write changes, in number order (R152). -/
def changedFlags (old new : Vector FunctionFlag 32) : List (Fin 32) :=
  (List.finRange 32).filter fun n => old[n].on != new[n].on

/-- The hand-off of changed flags: the lamp unit works out activity, the smoke unit its enabled value, and the
sound engine acts on each changed flag in number order (R152). The three reach different state, so their
order is not chosen. -/
def State.handFlags (s : State) (changed : List (Fin 32)) : State :=
  changed.foldl (fun s n => s.soundEdge n s.functions.flags[n].on) s.workOutActivity.reevaluateSmoke

/-- A write of function flags; a write that changes no state makes no hand-off (R152). -/
def State.writeFunctions (s : State) (write : Fin 32 → Option Bool) (source : Source) : State :=
  let new := writtenFlags s.functions.flags write source
  let changed := changedFlags s.functions.flags new
  let s := s.withFunctions { s.functions with flags := new }
  if changed.isEmpty then s else s.handFlags changed

/-- The FUNCTION_MAP handed to its readers: activity and enable are worked out again from the flags as they
stand; the sound engine starts and stops nothing (R128, R153). -/
def State.takeFunctionMap (s : State) (m : FunctionMap) : State :=
  (s.withFunctions { s.functions with map := m }).workOutActivity.reevaluateSmoke

/-- The FUNCTION directive handed over: each flag whose mask bit is 1 is written with source HOST (R153). -/
def State.takeFunctionDirective (s : State) (d : FunctionDirective) : State :=
  (s.withFunctions { s.functions with directive := d }).writeFunctions
    (fun n => if d.mask.getLsbD n.val then some (d.states.getLsbD n.val) else none) .host

end Sys2Proof.Machine
end

