-- ==== Sys2Proof/Machine/Radio.lean ====
section
/-! DEFINITION. The radio receiver (chapter 9): the frame finder, the judgement and routing of a completed frame,
the inbound list, silence, and the meanings of the receiver's commands. -/

namespace Sys2Proof.Machine

def SilenceState.code : SilenceState → Nat
  | .disarmed => 0
  | .listening => 1
  | .silent => 2

/-! ### Readings (R155) -/

/-- The recent-senders entries, unused places 0 (12.6). -/
def Radio.senderBytes (r : Radio) : List Byte :=
  let used := (r.senders.take 8).map fun e => [e.sender, e.counter] ++ le32 e.heard
  (used ++ List.replicate (8 - used.length) (List.replicate 6 0#8)).flatten

/-- The number of FILLED inbound records. -/
def State.inboundFilled (s : State) : Nat := s.inbound.toList.countP (·.filled)

/-- The radio group from offset 1 on (12.6). -/
def State.radioBytes (s : State) : List Byte :=
  let r := s.radio
  le8 r.finder.code ++ le8 r.silence.code ++ [flagByte r.heard] ++
    le16 r.framesGood.toNat ++ le16 r.crcBad.toNat ++ le16 r.abandoned.toNat ++ le16 r.notAddressed.toNat ++
    le16 r.duplicates.toNat ++ le16 r.refused.toNat ++ le16 r.heldOff.toNat ++ le16 r.inboundDropped.toNat ++
    le16 r.elapsed ++ le8 (s.timeLeft r.silenceTimer) ++ [r.inboundSeq] ++ le8 s.inboundFilled ++
    le8 r.senders.length ++ r.senderBytes ++
    le32 (maskOf (s.functions.flags.toList.map (·.on))) ++
    s.functions.flags.toList.map fun f => BitVec.ofNat 8 f.source.code

/-- A writing of the radio readings group (R155). -/
def State.writeRadioReadings (s : State) : State := s.writeGroup radioGroup 1 s.radioBytes

/-! ### The frame finder (R138 to R140) -/

/-- The finder in a state other than HUNT, with its gap timer started (R140). -/
def State.finderGoesOn (s : State) (finder : FinderState) (buffer : Frame) : State :=
  s.withRadio { s.radio with finder := finder, buffer := buffer, gapTimer := s.startTimer gapInterval }

/-- The finder back in HUNT without a completed frame (R139). -/
def State.finderHunts (s : State) : State := s.withRadio s.radio.toHunt

/-- A byte with a good stop bit at the frame finder (R139). -/
def State.finderByte (s : State) (b : Byte) : State :=
  let r := s.radio
  match r.finder with
  | .hunt => if b = 0xB5#8 then s.finderGoesOn .sync r.buffer else s
  | .sync =>
    if b = 0xB5#8 then s.finderGoesOn .sync r.buffer
    else if b = 0x4A#8 then s.finderGoesOn .length r.buffer
    else s.finderHunts
  | .length =>
    if 5 ≤ b.toNat ∧ b.toNat ≤ 16 then s.finderGoesOn .body { r.buffer with len := b } else s.finderHunts
  | .body =>
    let f := { r.buffer with body := r.buffer.body ++ [b] }
    s.finderGoesOn (if f.len.toNat ≤ f.body.length then .check else .body) f
  | .check =>
    let f := { r.buffer with crc := r.buffer.crc ++ [b] }
    if f.crc.length < 2 then s.finderGoesOn .check f
    else s.withRadio { r with
      finder := .hunt, buffer := .empty, gapTimer := .stopped, completed := some f }

/-- A framing error at the frame finder (R139). -/
def State.finderError (s : State) : State :=
  match s.radio.finder with
  | .hunt => s
  | .sync | .length | .body | .check => s.finderHunts

/-! ### Silence (R149 to R151) -/

/-- The silence timeout in force, in microseconds. -/
def Radio.timeoutMicros (r : Radio) : Nat := hundredMillis r.profile.silenceTimeout

/-- The state becomes LISTENING with the silence timer started in full. -/
def State.listen (s : State) : State :=
  s.withRadio { s.radio with silence := .listening, silenceTimer := s.startTimer s.radio.timeoutMicros }

/-- Silence ends: the cause is withdrawn from the drive, and RADIO_RESTORED and SILENCE are raised. The
`subject` tells by what: 1 a frame, 2 the profile (R149, R151, R156). -/
def State.endSilence (s : State) (subject : Byte) : State :=
  let s := s.withRadio { s.radio with elapsedTimer := .stopped }
  ((s.event .radioRestored subject (BitVec.ofNat 16 s.radio.elapsed)).raise .silence).recomputeProtection

/-- A frame matched by primary or consist address acts on silence (R149). -/
def State.frameHeard (s : State) : State :=
  match s.radio.silence with
  | .disarmed =>
    let s := s.withRadio { s.radio with heard := true }
    if 0 < s.radio.profile.silenceTimeout then s.listen.writeRadioReadings else s
  | .listening => s.listen
  | .silent => (s.listen.endSilence 1#8).writeRadioReadings

/-- The RADIO_PROFILE handed over (R145, R151). -/
def State.takeRadioProfile (s : State) (p : RadioProfile) : State :=
  let old := s.radio.profile
  let s := s.withRadio { s.radio with profile := p }
  match s.radio.silence with
  | .disarmed =>
    if 0 < p.silenceTimeout ∧ s.radio.heard then s.listen.writeRadioReadings else s
  | .listening =>
    if p.silenceTimeout = 0 then
      (s.withRadio { s.radio with silence := .disarmed, silenceTimer := .stopped }).writeRadioReadings
    else s
  | .silent =>
    if p.silenceTimeout = 0 then
      ((s.withRadio { s.radio with silence := .disarmed }).endSilence 2#8).writeRadioReadings
    else if p.silenceAction ≠ old.silenceAction then s.recomputeProtection
    else s

/-- The receiver at RESUME: a LISTENING one starts its silence timer in full (R154). -/
def State.radioResume (s : State) : State :=
  match s.radio.silence with
  | .listening => s.listen
  | .disarmed | .silent => s

/-! ### The judgement of a frame (R141 to R143) -/

/-- The command code of a frame (R136). -/
def Frame.command (f : Frame) : Nat := u8At f.body 4

/-- The address of a frame, high byte first (R136). -/
def Frame.address (f : Frame) : Nat := u8At f.body 0 * 256 + u8At f.body 1

/-- Whether the CRC received matches (R136, R141). -/
def Frame.crcMatches (f : Frame) : Bool := (crc16 (f.len :: f.body)).toNat == bigEndian f.crc

/-- A frame that has reached the duplicate check, by its fields. -/
structure Heard where
  via : Via
  sender : Byte
  counter : Byte
  command : Byte
  payload : List Byte
  deriving DecidableEq, Repr

/-- How a frame is addressed, if it is (R142). -/
def RadioProfile.addressedAs (p : RadioProfile) (f : Frame) : Option Via :=
  let a := f.address
  if a = p.primary then some .primary
  else if a = p.consist ∧ p.consist ≠ 0 then some .consist
  else if a = 0 ∧ f.command = 0x11 then some .broadcast
  else none

/-- A frame's fields, with its via. -/
def Frame.heard (f : Frame) (via : Via) : Heard :=
  ⟨via, f.body.getD 2 0#8, f.body.getD 3 0#8, f.body.getD 4 0#8, f.body.drop 5⟩

/-- The recent-senders table after an addressed frame: the sender's entry, new or renewed, at the back, and the
front one removed from a full table (R143). -/
def Radio.sendersAfter (r : Radio) (h : Heard) (time : Nat) : List Sender :=
  let others := r.senders.filter fun e => e.sender != h.sender
  let others := if others.length = r.senders.length ∧ 8 ≤ others.length then others.drop 1 else others
  others ++ [⟨h.sender, h.counter, time⟩]

/-- Whether an addressed frame is a duplicate (R143). -/
def Radio.isDuplicate (r : Radio) (h : Heard) : Bool :=
  r.senders.any fun e => e.sender == h.sender && e.counter == h.counter

/-- Steps 1 to 5 of the judgement; a frame discarded gives none (R141). -/
def State.judge (s : State) (f : Frame) : State × Option Heard :=
  let r := s.radio
  if !f.crcMatches then (s.withRadio { r with crcBad := r.crcBad + 1#16 }, none)
  else
    let s := s.withRadio { r with framesGood := r.framesGood + 1#16 }
    if s.part ≠ .run then (s.withRadio { s.radio with heldOff := r.heldOff + 1#16 }, none)
    else match r.profile.addressedAs f with
      | none => (s.withRadio { s.radio with notAddressed := r.notAddressed + 1#16 }, none)
      | some via =>
        let h := f.heard via
        let s := if via = .broadcast then s else s.frameHeard
        let duplicate := s.radio.isDuplicate h
        let s := s.withRadio { s.radio with senders := s.radio.sendersAfter h s.time }
        if duplicate then (s.withRadio { s.radio with duplicates := r.duplicates + 1#16 }, none)
        else (s, some h)

/-- A command that fails its checks (R144). -/
def State.refuseCommand (s : State) : State :=
  s.withRadio { s.radio with refused := s.radio.refused + 1#16 }

/-- The completed frame, if its command code is one that `kind` names, is judged, and what passes the duplicate
check is taken by `act`. -/
def State.takeFrame (s : State) (kind : Nat → Bool) (act : State → Heard → State) : State :=
  match s.radio.completed with
  | none => s
  | some f =>
    if kind f.command then
      match (s.withRadio { s.radio with completed := none }).judge f with
      | (s, some h) => act s h
      | (s, none) => s
    else s

/-! ### The inbound list (R147, R148) -/

/-- The lowest-numbered FREE record, if the next seq may be used (R147, R148). -/
def State.inboundRoom (s : State) : Option (Fin 8) :=
  if s.inbound.toList.any fun r => r.filled && r.seq == s.radio.inboundSeq + 1#8 then none
  else (List.finRange 8).find? fun i => !s.inbound[i].filled

/-- A command forwarded: a record is filled, or the forward is dropped (R147, R148). -/
def State.forward (s : State) (h : Heard) : State :=
  match s.inboundRoom with
  | some i =>
    let seq := s.radio.inboundSeq + 1#8
    ((s.withInbound (s.inbound.set i
      ⟨true, seq, h.sender, h.counter, h.command, h.via, h.payload⟩)).withRadio
        { s.radio with inboundSeq := seq }).raise .inbox
  | none =>
    ((s.withRadio { s.radio with inboundDropped := s.radio.inboundDropped + 1#16 }).event .inboxDropped 0#8
      (BitVec.ofNat 16 (h.sender.toNat * 256 + h.command.toNat))).raise .inboxFull

/-- A record freed by the host (R148). -/
def State.freeInboundRecord (s : State) (n : Fin 8) : State :=
  s.withInbound (vecModify s.inbound n fun r => { r with filled := false })

/-! ### Routing (R146) -/

/-- An accepted command routed: applied, forwarded, both in the order `order` names, or neither (R146). -/
def State.route (s : State) (routing : Routing) (h : Heard) (apply : State → State) (order : Nat) : State :=
  let hands :=
    (if routing.applies then [apply] else []) ++
      (if routing.forwards then [fun s : State => s.forward h] else [])
  (arrange hands order).foldl (fun s hand => hand s) s

/-- A SPEED applied by the drive: the target is written with source RADIO, unless the DRIVE directive in force
does not allow it (R5). -/
def State.applySpeed (s : State) (h : Heard) (step : Nat) (dir : Direction) : State :=
  if s.drive.directive.radioAllowed then
    let dir := if h.via = .consist ∧ s.radio.profile.consistReversed then dir.flip else dir
    s.writeTarget (stepToDu s.drive.table step) dir .radio
  else s

/-- A SPEED that has passed the duplicate check (R144, R146). -/
def State.takeSpeed (s : State) (h : Heard) (order : Nat) : State :=
  if h.payload.length < 2 then s.refuseCommand
  else match Direction.ofCode (u8At h.payload 1) with
    | none => s.refuseCommand
    | some dir =>
      let step := min (u8At h.payload 0) 120
      s.route s.radio.profile.speed { h with payload := h.payload.set 0 (BitVec.ofNat 8 step) }
        (fun s => s.applySpeed h step dir) order

/-- A FUNCTION that has passed the duplicate check (R144, R152). -/
def State.takeFunction (s : State) (h : Heard) (order : Nat) : State :=
  let n := u8At h.payload 0
  if h.payload.length < 2 ∨ 31 < n then s.refuseCommand
  else match switchOfCode (u8At h.payload 1) with
    | none => s.refuseCommand
    | some on =>
      s.route s.radio.profile.function h
        (fun s => s.writeFunctions (fun m => if m.val = n then some on else none) .radio) order

/-- The flags a FUNCTION_GROUP writes: bit k of the state byte is the state of function base + k (R144). -/
def groupWrite (base : Nat) (states : Byte) (n : Fin 32) : Option Bool :=
  if base ≤ n.val ∧ n.val < base + 8 then some (states.getLsbD (n.val - base)) else none

/-- A FUNCTION_GROUP that has passed the duplicate check (R144, R152). -/
def State.takeFunctionGroup (s : State) (h : Heard) (order : Nat) : State :=
  let base := u8At h.payload 0
  if h.payload.length < 2 ∨ ¬ (base = 0 ∨ base = 8 ∨ base = 16 ∨ base = 24) then s.refuseCommand
  else
    s.route s.radio.profile.functionGroup h
      (fun s => s.writeFunctions (groupWrite base (h.payload.getD 1 0#8)) .radio) order

/-- A CUE that has passed the duplicate check (R128, R144). -/
def State.takeCue (s : State) (h : Heard) (order : Nat) : State :=
  let n := u8At h.payload 0
  if h.payload.length < 2 ∨ 63 < n then s.refuseCommand
  else
    s.route s.radio.profile.cue h (fun s => (s.cueRequest n (u8At h.payload 1) none .radio).1) order

/-- A VOLUME that has passed the duplicate check (R116, R144). -/
def State.takeVolume (s : State) (h : Heard) : State :=
  if h.payload.length < 1 then s.refuseCommand
  else
    s.route s.radio.profile.volume h
      (fun s => s.withSound { s.sound with volume := u8At h.payload 0 }) 0

/-! ### Meanings -/

/-- RADIO_BYTE: a byte or a framing error moves the frame finder (R138, R139). -/
def execRadioByte (input : LineInput) (s : State) : Host.Outcome State Fault Refusal :=
  .next <|
    if s.part.active then
      match input with
      | .byte b => s.finderByte b
      | .framingError => s.finderError
    else s

/-- GAP_TIMER_EXPIRY: the finder returns to HUNT, counting an abandonment outside SYNC (R140). -/
def execGapTimerExpiry (s : State) : Host.Outcome State Fault Refusal :=
  .next <| if s.hasExpired s.radio.gapTimer then s.finderHunts else s

/-- RADIO_SPEED: a completed SPEED frame is judged and routed (R5, R141, R146). -/
def execRadioSpeed (order : Nat) (s : State) : Host.Outcome State Fault Refusal :=
  .next <| s.takeFrame (· == 0x10) fun s h => s.takeSpeed h order

/-- RADIO_HALT: a completed HALT frame is judged and routed as a HALT with source RADIO (R29, R146). -/
def execRadioHalt (order : Nat) (s : State) : Host.Outcome State Fault Refusal :=
  .next <| s.takeFrame (· == 0x11) fun s h =>
    s.route s.radio.profile.halt h (fun s => s.halt .radio) order

/-- RADIO_FUNCTION: a completed FUNCTION frame is judged and routed (R146, R152). -/
def execRadioFunction (order : Nat) (s : State) : Host.Outcome State Fault Refusal :=
  .next <| s.takeFrame (· == 0x20) fun s h => s.takeFunction h order

/-- RADIO_FUNCTION_GROUP: a completed FUNCTION_GROUP frame is judged and routed (R146, R152). -/
def execRadioFunctionGroup (order : Nat) (s : State) : Host.Outcome State Fault Refusal :=
  .next <| s.takeFrame (· == 0x21) fun s h => s.takeFunctionGroup h order

/-- RADIO_CUE: a completed CUE frame is judged and routed (R128, R146). -/
def execRadioCue (order : Nat) (s : State) : Host.Outcome State Fault Refusal :=
  .next <| s.takeFrame (· == 0x30) fun s h => s.takeCue h order

/-- RADIO_VOLUME: a completed VOLUME frame is judged and routed (R116, R146). -/
def execRadioVolume (s : State) : Host.Outcome State Fault Refusal :=
  .next <| s.takeFrame (· == 0x31) fun s h => s.takeVolume h

/-- RADIO_USER: a completed USER frame is judged and forwarded; no block applies one (R145, R146). -/
def execRadioUser (s : State) : Host.Outcome State Fault Refusal :=
  .next <| s.takeFrame (fun c => decide (0x40 ≤ c) && decide (c ≤ 0x7F)) fun s h =>
    s.route s.radio.profile.user h (fun s => s) 0

/-- The command codes of R144's table. -/
def knownCommand (c : Nat) : Bool :=
  c == 0x10 || c == 0x11 || c == 0x20 || c == 0x21 || c == 0x30 || c == 0x31 ||
    (decide (0x40 ≤ c) && decide (c ≤ 0x7F))

/-- RADIO_UNKNOWN_COMMAND: a completed frame of an unknown code is judged and refused (R144). -/
def execRadioUnknownCommand (s : State) : Host.Outcome State Fault Refusal :=
  .next <| s.takeFrame (fun c => !knownCommand c) fun s _ => s.refuseCommand

/-- SILENCE_TIMER_EXPIRY: SILENT, the cause handed to the drive, the target cleared if the profile says so, and
RADIO_SILENT raised (R150). -/
def execSilenceTimerExpiry (s : State) : Host.Outcome State Fault Refusal :=
  .next <|
    if s.hasExpired s.radio.silenceTimer then
      let s := s.withRadio { s.radio with
        silence := .silent
        silenceTimer := .stopped
        elapsed := 0
        elapsedTimer := s.startTimer elapsedInterval }
      let s := s.recomputeProtection
      let s :=
        if s.radio.profile.clearTarget then s.writeTarget 0 s.drive.target.direction .radio else s
      let s := s.event .radioSilent 0#8 (BitVec.ofNat 16 s.radio.profile.silenceTimeout)
      (s.raise .silence).writeRadioReadings.settleQuiesce
    else s

/-- ELAPSED_TICK: the elapsed counter rises, stopping at 65535, and the timer starts again (R150). -/
def execElapsedTick (s : State) : Host.Outcome State Fault Refusal :=
  .next <|
    if s.radio.elapsedTimer.isRunning then
      s.withRadio { s.radio with
        elapsedTimer := s.startTimer elapsedInterval, elapsed := min (s.radio.elapsed + 1) 65535 }
    else s

/-- RADIO_READINGS_TIMER: the timer restarts and the group is written (R155). -/
def execRadioReadingsTimer (s : State) : Host.Outcome State Fault Refusal :=
  .next <|
    if s.radio.readingsTimer.isRunning then
      (s.withRadio { s.radio with readingsTimer := s.startTimer readingsInterval }).writeRadioReadings
    else s

end Sys2Proof.Machine
end

