-- ==== Sys2Proof/Machine/Power.lean ====
section
/-! DEFINITION. The power supervisor (chapter 4): its two inputs, the power states, the publication to the drive,
the smoke unit, the lamps and the sound engine, the charge switch, and the meanings of its own commands. -/

namespace Sys2Proof.Machine

def PowerState.code : PowerState → Nat
  | .supplied => 0
  | .bridging => 1
  | .spent => 2

/-! ### The publication (R71) -/

/-- The lamp factor L published in the power state (R71). -/
def Power.lampFactor (p : Power) : Nat :=
  match p.state with
  | .supplied => 256
  | .bridging => p.profile.dim
  | .spent => 0

/-- The sound attenuation A published in the power state (R71). -/
def Power.attenuation (p : Power) : Nat :=
  match p.state with
  | .supplied => 256
  | .bridging => p.profile.attenuation
  | .spent => 0

/-- The ceiling as the readings report it: 0 when none applies (R75). -/
def Power.ceilingInForce (p : Power) : Nat := if p.state = .bridging then p.profile.ceiling else 0

/-- The smoke unit takes the power hold cause (R71, R92). -/
def State.smokePower (s : State) : State := s.setHolds (s.power.state != .supplied) s.smoke.alarmHold

/-- The lamp unit takes L (R71, R112). -/
def State.lampPower (s : State) : State := s.lampFactor s.power.lampFactor

/-- The sound engine stores A (R71, R131). -/
def State.soundPower (s : State) : State :=
  s.withSound { s.sound with attenuation := s.power.attenuation }

/-- The publication handed to the four receivers, in the order `order` names: the manual fixes none (R71).
`entersSpent` tells an entry to SPENT. -/
def State.publishPower (s : State) (entersSpent : Bool) (order : Nat) : State :=
  (arrange
    [fun s : State => s.drivePower entersSpent, State.smokePower, State.lampPower, State.soundPower]
    order).foldl (fun s receiver => receiver s) s

/-! ### Readings (R75) -/

/-- The power group from offset 1 on (12.6). -/
def Power.groupBytes (p : Power) : List Byte :=
  le8 p.state.code ++ le8 (maskOf [p.trackLost, p.storeLow, p.charge]) ++ [0#8] ++ le16 p.bridge ++
    le16 p.outage ++ le16 p.lastOutage ++ le16 p.outageCount.toNat ++ le16 p.spentCount.toNat ++
    le16 p.ceilingInForce ++ le16 p.lampFactor ++ le16 p.attenuation

/-- A writing of the power readings group (R75). -/
def State.writePowerReadings (s : State) : State := s.writeGroup powerGroup 1 s.power.groupBytes

/-! ### Changes of the power state (R66 to R69) -/

/-- What each change of the power state ends with: its event, attention POWER, the readings, and the
publication (R71, R75, R76). DESIGN CHOICE (log entry 48): the event comes before the publication reaches the
receivers. -/
def State.announcePower (s : State) (kind : EventKind) (subject : Byte) (detail : Nat) (entersSpent : Bool)
    (order : Nat) : State :=
  (((s.event kind subject (BitVec.ofNat 16 detail)).raise .power).writePowerReadings).publishPower
    entersSpent order

/-- Why the supervisor enters SPENT, numbered as POWER_SPENT's subject (R76). -/
inductive SpentCause
  | bridgeTime
  | storeLow
  | noBridge
  deriving DecidableEq, Repr

def SpentCause.code : SpentCause → Nat
  | .bridgeTime => 1
  | .storeLow => 2
  | .noBridge => 3

/-- Entry to SPENT: the bridge timer is 0 and the spent count rises; the outage goes on (R66, R68). -/
def State.enterSpent (s : State) (cause : SpentCause) (order : Nat) : State :=
  let p := s.power
  (s.withPower { p with state := .spent, bridge := 0, spentCount := p.spentCount + 1#16 }).announcePower
    .powerSpent (BitVec.ofNat 8 cause.code) p.outage true order

/-- Entry to BRIDGING with Tb × 10 ticks (R66). -/
def State.enterBridging (s : State) (order : Nat) : State :=
  let p := s.power
  (s.withPower { p with state := .bridging, bridge := p.profile.bridgeTime * 10 }).announcePower
    .powerBridging 0#8 p.profile.bridgeTime false order

/-- Track lost begins in SUPPLIED: the outage begins, and the locomotive bridges or is spent (R66). -/
def State.leaveSupplied (s : State) (order : Nat) : State :=
  let p := s.power
  let s := s.withPower { p with
    outage := 0
    outageTimer := s.startTimer outageInterval
    outageCount := p.outageCount + 1#16
    charge := false }
  if 0 < p.profile.bridgeTime ∧ p.storeLow = false then s.enterBridging order
  else s.enterSpent .noBridge order

/-- Track lost ends in BRIDGING or SPENT: SUPPLIED again, the outage's length recorded (R67, R69). The
`subject` names the state left: 1 BRIDGING, 2 SPENT. -/
def State.returnSupplied (s : State) (subject : Byte) (order : Nat) : State :=
  let p := s.power
  (s.withPower { p with
    state := .supplied, outageTimer := .stopped, bridge := 0, lastOutage := p.outage, outage := 0 }).announcePower
    .powerSupplied subject p.outage false order

/-! ### Inputs (R65) -/

/-- Whether a slot's alarm is ASSERTED on its LOW side. -/
def Sequencer.assertedLow (q : Sequencer) (k : SlotIx) : Bool :=
  q.slots[k].alarm == .asserted && q.slots[k].side == .low

/-- The supervisor takes the contributions of TRACK and STORE: an input that changes is taken by R66 to R69. -/
def State.powerContributions (s : State) (order : Nat) : State :=
  let p := s.power
  let track := s.sequencer.assertedLow slotTrack
  let low := s.sequencer.assertedLow slotStore
  let s := s.withPower { p with trackLost := track, storeLow := low }
  match p.state with
  | .supplied => if track && !p.trackLost then s.leaveSupplied order else s
  | .bridging =>
    if p.trackLost && !track then s.returnSupplied 1#8 order
    else if low && !p.storeLow then s.enterSpent .storeLow order
    else s
  | .spent => if p.trackLost && !track then s.returnSupplied 2#8 order else s

/-! ### The charge switch (R73) -/

/-- The charge switch after a STORE value in SUPPLIED (R73). -/
def chargeAfter (full : Nat) (stood : Bool) (value : Nat) : Bool :=
  if (value : Int) < (full : Int) - 32 then true else if value < full then stood else false

/-- A STORE value delivered (R73). -/
def State.storeValue (s : State) (value : Nat) : State :=
  if s.power.state = .supplied then
    s.withPower { s.power with charge := chargeAfter s.power.profile.storeFull s.power.charge value }
  else s

/-! ### The profile (R72) -/

/-- The POWER_PROFILE handed over: while BRIDGING, published values that change are published at once
(R71, R72). -/
def State.takePowerProfile (s : State) (new : PowerProfile) (order : Nat) : State :=
  let old := s.power.profile
  let s := s.withPower { s.power with profile := new }
  if s.power.state = .bridging ∧
      (old.ceiling ≠ new.ceiling ∨ old.attenuation ≠ new.attenuation ∨ old.dim ≠ new.dim) then
    s.publishPower false order
  else s

/-! ### Meanings -/

/-- OUTAGE_TICK: the outage counter rises, and in BRIDGING the bridge timer falls and may end the bridge
(R70). R = 0 may be the drive's acknowledgement (R41). -/
def execOutageTick (order : Nat) (s : State) : Host.Outcome State Fault Refusal :=
  .next <|
    if s.power.outageTimer.isRunning then
      let p := s.power
      let s := s.withPower { p with
        outageTimer := s.startTimer outageInterval
        outage := min (p.outage + 1) 65535
        bridge := if p.state = .bridging then p.bridge - 1 else p.bridge }
      if p.state = .bridging ∧ s.power.bridge = 0 then (s.enterSpent .bridgeTime order).settleQuiesce else s
    else s

/-- POWER_READINGS_TIMER: the timer restarts and the group is written (R75). -/
def execPowerReadingsTimer (s : State) : Host.Outcome State Fault Refusal :=
  .next <|
    if s.power.readingsTimer.isRunning then
      (s.withPower { s.power with readingsTimer := s.startTimer readingsInterval }).writePowerReadings
    else s

end Sys2Proof.Machine
end

