-- ==== Sys2Proof/Machine/Sequencer.lean ====
section
/-! DEFINITION. The measurement sequencer (chapter 3): passes, EMF requests, the processing of a conversion, the
limit alarms and the hand-off of their contributions, and the meanings of its own commands. -/

namespace Sys2Proof.Machine

def AlarmState.code : AlarmState → Nat
  | .clear => 0
  | .counting => 1
  | .asserted => 2

/-! ### Readings (R63) -/

/-- A slot's part of the sequencer group (12.6). -/
def Slot.bytes (x : Slot) : List Byte :=
  le16 x.raw ++ le16 x.value ++ le8 x.counter ++ le8 x.alarm.code ++ le8 x.side.code ++ [flagByte x.substituted]

/-- The sequencer group from offset 1 on (12.6, section 3.1). -/
def Sequencer.groupBytes (q : Sequencer) : List Byte :=
  [BitVec.setWidth 8 q.passCounter] ++ leSigned16 q.offset ++
    le8 (maskOf [q.profile.correction, q.waiting.isSome]) ++ [0#8] ++
    le16 (q.slots[slotHeat].value * 400 / 4096) ++
    leSigned16 ((q.slots[slotBoard].value / 16 : Nat) - 40) ++
    (q.slots.toList.map Slot.bytes).flatten

/-- A writing of the sequencer readings group (R63). -/
def State.writeSequencerReadings (s : State) : State := s.writeGroup sequencerGroup 1 s.sequencer.groupBytes

/-! ### The value of a conversion (R50, R51) -/

/-- The offset after a ZERO conversion: the raw code, or the substitute, minus 2048 (R50). -/
def zeroOffset (p : SlotProfile) (raw : Nat) : Int :=
  (if p.substitute then (p.substituteValue : Int) else (raw : Int)) - 2048

/-- The value of a conversion of slot `k` (R50, R51). -/
def conversionValue (p : MeasureProfile) (offset : Int) (k : SlotIx) (raw : Nat) : Nat :=
  if p.slots[k].substitute then p.slots[k].substituteValue
  else if k = slotZero then raw
  else if p.correction then (clampInt ((raw : Int) - offset) 0 4095).toNat
  else raw

/-! ### Limit alarms (R54 to R57) -/

/-- Whether a value is inside the limits (R54). -/
def SlotProfile.inside (p : SlotProfile) (v : Nat) : Bool := decide (p.low ≤ v) && decide (v ≤ p.high)

/-- The side an outside value lies on (R54). -/
def SlotProfile.sideOf (p : SlotProfile) (v : Nat) : Side := if v < p.low then .low else .high

/-- Whether an asserted alarm clears at an inside value: it lies in the hysteresis band, or the band is empty
(R56). -/
def SlotProfile.clears (p : SlotProfile) (v : Nat) : Bool :=
  let bottom : Int := (p.low : Int) + p.hysteresis
  let top : Int := (p.high : Int) - p.hysteresis
  decide (top < bottom) || (decide (bottom ≤ v) && decide ((v : Int) ≤ top))

/-- A slot after an outside value (R55). -/
def Slot.takeOutside (x : Slot) (p : SlotProfile) (v : Nat) : Slot :=
  let n := min (x.counter + 1) 16
  match x.alarm with
  | .clear | .counting =>
    { x with counter := n, side := p.sideOf v, alarm := if p.faultCount + 1 ≤ n then .asserted else .counting }
  | .asserted => { x with counter := n, side := p.sideOf v }

/-- A slot after an inside value (R56). -/
def Slot.takeInside (x : Slot) (p : SlotProfile) (v : Nat) : Slot :=
  match x.alarm with
  | .clear | .counting => { x with counter := 0, alarm := .clear, side := .none }
  | .asserted =>
    if p.clears v then { x with counter := 0, alarm := .clear, side := .none } else { x with counter := 0 }

/-- A slot's alarm evaluated with a value (R55, R56). -/
def Slot.evaluate (x : Slot) (p : SlotProfile) (v : Nat) : Slot :=
  if p.inside v then x.takeInside p v else x.takeOutside p v

/-- The event of an alarm's change from `x` to `y` on value `v`, with attention ALARM (R57). -/
def State.alarmEvent (s : State) (k : SlotIx) (x y : Slot) (v : Nat) : State :=
  let subject := BitVec.ofNat 8 k.val
  if y.alarm = .asserted ∧ (x.alarm ≠ .asserted ∨ x.side ≠ y.side) then
    (s.event .alarmAssert subject (BitVec.ofNat 16 y.side.code)).raise .alarm
  else if x.alarm = .asserted ∧ y.alarm ≠ .asserted then
    (s.event .alarmClear subject (BitVec.ofNat 16 v)).raise .alarm
  else s

/-- Whether a change from `x` to `y` alters what the slot contributes, so that it is handed on (R58). -/
def contributionMoved (x y : Slot) : Bool :=
  (x.alarm == .asserted || y.alarm == .asserted) && (x.alarm != y.alarm || x.side != y.side)

/-! ### The hand-off of contributions (R58) -/

/-- The smoke action a slot's alarm contributes (R58). -/
def Sequencer.smokeAction (q : Sequencer) (k : SlotIx) : SmokeAction :=
  if q.slots[k].alarm = .asserted then
    match q.slots[k].side with
    | .low => q.profile.slots[k].smokeLow
    | .high => q.profile.slots[k].smokeHigh
    | .none => .none
  else .none

/-- The smoke unit takes the contributions (R92, R96). -/
def State.smokeAlarms (s : State) : State :=
  s.smokeContributions (vecTab 12 fun k => s.sequencer.smokeAction k == .hold)
    (vecTab 12 fun k => s.sequencer.smokeAction k == .dry)

/-- The contributions handed to the drive, the smoke unit and the power supervisor, in the order `order` names;
its remaining digits name the order of a power publication (R58, R71; log entry 4). -/
def State.handContributions (s : State) (order : Nat) : State :=
  (arrange
    [State.recomputeProtection, State.smokeAlarms, fun s : State => s.powerContributions (order / 6)]
    order).foldl (fun s receiver => receiver s) s

/-! ### Passes (R47, R48, R60, R61) -/

/-- Whether a slot is enabled in the profile in force. -/
def Sequencer.enabled (q : Sequencer) (k : SlotIx) : Bool := q.profile.slots[k].enabled

/-- The set of slots a pass converts, fixed at its start (R48). -/
def Sequencer.passSet (q : Sequencer) : List SlotIx :=
  (List.finRange 12).filter fun k =>
    !gated k && q.enabled k && q.passCounter.toNat % q.profile.slots[k].divisor == 0

/-- A slot under a new profile: disabled ones are cleared silently, others keep their alarm (R61). -/
def Slot.underProfile (x : Slot) (p : SlotProfile) : Slot :=
  if p.enabled then x else { x with counter := 0, alarm := .clear, side := .none }

/-- The pending profile takes effect, and the contributions it changes are handed on (R60, R61). -/
def State.takeWaitingProfile (s : State) (order : Nat) : State :=
  match s.sequencer.waiting with
  | none => s
  | some p =>
    (s.withSequencer { s.sequencer with
      profile := p
      waiting := none
      slots := vecTab 12 fun k => s.sequencer.slots[k].underProfile p.slots[k] }).handContributions order

/-- The end of a pass (R48). -/
def State.endPass (s : State) (order : Nat) : State :=
  let s := s.takeWaitingProfile order
  let q := s.sequencer
  (s.withSequencer { q with pass := none, passCounter := q.passCounter + 1#8 }).writeSequencerReadings

/-! ### Beginning a conversion (R48, R52, R53) -/

/-- The first slot to convert for the requests, the window it answers, and the requests left; disabled slots are
skipped, and a request whose slots are done leaves the list (R52, R53). -/
def nextRequested (enabled : SlotIx → Bool) : List EmfRequest → Option (SlotIx × Nat × List EmfRequest)
  | [] => none
  | r :: rs =>
    match r.slots.dropWhile fun k => !enabled k with
    | [] => nextRequested enabled rs
    | k :: ks => some (k, r.window, ⟨r.window, ks⟩ :: rs)

/-- The next conversion due begins, unless one is in flight: a request is served ahead of the pass (R49, R52). -/
def Sequencer.begin (q : Sequencer) : Sequencer :=
  if q.inFlight.isSome then q
  else match nextRequested q.enabled q.requests with
    | some (k, w, rs) => { q with requests := rs, inFlight := some ⟨k, some w⟩ }
    | none =>
      match q.pass with
      | some (k :: ks) => { q with requests := [], pass := some ks, inFlight := some ⟨k, none⟩ }
      | some [] | none => { q with requests := [] }

/-- The next conversion due begins. -/
def State.beginConversion (s : State) : State := s.withSequencer s.sequencer.begin

/-- A pass starts: its set is fixed, and an empty one ends at once (R48). -/
def State.startPass (s : State) (order : Nat) : State :=
  let set := s.sequencer.passSet
  let s := s.withSequencer { s.sequencer with pass := some set, passDeferred := false }
  (if set.isEmpty then s.endPass order else s).beginConversion

/-- The pass ends if none of its slots is left and no conversion is in flight. -/
def State.endPassIfDone (s : State) (order : Nat) : State :=
  if s.sequencer.pass = some [] ∧ s.sequencer.inFlight = none then s.endPass order else s

/-- Whether neither a pass nor a request is in progress. -/
def Sequencer.idle (q : Sequencer) : Bool :=
  q.pass.isNone && q.requests.isEmpty && q.inFlight.isNone

/-- The conversion in flight abandoned by the quiesce deadline, its code discarded: the pass goes on with its
next slot, or ends if it was the last (R167). A pass that ends here ends before a waiting EMF request is served (log
entry 57). -/
def State.abandonConversion (s : State) (order : Nat) : State :=
  ((s.withSequencer { s.sequencer with inFlight := none }).endPassIfDone order).beginConversion

/-! ### A conversion completes (R49) -/

/-- The value delivered to the neighbour that takes it (R49 step 5). -/
def State.deliver (s : State) (c : Conversion) (value : Nat) : State :=
  if c.slot = slotHeat then s.heatValue value
  else if c.slot = slotStore then s.storeValue value
  else match c.request with
    | some w => s.deliverEmf (if c.slot = slotEmfA then .a else .b) w value
    | none => s

/-- The offset after a conversion (R50). -/
def Sequencer.offsetAfter (q : Sequencer) (k : SlotIx) (raw : Nat) : Int :=
  if k = slotZero then zeroOffset q.profile.slots[k] raw else q.offset

/-- A conversion's raw code processed in R49's order. -/
def State.processConversion (s : State) (c : Conversion) (raw order : Nat) : State :=
  let q := s.sequencer
  let k := c.slot
  let p := q.profile.slots[k]
  let offset := q.offsetAfter k raw
  let value := conversionValue q.profile offset k raw
  let x := { q.slots[k] with raw := raw, value := value, substituted := p.substitute }
  let y := x.evaluate p value
  let s := s.withSequencer { q with offset := offset, slots := q.slots.set k y }
  let s := s.alarmEvent k x y value
  let s := if contributionMoved x y then s.handContributions order else s
  s.deliver c value

/-- In QUIESCING the sequencer acknowledges as its conversion in flight completes (R62). -/
def State.ackSequencer (s : State) : State :=
  if s.part = .quiescing then (s.withAcks { s.acks with sequencer := true }).settleQuiesce else s

/-! ### Meanings -/

/-- SCAN_TIMER_EXPIRY: the timer restarts, and a pass starts, or is deferred while a pass or a request is in
progress (R47, R52). DESIGN CHOICE (log entry 56): the timer starts first, so that where an empty pass takes a pending
profile at this same moment, it starts with the old scan period. -/
def execScanTimerExpiry (order : Nat) (s : State) : Host.Outcome State Fault Refusal :=
  .next <|
    if s.sequencer.scanTimer.isRunning then
      let s := s.withSequencer { s.sequencer with
        scanTimer := s.startTimer (millis s.sequencer.profile.scanPeriod) }
      if s.sequencer.idle then (s.startPass order).settleQuiesce
      else s.withSequencer { s.sequencer with passDeferred := true }
    else s

/-- DEFERRED_PASS_START: a deferred pass starts when the pass or request before it has ended (R47, R52). DESIGN CHOICE
(log entry 47): where a request waits as well at the end of the old pass, the request is served first and the pass
starts after it. -/
def execDeferredPassStart (order : Nat) (s : State) : Host.Outcome State Fault Refusal :=
  .next <|
    if s.sequencer.passDeferred ∧ s.sequencer.idle then (s.startPass order).settleQuiesce else s

/-- EMF_REQUEST_SERVE: with no conversion in flight, the request at the head of the list is served (R52). -/
def execEmfRequestServe (s : State) : Host.Outcome State Fault Refusal :=
  .next <|
    if s.sequencer.requests.isEmpty then s else s.beginConversion

/-- ADC_CONVERSION_COMPLETE: the conversion in flight is processed, its pass may end, and the next conversion
due begins (R48, R49, R62). The hand-offs of the conversion take the low digits of `order`, those of the pass
end the high ones. DESIGN CHOICE (log entry 57): the pass ends, and a pending profile takes effect, before a waiting EMF
request is served, so that a slot which the new profile disables is skipped. DESIGN CHOICE (log entry 59): in QUIESCING
the pass ends, with its pending profile and the hand-offs, before the sequencer acknowledges; where that acknowledgement
is the last, R48 and R167 set the pass end and the end of the quiesce at one moment and no rule orders the two. -/
def execAdcConversionComplete (raw : BitVec 12) (order : Nat) (s : State) : Host.Outcome State Fault Refusal :=
  .next <|
    match s.sequencer.inFlight with
    | none => s
    | some c =>
      let s := s.withSequencer { s.sequencer with inFlight := none }
      let s := s.processConversion c raw.toNat (order % handOffOrders)
      let s := s.endPassIfDone (order / handOffOrders)
      s.ackSequencer.beginConversion

end Sys2Proof.Machine
end

