-- ==== Sys2Proof/Machine/Validate.lean ====
section
/-! DEFINITION. The validation of the fifteen sections (R164, R177): each body is read field by field, in the order
of 12.4's tables, into a working copy and one finding for each numbered field. A body's first byte is the
section's offset 4. -/

namespace Sys2Proof.Machine

/-! ### Findings and verdicts (R164) -/

/-- What the validation of one field finds. -/
inductive Finding
  | fine
  | clamped
  | unknownCode
  | badPartner
  deriving DecidableEq, Repr

/-- The verdict byte (12.4). -/
def Verdict.code : Verdict → Nat
  | .accepted => 1
  | .clamped _ => 2
  | .refused _ => 3

/-- The reason byte (R164). -/
def Verdict.reason : Verdict → Nat
  | .accepted => 0
  | .clamped n => n
  | .refused c => c

/-- The code of the first refusal in body order, if there is one: 1 unknown code, 2 bad partner. -/
def firstRefusal : List Finding → Option Nat
  | [] => none
  | .unknownCode :: _ => some 1
  | .badPartner :: _ => some 2
  | .fine :: fs | .clamped :: fs => firstRefusal fs

/-- The verdict of a section's findings, one for each field from field 1 on (R164). -/
def verdictOf (fs : List Finding) : Verdict :=
  match firstRefusal fs with
  | some c => .refused c
  | none =>
    match fs.findIdx? (· == .clamped) with
    | some i => .clamped (i + 1)
    | none => .accepted

/-! ### Fields -/

/-- A numeric field: beyond its range it is replaced by the nearer end (R164, R177). -/
def numField (v lo hi : Nat) : Nat × Finding :=
  (clampNat v lo hi, if lo ≤ v ∧ v ≤ hi then .fine else .clamped)

/-- A signed numeric field. -/
def intField (v lo hi : Int) : Int × Finding :=
  (clampInt v lo hi, if lo ≤ v ∧ v ≤ hi then .fine else .clamped)

/-- An enumeration field: a code the section does not name refuses the section, and the value is then not
used. -/
def codeField {α : Type} (unused : α) (c : Option α) : α × Finding :=
  match c with
  | some x => (x, .fine)
  | none => (unused, .unknownCode)

/-- A switch byte, 0 or 1. -/
def switchField (v : Nat) : Bool × Finding := codeField false (switchOfCode v)

/-! ### The sections -/

/-- Section 0, DRIVE_PROFILE (R21). -/
def readDriveProfile (b : List Byte) : DriveProfile × List Finding :=
  let sa := numField (u8At b 0) 1 255
  let sd := numField (u8At b 1) 1 255
  let ta := numField (u8At b 2) 1 255
  let td := numField (u8At b 3) 1 255
  let mode := codeField .off (Momentum.ofCode (u8At b 4))
  let offsetA := intField (s8At b 6) (-64) 63
  let enableA := switchField (u8At b 7)
  let offsetB := intField (s8At b 9) (-64) 63
  let enableB := switchField (u8At b 10)
  let kp := numField (u8At b 11) 0 63
  let ki := numField (u8At b 12) 0 63
  let limit := numField (u16At b 13) 0 1023
  let settle := numField (u8At b 17) 10 255
  let delay := numField (u8At b 18) 10 255
  let retries := numField (u8At b 19) 0 7
  let forgive := numField (u8At b 20) 10 255
  let brake := switchField (u8At b 21)
  ({ accelStep := sa.1, decelStep := sd.1, accelInterval := ta.1, decelInterval := td.1, momentum := mode.1,
     trim := ⟨⟨u8At b 5, offsetA.1, enableA.1⟩, ⟨u8At b 8, offsetB.1, enableB.1⟩⟩,
     kp := kp.1, ki := ki.1, integralLimit := limit.1, emfScale := u8At b 15, emfPeriod := u8At b 16,
     settle := settle.1, retryDelay := delay.1, retryLimit := retries.1, forgive := forgive.1,
     holdBrake := brake.1 },
   [sa.2, sd.2, ta.2, td.2, mode.2, .fine, offsetA.2, enableA.2, .fine, offsetB.2, enableB.2, kp.2, ki.2,
     limit.2, .fine, .fine, settle.2, delay.2, retries.2, forgive.2, brake.2])

/-- Section 1, SPEED_TABLE (R1). -/
def readSpeedTable (b : List Byte) : SpeedTable × List Finding :=
  let point (k : Nat) : Nat × Finding := numField (u16At b (2 * k)) 0 1023
  (vecTab 16 fun k => (point k.val).1, (List.range 16).map fun k => (point k).2)

/-- A slot's record of the MEASURE_PROFILE, 15 bytes. A gated slot's divisor is not read and not checked
(R59, R177). -/
def readSlotProfile (k : SlotIx) (b : List Byte) : SlotProfile × List Finding :=
  let enable := switchField (u8At b 0)
  let divisor := if gated k then (1, Finding.fine) else numField (u8At b 1) 1 16
  let low := numField (u16At b 2) 0 4095
  let high := numField (u16At b 4) 0 4095
  let count := numField (u8At b 6) 0 15
  let hysteresis := numField (u8At b 7) 0 127
  let driveLow := codeField .none (Level.ofCode (u8At b 8))
  let driveHigh := codeField .none (Level.ofCode (u8At b 9))
  let smokeLow := codeField .none (SmokeAction.ofCode (u8At b 10))
  let smokeHigh := codeField .none (SmokeAction.ofCode (u8At b 11))
  let substitute := switchField (u8At b 12)
  let value := numField (u16At b 13) 0 4095
  ({ enabled := enable.1, divisor := divisor.1, low := low.1, high := high.1, faultCount := count.1,
     hysteresis := hysteresis.1, driveLow := driveLow.1, driveHigh := driveHigh.1,
     smokeLow := smokeLow.1, smokeHigh := smokeHigh.1, substitute := substitute.1,
     substituteValue := value.1 },
   [enable.2, divisor.2, low.2, high.2, count.2, hysteresis.2, driveLow.2, driveHigh.2, smokeLow.2,
     smokeHigh.2, substitute.2, value.2])

/-- Section 2, MEASURE_PROFILE (R59). -/
def readMeasureProfile (b : List Byte) : MeasureProfile × List Finding :=
  let period := numField (u8At b 0) 2 255
  let correction := switchField (u8At b 1)
  let slot (k : SlotIx) : SlotProfile × List Finding := readSlotProfile k (b.drop (2 + 15 * k.val))
  (⟨period.1, correction.1, vecTab 12 fun k => (slot k).1⟩,
   period.2 :: correction.2 :: ((List.finRange 12).map fun k => (slot k).2).flatten)

/-- Section 3, POWER_PROFILE (R72). -/
def readPowerProfile (b : List Byte) : PowerProfile × List Finding :=
  let ceiling := numField (u16At b 1) 0 1023
  let attenuation := numField (u16At b 3) 0 256
  let dim := numField (u16At b 5) 0 256
  let full := numField (u16At b 7) 0 4095
  (⟨u8At b 0, ceiling.1, attenuation.1, dim.1, full.1⟩,
   [.fine, ceiling.2, attenuation.2, dim.2, full.2])

/-- Section 4, CADENCE_PROFILE (R78). -/
def readCadenceProfile (b : List Byte) : CadenceProfile × List Finding :=
  let mode := codeField .auto (SourceMode.ofCode (u8At b 0))
  let debounce := numField (u8At b 1) 1 50
  let pulses := numField (u8At b 2) 1 8
  let constant := numField (u16At b 3) 1 65535
  (⟨mode.1, debounce.1, pulses.1, constant.1⟩, [mode.2, debounce.2, pulses.2, constant.2])

/-- Section 5, SMOKE_PROFILE (R89). -/
def readSmokeProfile (b : List Byte) : SmokeProfile × List Finding :=
  let setpoint := numField (u16At b 0) 100 300
  let gain := numField (u8At b 2) 1 64
  let delay := numField (u8At b 4) 1 255
  let drop := numField (u8At b 5) 0 80
  let length := numField (u8At b 8) 10 250
  ({ setpoint := setpoint.1, gain := gain.1, heaterMax := u8At b 3, idleDelay := delay.1, idleDrop := drop.1,
     fanIdle := u8At b 6, pulseDuty := u8At b 7, pulseLength := length.1, puffInterval := u8At b 9,
     cooldown := u8At b 10, capacity := u16At b 11 },
   [setpoint.2, gain.2, .fine, delay.2, drop.2, .fine, .fine, length.2, .fine, .fine, .fine])

/-- The finding of a lamp's partner: in ALTERNATE it must be another lamp (R104). -/
def partnerFinding (k : Fin 8) (mode : Option LampMode) (partner : Nat) : Finding :=
  if mode = some .alternate ∧ (partner = k.val ∨ 7 < partner) then .badPartner else .fine

/-- A lamp's run: for a ONE_SHOT lamp it is not read and not checked, and an unlisted code stands as it is
(R104, R109, R177; log entry 45). -/
def lampRunField (mode : Option LampMode) (code : Nat) : LampRun × Finding :=
  match LampRun.ofCode code with
  | some r => (r, .fine)
  | none => if mode = some .oneShot then (.unlisted code, .fine) else (.continuous, .unknownCode)

/-- A lamp's record of the LAMP_PROFILE, 8 bytes (R104). -/
def readLampRecord (k : Fin 8) (b : List Byte) : LampRecord × List Finding :=
  let mode := codeField .steady (LampMode.ofCode (u8At b 0))
  let gate := codeField .any (Gate.ofCode (u8At b 2))
  let countA := numField (u8At b 4) 1 255
  let countB := numField (u8At b 5) 1 255
  let run := lampRunField (LampMode.ofCode (u8At b 0)) (u8At b 6)
  (⟨mode.1, u8At b 1, gate.1, u8At b 3, countA.1, countB.1, run.1, u8At b 7⟩,
   [mode.2, .fine, gate.2, .fine, countA.2, countB.2, run.2,
     partnerFinding k (LampMode.ofCode (u8At b 0)) (u8At b 7)])

/-- Section 6, LAMP_PROFILE (R104). -/
def readLampProfile (b : List Byte) : LampProfile × List Finding :=
  let lamp (k : Fin 8) : LampRecord × List Finding := readLampRecord k (b.drop (8 * k.val))
  (vecTab 8 fun k => (lamp k).1, ((List.finRange 8).map fun k => (lamp k).2).flatten)

/-- Section 7, SOUND_PROFILE: the chuff load (R116). -/
def readSoundProfile (b : List Byte) : Bool × List Finding :=
  let load := switchField (u8At b 0)
  (load.1, [load.2])

/-- A routing field. -/
def routingField (v : Nat) : Routing × Finding := codeField .ignore (Routing.ofCode v)

/-- The routing of HALT: IGNORE is clamped to APPLY and FORWARD to BOTH (R145). -/
def haltRoutingField (v : Nat) : Routing × Finding :=
  match routingField v with
  | (.ignore, .fine) => (.apply, .clamped)
  | (.forward, .fine) => (.both, .clamped)
  | field => field

/-- The routing of USER: APPLY and BOTH are clamped to FORWARD (R145). -/
def userRoutingField (v : Nat) : Routing × Finding :=
  match routingField v with
  | (.apply, .fine) => (.forward, .clamped)
  | (.both, .fine) => (.forward, .clamped)
  | field => field

/-- Section 8, RADIO_PROFILE (R145). -/
def readRadioProfile (b : List Byte) : RadioProfile × List Finding :=
  let primary := numField (u16At b 0) 1 9999
  let consist := numField (u16At b 2) 0 9999
  let reversed := switchField (u8At b 4)
  let speed := routingField (u8At b 5)
  let halt := haltRoutingField (u8At b 6)
  let function := routingField (u8At b 7)
  let group := routingField (u8At b 8)
  let cue := routingField (u8At b 9)
  let volume := routingField (u8At b 10)
  let user := userRoutingField (u8At b 11)
  let action := codeField .none (Level.ofSilenceCode (u8At b 13))
  let clear := switchField (u8At b 14)
  ({ primary := primary.1, consist := consist.1, consistReversed := reversed.1, speed := speed.1,
     halt := halt.1, function := function.1, functionGroup := group.1, cue := cue.1, volume := volume.1,
     user := user.1, silenceTimeout := u8At b 12, silenceAction := action.1, clearTarget := clear.1 },
   [primary.2, consist.2, reversed.2, speed.2, halt.2, function.2, group.2, cue.2, volume.2, user.2, .fine,
     action.2, clear.2])

/-- An entry of the FUNCTION_MAP, 3 bytes (R153). -/
def readFunctionEntry (b : List Byte) : FunctionEntry × List Finding :=
  let smoke := switchField (u8At b 1)
  let cue := numField (u8At b 2) 0 63
  (⟨b.getD 0 0#8, smoke.1, cue.1⟩, [.fine, smoke.2, cue.2])

/-- Section 9, FUNCTION_MAP (R153). -/
def readFunctionMap (b : List Byte) : FunctionMap × List Finding :=
  let entry (n : Nat) : FunctionEntry × List Finding := readFunctionEntry (b.drop (3 * n))
  (vecTab 32 fun n => (entry n.val).1, ((List.range 32).map fun n => (entry n).2).flatten)

/-- Section 10, the DRIVE directive: the demand's range follows the mode (R4). -/
def readDriveDirective (b : List Byte) : DriveDirective × List Finding :=
  let mode := codeField .direct (DemandMode.ofCode (u8At b 0))
  let demand := numField (u16At b 1) 0 (match mode.1 with
    | .direct => 1023
    | .step => 120)
  let direction := codeField .fwd (Direction.ofCode (u8At b 3))
  let allowed := switchField (u8At b 4)
  (⟨mode.1, demand.1, direction.1, allowed.1⟩, [mode.2, demand.2, direction.2, allowed.2])

/-- Section 11, the SMOKE directive (R90). -/
def readSmokeDirective (b : List Byte) : SmokeDirective × List Finding :=
  let enable := codeField .off (SmokeEnable.ofCode (u8At b 0))
  let fill := switchField (u8At b 1)
  (⟨enable.1, fill.1⟩, [enable.2, fill.2])

/-- Section 12, the LAMP directive (R105). -/
def readLampDirective (b : List Byte) : LampDirective × List Finding :=
  let code (k : Nat) : Activity × Finding := codeField .follow (Activity.ofCode (u8At b k))
  (vecTab 8 fun k => (code k.val).1, (List.range 8).map fun k => (code k).2)

/-- Section 13, the SOUND directive (R116). -/
def readSoundDirective (b : List Byte) : SoundDirective × List Finding :=
  let mount := switchField (u8At b 0)
  (⟨mount.1, u8At b 1⟩, [mount.2, .fine])

/-- Section 14, the FUNCTION directive: always ACCEPTED (R153). -/
def readFunctionDirective (b : List Byte) : FunctionDirective × List Finding :=
  (⟨BitVec.ofNat 32 (u32At b 0), BitVec.ofNat 32 (u32At b 4)⟩, [.fine, .fine])

end Sys2Proof.Machine
end

