-- ==== Sys2Proof/Machine/Adoption.lean ====
section
/-! DEFINITION. The adoption unit (section 10.3): the nudge list, sweeps and visits, the judgement of a completed
copy, the hand-over to the owners, and the meanings of its commands. -/

namespace Sys2Proof.Machine

/-! ### Nudges, sweeps and visits (R161 to R163) -/

/-- A section is due (R161). -/
def State.isDue (s : State) (k : Fin 15) : Bool :=
  s.revision k != 0#8 && (s.revision k != s.adoptedByte k || !s.adoption.adopted[k])

/-- A value written to NUDGE: an index 0 to 14 joins the back of the list, unless it is there or the list holds
four (R162). -/
def State.offerNudge (s : State) (v : Byte) : State :=
  if h : v.toNat < 15 then
    let k : Fin 15 := ⟨v.toNat, h⟩
    if s.adoption.nudges.contains k ∨ 4 ≤ s.adoption.nudges.length then s
    else s.withAdoption { s.adoption with nudges := s.adoption.nudges ++ [k] }
  else s

/-- The sweep begun now, with its timer started (R162). -/
def State.startSweeping (s : State) : State :=
  s.withAdoption { s.adoption with
    sweep := some 0, sweepDeferred := false, sweepTimer := s.startTimer sweepInterval }

/-- The visit over, and with it a sweep whose last section it was (R162). -/
def Adoption.visitOver (u : Adoption) : Adoption :=
  { u with visit := none, sweep := if u.sweep = some 15 then none else u.sweep }

/-- A visit to section `k`: one not due ends at once; to a due one, step 1 reads the revision and clears the
mark (R163). -/
def State.beginVisit (s : State) (k : Fin 15) : State :=
  if s.isDue k then
    s.withAdoption { s.adoption with
      marks := s.adoption.marks.set k false, visit := some ⟨k, s.revision k, [], none⟩ }
  else s.withAdoption s.adoption.visitOver

/-- The visit the unit begins when it is free in RUN: the front of the nudge list, else the next section of the
sweep (R162). -/
def State.nextVisit (s : State) : State :=
  match s.adoption.nudges with
  | k :: ks => (s.withAdoption { s.adoption with nudges := ks }).beginVisit k
  | [] =>
    match s.adoption.sweep with
    | some n =>
      if h : n < 15 then (s.withAdoption { s.adoption with sweep := some (n + 1) }).beginVisit ⟨n, h⟩ else s
    | none => s

/-! ### A completed copy (R163, R164) -/

/-- The body the copy holds at the end of step 2: what was copied before, and the rest as it stands. -/
def State.copiedBody (s : State) (v : Visit) : List Byte :=
  v.copied ++ (s.sectionBody v.section_).drop v.copied.length

/-- Step 2 goes on by `n` bytes before a host write to the section's body is taken (R163; log entry 7). -/
def State.advanceCopy (s : State) (v : Visit) (n : Nat) : State :=
  s.withAdoption { s.adoption with
    visit := some { v with copied := (s.copiedBody v).take (v.copied.length + n) } }

/-- Whether the copy is torn: the second revision read differs, or the mark is set (R163). -/
def State.isTorn (s : State) (v : Visit) : Bool :=
  s.revision v.section_ != v.revision || s.adoption.marks[v.section_]

/-- The end of a visit: in QUIESCING the unit acknowledges (R162). -/
def State.endVisit (s : State) : State := (s.withAdoption s.adoption.visitOver).settleQuiesce

/-- The verdict and the reason written, the adopted byte still to come (R164 step 2). -/
def State.writeVerdict (s : State) (v : Visit) (d : Verdict) : State :=
  (s.writeStore (sectionBase v.section_ + 2) [BitVec.ofNat 8 d.code, BitVec.ofNat 8 d.reason]).withAdoption
    { s.adoption with visit := some { v with verdict := some d } }

/-- The adopted byte written with the revision read first, the adopted-since-reset flag set, VERDICT raised for CLAMPED
and REFUSED, and the visit over (R164 steps 3 and 4). -/
def State.writeAdopted (s : State) (v : Visit) (d : Verdict) : State :=
  let s := (s.writeStore (sectionBase v.section_ + 1) [v.revision]).withAdoption
    { s.adoption with adopted := s.adoption.adopted.set v.section_ true }
  (if d = .accepted then s else s.raise .verdict).endVisit

/-- The hand-over of a validated copy: a REFUSED one hands over nothing (R164 step 1). -/
def State.handOver {α : Type} (s : State) (d : Verdict) (value : α) (take : State → α → State) : State :=
  match d with
  | .refused _ => s
  | .accepted | .clamped _ => take s value

/-- The section whose visit a command ends. -/
def endedSection : Instr → Option (Fin 15)
  | .adoptDriveProfile => some 0
  | .adoptSpeedTable => some 1
  | .adoptMeasureProfile => some 2
  | .adoptPowerProfile _ => some 3
  | .adoptCadenceProfile => some 4
  | .adoptSmokeProfile => some 5
  | .adoptLampProfile => some 6
  | .adoptSoundProfile => some 7
  | .adoptRadioProfile => some 8
  | .adoptFunctionMap => some 9
  | .adoptDriveDirective => some 10
  | .adoptSmokeDirective => some 11
  | .adoptLampDirective => some 12
  | .adoptSoundDirective => some 13
  | .adoptFunctionDirective => some 14
  | _ => none

/-- Whether the section's row waits next in the queue once more: the visit then stops between its verdict and its
adopted byte, and that row goes on from there (R164; log entry 54). -/
def State.pausesVisit (s : State) (k : Fin 15) : Bool := s.pending.head?.bind endedSection == some k

/-- The end of the visit in progress, if it is to section `k`: a torn copy is discarded; another is validated,
handed over, and answered (R163, R164). DESIGN CHOICE (log entry 54): the row does all of this at once, but where the
sender has queued it twice in a row the first taking ends with the verdict and the second begins with the adopted byte,
so that a host read between them finds the new verdict beside the old adopted byte. -/
def State.finishVisit {α : Type} (s : State) (k : Fin 15) (read : List Byte → α × List Finding)
    (take : State → α → State) : State :=
  match s.adoption.visit with
  | none => s
  | some v =>
    if v.section_ = k then
      match v.verdict with
      | some d => s.writeAdopted v d
      | none =>
        if s.isTorn v then s.endVisit
        else
          let r := read (s.copiedBody v)
          let s := (s.handOver (verdictOf r.2) r.1 take).writeVerdict v (verdictOf r.2)
          if s.pausesVisit k then s.settleQuiesce else s.writeAdopted v (verdictOf r.2)
    else s

/-! ### Hand-overs of this file -/

/-- The MEASURE_PROFILE handed over: it becomes the pending profile (R60). -/
def State.takeMeasureProfile (s : State) (p : MeasureProfile) : State :=
  s.withSequencer { s.sequencer with waiting := some p }

/-- The SOUND_PROFILE handed over: the chuff load of the next chuff gain (R116). -/
def State.takeSoundProfile (s : State) (load : Bool) : State := s.withSound { s.sound with chuffLoad := load }

/-- The SOUND directive handed over: first the mount field acts on the bank, then M is written (R116). -/
def State.takeSoundDirective (s : State) (d : SoundDirective) : State :=
  let s := (s.withSound { s.sound with directive := d }).applyMount d.mount
  s.withSound { s.sound with volume := d.volume }

/-! ### Meanings -/

/-- SWEEP_TIMER_EXPIRY: the timer restarts, and a sweep starts or is deferred (R162). -/
def execSweepTimerExpiry (s : State) : Host.Outcome State Fault Refusal :=
  .next <|
    if s.adoption.sweepTimer.isRunning then
      let u := { s.adoption with sweepTimer := s.startTimer sweepInterval }
      if u.sweep.isSome then s.withAdoption { u with sweepDeferred := true }
      else s.withAdoption { u with sweep := some 0 }
    else s

/-- DEFERRED_SWEEP_START: a deferred sweep starts once the old one has ended (R162). -/
def execDeferredSweepStart (s : State) : Host.Outcome State Fault Refusal :=
  .next <|
    if s.adoption.sweepDeferred ∧ s.adoption.sweep = none then
      s.withAdoption { s.adoption with sweep := some 0, sweepDeferred := false }
    else s

/-- VISIT_BEGIN: the unit, free in RUN, begins its next visit (R162, R163). -/
def execVisitBegin (s : State) : Host.Outcome State Fault Refusal :=
  .next <| if s.part = .run ∧ s.adoption.visit = none then s.nextVisit else s

/-- ADOPT_DRIVE_PROFILE (R13, R17, R21, R164). -/
def execAdoptDriveProfile (s : State) : Host.Outcome State Fault Refusal :=
  .next <| s.finishVisit 0 readDriveProfile State.takeDriveProfile

/-- ADOPT_SPEED_TABLE (R1, R164). -/
def execAdoptSpeedTable (s : State) : Host.Outcome State Fault Refusal :=
  .next <| s.finishVisit 1 readSpeedTable State.takeSpeedTable

/-- ADOPT_MEASURE_PROFILE (R60, R164). -/
def execAdoptMeasureProfile (s : State) : Host.Outcome State Fault Refusal :=
  .next <| s.finishVisit 2 readMeasureProfile State.takeMeasureProfile

/-- ADOPT_POWER_PROFILE (R72, R164). -/
def execAdoptPowerProfile (order : Nat) (s : State) : Host.Outcome State Fault Refusal :=
  .next <| s.finishVisit 3 readPowerProfile fun s p => s.takePowerProfile p order

/-- ADOPT_CADENCE_PROFILE (R78, R164). -/
def execAdoptCadenceProfile (s : State) : Host.Outcome State Fault Refusal :=
  .next <| s.finishVisit 4 readCadenceProfile State.takeCadenceProfile

/-- ADOPT_SMOKE_PROFILE (R89, R100, R164). -/
def execAdoptSmokeProfile (s : State) : Host.Outcome State Fault Refusal :=
  .next <| s.finishVisit 5 readSmokeProfile State.takeSmokeProfile

/-- ADOPT_LAMP_PROFILE (R104, R164). -/
def execAdoptLampProfile (s : State) : Host.Outcome State Fault Refusal :=
  .next <| s.finishVisit 6 readLampProfile State.takeLampProfile

/-- ADOPT_SOUND_PROFILE (R116, R164). -/
def execAdoptSoundProfile (s : State) : Host.Outcome State Fault Refusal :=
  .next <| s.finishVisit 7 readSoundProfile State.takeSoundProfile

/-- ADOPT_RADIO_PROFILE (R145, R151, R164). -/
def execAdoptRadioProfile (s : State) : Host.Outcome State Fault Refusal :=
  .next <| s.finishVisit 8 readRadioProfile State.takeRadioProfile

/-- ADOPT_FUNCTION_MAP (R153, R164). -/
def execAdoptFunctionMap (s : State) : Host.Outcome State Fault Refusal :=
  .next <| s.finishVisit 9 readFunctionMap State.takeFunctionMap

/-- ADOPT_DRIVE_DIRECTIVE (R4, R164). -/
def execAdoptDriveDirective (s : State) : Host.Outcome State Fault Refusal :=
  .next <| s.finishVisit 10 readDriveDirective State.takeDriveDirective

/-- ADOPT_SMOKE_DIRECTIVE (R90, R164). -/
def execAdoptSmokeDirective (s : State) : Host.Outcome State Fault Refusal :=
  .next <| s.finishVisit 11 readSmokeDirective State.takeSmokeDirective

/-- ADOPT_LAMP_DIRECTIVE (R105, R164). -/
def execAdoptLampDirective (s : State) : Host.Outcome State Fault Refusal :=
  .next <| s.finishVisit 12 readLampDirective State.takeLampDirective

/-- ADOPT_SOUND_DIRECTIVE (R116, R118, R164). -/
def execAdoptSoundDirective (s : State) : Host.Outcome State Fault Refusal :=
  .next <| s.finishVisit 13 readSoundDirective State.takeSoundDirective

/-- ADOPT_FUNCTION_DIRECTIVE (R153, R164). -/
def execAdoptFunctionDirective (s : State) : Host.Outcome State Fault Refusal :=
  .next <| s.finishVisit 14 readFunctionDirective State.takeFunctionDirective

end Sys2Proof.Machine
end

