-- ==== Sys2Proof/Machine/HostPort.lean ====
section
/-! DEFINITION. The host port (section 10.1, R176): transactions, host writes judged by access class, the captures
of UPTIME and ATTN_PENDING, the level of SDO, the scan of the cue slots, and the meanings of the port's commands. -/

namespace Sys2Proof.Machine

/-! ### Host writes (R158, R159, R165) -/

/-- A write to a section's revision byte: a change of its value sets the revision-written mark (R163). -/
def State.writeRevision (s : State) (k : Fin 15) (a : Nat) (v : Byte) : State :=
  let marks := if s.storeAt a = v then s.adoption.marks else s.adoption.marks.set k true
  (s.withAdoption { s.adoption with marks := marks }).writeStore a [v]

/-- A write to a section's body: a copy of that section in progress goes on by a free number of bytes before the
write is taken (R163; log entry 7). A copy whose verdict is written is over. -/
def State.writeBody (s : State) (k : Fin 15) (a : Nat) (v : Byte) : State :=
  let s := match s.adoption.visit with
    | some x =>
      if x.section_ = k ∧ x.verdict = none then
        (s.advanceCopy x (Config.copyAdvance s.draws)).withDraws (s.draws + 1)
      else s
    | none => s
  s.writeStore a [v]

/-- A cue slot after a host write to its state byte (R165). -/
def CueSlot.writeState (c : CueSlot) (v : Byte) : CueSlot :=
  if v = 0#8 then { c with state := .empty }
  else if v = 1#8 ∧ c.state = .empty then { c with state := .posted }
  else c

/-- A cue slot after a host write to its cue, action or gain byte (12.5). -/
def CueSlot.writeField (c : CueSlot) (offset : Nat) (v : Byte) : CueSlot :=
  match offset with
  | 1 => { c with cue := v }
  | 2 => { c with action := v }
  | 3 => { c with gain := v }
  | _ => c

/-- A host write judged and taken by the access class of its address (R158). -/
def State.hostWriteAt (s : State) (a : Nat) (v : Byte) : State :=
  match accessClass a with
  | .attnTake => s.takeAttn v
  | .nudge => s.offerNudge v
  | .command => if v = 0#8 then s else s.withCommand v
  | .attnConfig => (s.writeStore a [v]).evaluateAttn
  | .revision k => s.writeRevision k a v
  | .body k => s.writeBody k a v
  | .cueState n => s.withCueSlots (vecModify s.cueSlots n fun c => c.writeState v)
  | .cueField n offset => s.withCueSlots (vecModify s.cueSlots n fun c => c.writeField offset v)
  | .eventState n => if v = 0#8 then s.freeEventRecord n else s
  | .inboundState n => if v = 0#8 then s.freeInboundRecord n else s
  | .scratch => s.writeStore a [v]
  | .discarded => s

/-- A data byte of a WRITE: one host write at the current address, discarded in STARTING, after which the
address rises by 1, wrapping (R157). -/
def State.writeDataByte (s : State) (v : Byte) : State :=
  if s.port.phase = .writing then
    let a := s.port.address
    let s := if s.part = .starting then s else s.hostWriteAt a.toNat v
    s.withPort { s.port with address := a + 1#13 }
  else s

/-- The access class of the current address. -/
def State.portClass (s : State) : AccessClass := accessClass s.port.address.toNat

/-! ### Host reads (R157, R159) -/

/-- The value a READ finds at an address: the captures serve what follows the byte that made them (R159). -/
def State.servedByte (s : State) (a : BitVec 13) : Byte :=
  match a.toNat, s.port.uptimeCapture, s.port.pendingCapture with
  | 5, some u, _ => u.extractLsb' 8 8
  | 6, some u, _ => u.extractLsb' 16 8
  | 7, some u, _ => u.extractLsb' 24 8
  | 9, _, some p => p.extractLsb' 8 8
  | n, _, _ => s.storeByte n

/-- A READ gone on by `n` data bytes that capture nothing: each is one access, after which the address rises by 1,
wrapping (R157). The table has no row for such a byte: the port's address stands at the first byte that no command
has served yet (log entry 21). -/
def State.readOn (s : State) (n : Nat) : State :=
  s.withPort { s.port with address := s.port.address + BitVec.ofNat 13 n }

/-- What SDO carries (R157, R176). -/
inductive Sdo
  | highImpedance
  | low
  /-- The byte being served by a READ. -/
  | data (value : Byte)
  /-- The level during the data bytes of a WRITE, which the manual does not state (log entry 8). -/
  | unstated (high : Bool)
  deriving DecidableEq, Repr

/-- SDO while chip select is asserted after the instruction and address bytes, and high-impedance otherwise:
`idle` covers both a released chip select and the bytes before the address is complete, during which SDO is
low (R176). In a READ it carries data byte `n` of those that no command has served yet, counted from 0. -/
def State.sdo (s : State) (selected : Bool) (n : Nat) : Sdo :=
  if !selected then .highImpedance
  else match s.port.phase with
    | .idle | .ignoring => .low
    | .reading => .data (s.servedByte (s.readOn n).port.address)
    | .writing => .unstated (Config.sdoInWrite s.draws)

/-- The level of the line at bit `i` of a byte, the most significant first; none while it is high-impedance
(R176). -/
def Sdo.line (d : Sdo) (i : Nat) : Option Bool :=
  match d with
  | .highImpedance => none
  | .low => some false
  | .data v => some (v.getMsbD i)
  | .unstated high => some high

/-! ### Meanings -/

/-- HOST_UNKNOWN_INSTRUCTION: an instruction byte that is neither WRITE nor READ; the rest of the transaction is
ignored (R157, R176). -/
def execHostUnknownInstruction (instruction : Byte) (s : State) : Host.Outcome State Fault Refusal :=
  .next <|
    if s.port.phase = .idle ∧ HostMode.ofByte instruction = none then
      s.withPort { s.port with phase := .ignoring }
    else s

/-- HOST_ADDRESS_COMPLETE: the instruction byte fixes the mode, 0x2C WRITE and 0x2D READ, and the address bytes the
current address; the top three address bits are ignored (R157, R176). -/
def execHostAddressComplete (instruction : Byte) (address : BitVec 16) (s : State) :
    Host.Outcome State Fault Refusal :=
  .next <|
    if s.port.phase = .idle then
      match HostMode.ofByte instruction with
      | some .read => s.withPort ⟨.reading, address.setWidth 13, none, none⟩
      | some .write => s.withPort ⟨.writing, address.setWidth 13, none, none⟩
      | none => s
    else s

/-- CHIP_SELECT_RELEASE: the transaction ends (R157, R176). -/
def execChipSelectRelease (s : State) : Host.Outcome State Fault Refusal :=
  .next <| s.withPort { s.port with phase := .idle, uptimeCapture := none, pendingCapture := none }

/-- HOST_WRITE: a data byte of a WRITE is judged by the access class of its address (R157, R158). -/
def execHostWrite (value : Byte) (s : State) : Host.Outcome State Fault Refusal :=
  .next <| s.writeDataByte value

/-- REVISION_WRITE: a host write to a section's revision byte (R163). -/
def execRevisionWrite (value : Byte) (s : State) : Host.Outcome State Fault Refusal :=
  .next <|
    match s.portClass with
    | .revision _ => s.writeDataByte value
    | _ => s

/-- ATTN_CONFIG_WRITE: a host write to the attention configuration; ATTN is evaluated again (R171). -/
def execAttnConfigWrite (value : Byte) (s : State) : Host.Outcome State Fault Refusal :=
  .next <| if s.portClass = .attnConfig then s.writeDataByte value else s

/-- ATTN_TAKE: a host write of 0 to 11 clears that source's pending flag (R159, R170). -/
def execAttnTake (value : Byte) (s : State) : Host.Outcome State Fault Refusal :=
  .next <| if s.portClass = .attnTake then s.writeDataByte value else s

/-- NUDGE: a host write of a section index is offered to the nudge list (R159, R162). -/
def execNudge (value : Byte) (s : State) : Host.Outcome State Fault Refusal :=
  .next <| if s.portClass = .nudge then s.writeDataByte value else s

/-- CUE_SLOT_STATE_WRITE: a host write to a cue slot's state byte (R165). -/
def execCueSlotStateWrite (value : Byte) (s : State) : Host.Outcome State Fault Refusal :=
  .next <|
    match s.portClass with
    | .cueState _ => s.writeDataByte value
    | _ => s

/-- EVENT_RECORD_FREE: a host write of FREE to an event record's state byte (R174). -/
def execEventRecordFree (s : State) : Host.Outcome State Fault Refusal :=
  .next <|
    match s.portClass with
    | .eventState _ => s.writeDataByte 0#8
    | _ => s

/-- INBOUND_RECORD_FREE: a host write to an inbound record's state byte; only FREE is taken (R148). -/
def execInboundRecordFree (value : Byte) (s : State) : Host.Outcome State Fault Refusal :=
  .next <|
    match s.portClass with
    | .inboundState _ => s.writeDataByte value
    | _ => s

/-- One slot of a scan: a POSTED request is taken with its fields as they stand, its result written, and attention CUE
raised (R127). Where `emptied` says so, the host's EMPTY, the data byte of a WRITE at the slot's state byte, is taken
while the slot is TAKEN, and the result follows all the same (R165). -/
def State.scanSlot (emptied : Bool) (s : State) (n : Fin 8) : State :=
  let c := s.cueSlots[n]
  if c.state = .posted then
    let gain := if c.gain = 0#8 then none else some c.gain.toNat
    let s := s.withCueSlots (s.cueSlots.set n { c with state := .taken })
    let s := if emptied ∧ s.portClass = .cueState n then s.writeDataByte 0#8 else s
    let (s, result) := s.cueRequest c.cue.toNat c.action.toNat gain .slot
    let ended := if result = .ok then CueSlotState.done else CueSlotState.refused
    (s.withCueSlots (vecModify s.cueSlots n fun x => { x with state := ended, result := result })).raise
      .cue
  else s

/-- A scan of the eight slots. A host EMPTY that waits next in the queue arrives together with the scan: a free value
says whether it is taken within it, its own row then finding it taken, or behind it (R165; log entry 44). -/
def State.scanSlots (s : State) : State :=
  if s.pending.head? = some (.cueSlotStateWrite 0#8) then
    (List.finRange 8).foldl (State.scanSlot (Config.emptyTakenFirst s.draws)) (s.withDraws (s.draws + 1))
  else (List.finRange 8).foldl (State.scanSlot false) s

/-- CUE_SLOT_SCAN: the scan timer is restarted; in RUN the eight slots are scanned; the sound readings are
written (R127, R134). -/
def execCueSlotScan (s : State) : Host.Outcome State Fault Refusal :=
  .next <|
    if s.sound.scanTimer.isRunning then
      let s := s.withSound { s.sound with scanTimer := s.startTimer cueScanInterval }
      let s := if s.part = .run then s.scanSlots else s
      s.writeSoundReadings
    else s

/-- Whether a READ at address `a` meets ATTN_PENDING's lower byte, at 0x08, before UPTIME's least significant byte,
at 0x04. -/
def pendingComesFirst (a : BitVec 13) : Bool := decide (4 < a.toNat ∧ a.toNat ≤ 8)

/-- UPTIME_READ_CAPTURE: a READ, gone on to 0x04 byte by byte, serves UPTIME's least significant byte, and the four
bytes are captured (R157, R159). A READ that must pass 0x08 first captures ATTN_PENDING there, by that row
(log entry 21). -/
def execUptimeReadCapture (s : State) : Host.Outcome State Fault Refusal :=
  .next <|
    if s.port.phase = .reading ∧ pendingComesFirst s.port.address = false then
      let s := s.readOn (4#13 - s.port.address).toNat
      s.withPort { s.port with address := s.port.address + 1#13, uptimeCapture := some s.uptime }
    else s

/-- ATTN_PENDING_READ_CAPTURE: a READ, gone on to 0x08 byte by byte, serves ATTN_PENDING's lower byte, and both bytes
are captured (R157, R159). A READ that must pass 0x04 first captures UPTIME there, by that row (log entry 21). -/
def execAttnPendingReadCapture (s : State) : Host.Outcome State Fault Refusal :=
  .next <|
    if s.port.phase = .reading ∧ pendingComesFirst s.port.address = true then
      let s := s.readOn (8#13 - s.port.address).toNat
      s.withPort { s.port with address := s.port.address + 1#13, pendingCapture := some s.attnPending }
    else s

end Sys2Proof.Machine
end

