-- ==== Sys2Proof/Machine/Commands.lean ====
section
/-! DEFINITION. The controller as a whole: the host's COMMAND requests (R166), the quiesce deadline (R167), the resets
and the entry to RUN (R168, R169), and UPTIME. -/

namespace Sys2Proof.Machine

/-! ### The entry to RUN from a reset (R168, R169) -/

/-- The readings, tick and scan timers that start with their intervals when the part state becomes RUN from
STARTING or RESETTING (R43, R75, R87, R99, R107, R127, R155). -/
def State.startBlockTimers (s : State) : State :=
  let readings := s.startTimer readingsInterval
  let s := s.withDrive { s.drive with readingsTimer := readings }
  let s := s.withPower { s.power with readingsTimer := readings }
  let s := s.withCadence { s.cadence with readingsTimer := readings }
  let s := s.withSmoke { s.smoke with budgetTimer := s.startTimer budgetInterval }
  let s := s.withLamps { s.lamps with tickTimer := s.startTimer effectInterval }
  let s := s.withSound { s.sound with scanTimer := s.startTimer cueScanInterval }
  s.withRadio { s.radio with readingsTimer := readings }

/-- The sequencer at the entry to RUN from a reset: the scan timer starts and the first pass starts at once
(R47). -/
def State.startScanning (s : State) : State :=
  (s.withSequencer { s.sequencer with
    scanTimer := s.startTimer (millis s.sequencer.profile.scanPeriod) }).startPass 0

/-- The part state becomes RUN after a reset: RESET_DONE and PART_STATE are raised, the blocks start their
timers, the first pass and the first sweep start (R47, R162, R168, R169). -/
def State.enterRun (s : State) (subject : Byte) : State :=
  let s := ((s.withPart .run).event .resetDone subject 0#16).raise .partState
  s.startBlockTimers.startScanning.startSweeping

/-! ### Commands of the host (R166) -/

/-- RESUME taken: the part state becomes RUN, the deadline and the reset mark go, and each block returns by its
own chapter (R42, R62, R101, R113, R118, R154, R162, R166). -/
def State.resume (s : State) : State :=
  let s := ((s.withPart .run).withDeadline .stopped).withResetMark false
  let s := ((s.withAcks .none).raise .partState).driveResume
  (((s.radioResume.rereadFan).formLamps).soundResume).startSweeping

/-- RESET taken, by the part state: it quiesces with the mark, sets the mark, or resets at once (R166). -/
def State.takeReset (s : State) : State :=
  match s.part with
  | .run => s.enterQuiescing true
  | .quiescing => s.withResetMark true
  | .quiet => s.softReset
  | .starting | .resetting => s

/-- A request with a code that `code` names is taken: its result is written, COMMAND becomes 0, and a taken
command acts (R166). -/
def State.takeCommand (s : State) (code : Nat → Bool) (taken : PartState → Bool) (act : State → State) : State :=
  if code s.command.toNat then
    if taken s.part then act ((s.withCommandResult .accepted).withCommand 0#8)
    else (s.withCommandResult .refused).withCommand 0#8
  else s

/-- COMMAND_HALT: taken in RUN and QUIESCING as a HALT with source HOST (R29, R166). -/
def execCommandHalt (s : State) : Host.Outcome State Fault Refusal :=
  .next <| s.takeCommand (· == 1) (fun p => p == .run || p == .quiescing) fun s =>
    (s.halt .host).settleQuiesce

/-- COMMAND_QUIESCE: taken in RUN (R166, R167). -/
def execCommandQuiesce (s : State) : Host.Outcome State Fault Refusal :=
  .next <| s.takeCommand (· == 2) (fun p => p == .run) fun s => s.enterQuiescing false

/-- COMMAND_RESUME: taken in QUIESCING and QUIET (R166). -/
def execCommandResume (s : State) : Host.Outcome State Fault Refusal :=
  .next <| s.takeCommand (· == 3) (fun p => p == .quiescing || p == .quiet) State.resume

/-- COMMAND_RESET: taken in RUN, QUIESCING and QUIET (R166, R169). -/
def execCommandReset (s : State) : Host.Outcome State Fault Refusal :=
  .next <| s.takeCommand (· == 4) (fun p => p == .run || p == .quiescing || p == .quiet) State.takeReset

/-- COMMAND_UNKNOWN: a nonzero code that names no command is REFUSED and changes nothing else (R166). -/
def execCommandUnknown (s : State) : Host.Outcome State Fault Refusal :=
  .next <| s.takeCommand (fun c => decide (4 < c)) (fun _ => false) fun s => s

/-! ### The quiesce deadline (R167) -/

/-- The blocks that have not acknowledged, by their numbers in R167's table counted from 1. -/
def Acks.missing (a : Acks) : List Nat :=
  (if a.drive then [] else [1]) ++ (if a.sound then [] else [2]) ++ (if a.smoke then [] else [3]) ++
    (if a.sequencer then [] else [4]) ++ (if a.radio then [] else [5]) ++ (if a.lamps then [] else [6]) ++
    (if a.adoption then [] else [7])

/-- A block forced (R41, R133, R167). The smoke unit, the receiver and the lamps acknowledge at the entry, so
they are never forced. -/
def State.forceBlock (s : State) (order : Nat) : Nat → State
  | 1 => s.driveForce
  | 2 => s.freeVoices
  | 4 => s.abandonConversion order
  | 7 => s.withAdoption s.adoption.visitOver
  | _ => s

/-- QUIESCE_DEADLINE_EXPIRY: each block that has not acknowledged is forced and named in QUIESCE_FORCED, and the
quiesce ends (R167). The low digits of `order` name the order of the QUIESCE_FORCED events, which the manual leaves open
(log entry 4). DESIGN CHOICE (log entry 52): the blocks are forced in the order of R167's table, and all that the forcing
brings, the events of a pass that ends with its abandoned conversion among it, comes before the QUIESCE_FORCED
events. -/
def execQuiesceDeadlineExpiry (order : Nat) (s : State) : Host.Outcome State Fault Refusal :=
  .next <|
    if s.deadline.isRunning ∧ s.part = .quiescing then
      let missing := s.acks.missing
      let s := missing.foldl (fun s n => s.forceBlock (order / 24) n) s
      let s := (arrange missing (order % 24)).foldl
        (fun s n => s.event .quiesceForced (BitVec.ofNat 8 n) 0#16) s
      s.endQuiesce
    else s

/-! ### Resets and time (R159, R168, R169) -/

/-- POWER_ON_RESET: every block takes its reset value, the whole store is zeroed, and the part state is STARTING
(R168). The flash, the model's counts of draws and the queue are outside the part. -/
def execPowerOnReset (s : State) : Host.Outcome State Fault Refusal :=
  .next { State.reset with
    drive := { Drive.reset with shortSamples := s.drive.shortSamples }
    flash := s.flash, draws := s.draws, pending := s.pending }

/-- STORE_INITIALISED: the part state becomes RUN after a power-on reset (R168). -/
def execStoreInitialised (s : State) : Host.Outcome State Fault Refusal :=
  .next <| if s.part = .starting then s.enterRun 1#8 else s

/-- RESET_COMPLETE: the part state becomes RUN after a soft reset (R169). -/
def execResetComplete (s : State) : Host.Outcome State Fault Refusal :=
  .next <| if s.part = .resetting then s.enterRun 2#8 else s

/-- UPTIME_TICK: a millisecond passes; a CRC pass of a mount reads on (R119, R159). -/
def execUptimeTick (s : State) : Host.Outcome State Fault Refusal :=
  .next (s.withTime (s.time + 1)).mountProgress

end Sys2Proof.Machine
end

