-- ==== Sys2Proof/Machine/Outputs.lean ====
section
/-! DEFINITION. The outputs (12.1, R175): the levels and counts the pins show, and the meanings of the output sample
and of the two PWM period starts. -/

namespace Sys2Proof.Machine

/-! ### Pins (R175) -/

/-- The lines to one gate driver: enable, low-side brake, and the counts of 1024 for which PWM is high in the
present period. -/
structure BridgePins where
  enable : Bool
  brake : Bool
  pwm : Nat
  deriving DecidableEq, Repr

/-- The three lines of a bridge by its mode (R175). -/
def State.bridgePins (s : State) (c : Channel) : BridgePins :=
  match s.bridgeMode with
  | .drive => ⟨true, false, (s.drive.channels.get c).pwm⟩
  | .coast => ⟨false, false, 0⟩
  | .brake => ⟨true, true, 0⟩

/-- The level of DIR_A and DIR_B: high for REV (12.1). -/
def State.dirPin (s : State) : Bool := s.drive.direction == .rev

/-- The level of ATTN (R171). -/
def State.attnPin (s : State) : Bool := s.attention.asserted

/-- The level of CHARGE (R73). -/
def State.chargePin (s : State) : Bool := s.power.charge

/-- The level of AMP_EN (R132). -/
def State.ampEnablePin (s : State) : Bool := s.sound.ampEnabled

/-- The counts of 256 for which HEATER is high in the present period (R94). -/
def State.heaterPin (s : State) : Nat := s.smoke.heaterPwm

/-- The counts of 256 for which FAN is high in the present period (R94). -/
def State.fanPin (s : State) : Nat := s.smoke.fanPwm

/-- The counts of 256 for which a lamp output is high in the present period (R112). -/
def State.lampPin (s : State) (k : Fin 8) : Nat := s.lamps.lamps[k].pwm

/-- The sample last sent on SDATA (R130). -/
def State.sdataPin (s : State) : Int := s.sound.output

/-- LRCK and SDATA in one BCLK period of the I2S link. -/
structure LinkBit where
  lrck : Bool
  sdata : Bool
  deriving DecidableEq, Repr

/-- The I2S frame of the sample last sent: 32 BCLK periods, the 16-bit two's complement word most significant bit
first, once while LRCK is low and once while it is high (R130). -/
def State.linkFrame (s : State) : List LinkBit :=
  let word := BitVec.ofInt 16 s.sdataPin
  [false, true].flatMap fun lrck => (List.range 16).map fun i => ⟨lrck, word.getMsbD i⟩

/-- Whether the sound engine reads the flash: a mount goes on, or a voice plays (R119, R130). -/
def State.readsFlash (s : State) : Bool := s.mountGoesOn || s.sound.anyBusy

/-- The level of FL_CS_N: high in STARTING (R175) and while the engine does not read the flash; during a read its
level is a free value (log entry 40). -/
def State.flashSelectPin (s : State) : Bool :=
  s.part == .starting || !s.readsFlash || Config.flashSelect s.draws

/-! ### Meanings -/

/-- OUTPUT_SAMPLE: the voices give their samples and advance, and the mix goes out; the last voice to become
FREE may end a quiesce (R130, R133, R167). -/
def execOutputSample (s : State) : Host.Outcome State Fault Refusal :=
  .next <| if s.part.active then s.sampleVoices.settleQuiesce else s

/-- BRIDGE_PWM_PERIOD_START: a risen applied duty takes effect for the period (R19). -/
def execBridgePwmPeriodStart (s : State) : Host.Outcome State Fault Refusal :=
  .next <| s.withDrive { s.drive with
    channels := s.drive.channels.map fun c x => { x with pwm := s.appliedDuty c } }

/-- OUTPUT_PWM_PERIOD_START: a risen heater, fan or lamp duty takes effect for the period (R94, R112). -/
def execOutputPwmPeriodStart (s : State) : Host.Outcome State Fault Refusal :=
  .next <|
    let s := s.withSmoke { s.smoke with heaterPwm := s.smoke.heater, fanPwm := s.smoke.fan }
    s.withLamps { s.lamps with lamps := vecMap (fun l => { l with pwm := l.duty }) s.lamps.lamps }

end Sys2Proof.Machine
end

