-- ==== Sys2Proof/Machine/Dispatch.lean ====
section
/-! DEFINITION. Which meaning each command has: one direct call for each row of the opcode table. -/

namespace Sys2Proof.Machine

def exec (i : Instr) (s : State) : Host.Outcome State Fault Refusal :=
  match i with
  | .powerOnReset => Sys2Proof.Machine.execPowerOnReset s
  | .storeInitialised => Sys2Proof.Machine.execStoreInitialised s
  | .resetComplete => Sys2Proof.Machine.execResetComplete s
  | .uptimeTick => Sys2Proof.Machine.execUptimeTick s
  | .hostUnknownInstruction instruction => Sys2Proof.Machine.execHostUnknownInstruction instruction s
  | .hostWrite value => Sys2Proof.Machine.execHostWrite value s
  | .uptimeReadCapture => Sys2Proof.Machine.execUptimeReadCapture s
  | .attnPendingReadCapture => Sys2Proof.Machine.execAttnPendingReadCapture s
  | .revisionWrite value => Sys2Proof.Machine.execRevisionWrite value s
  | .attnConfigWrite value => Sys2Proof.Machine.execAttnConfigWrite value s
  | .attnTake value => Sys2Proof.Machine.execAttnTake value s
  | .nudge value => Sys2Proof.Machine.execNudge value s
  | .cueSlotStateWrite value => Sys2Proof.Machine.execCueSlotStateWrite value s
  | .eventRecordFree => Sys2Proof.Machine.execEventRecordFree s
  | .inboundRecordFree value => Sys2Proof.Machine.execInboundRecordFree value s
  | .commandHalt => Sys2Proof.Machine.execCommandHalt s
  | .commandQuiesce => Sys2Proof.Machine.execCommandQuiesce s
  | .commandResume => Sys2Proof.Machine.execCommandResume s
  | .commandReset => Sys2Proof.Machine.execCommandReset s
  | .commandUnknown => Sys2Proof.Machine.execCommandUnknown s
  | .quiesceDeadlineExpiry order => Sys2Proof.Machine.execQuiesceDeadlineExpiry order s
  | .sweepTimerExpiry => Sys2Proof.Machine.execSweepTimerExpiry s
  | .deferredSweepStart => Sys2Proof.Machine.execDeferredSweepStart s
  | .visitBegin => Sys2Proof.Machine.execVisitBegin s
  | .adoptDriveProfile => Sys2Proof.Machine.execAdoptDriveProfile s
  | .adoptSpeedTable => Sys2Proof.Machine.execAdoptSpeedTable s
  | .adoptMeasureProfile => Sys2Proof.Machine.execAdoptMeasureProfile s
  | .adoptPowerProfile order => Sys2Proof.Machine.execAdoptPowerProfile order s
  | .adoptCadenceProfile => Sys2Proof.Machine.execAdoptCadenceProfile s
  | .adoptSmokeProfile => Sys2Proof.Machine.execAdoptSmokeProfile s
  | .adoptLampProfile => Sys2Proof.Machine.execAdoptLampProfile s
  | .adoptSoundProfile => Sys2Proof.Machine.execAdoptSoundProfile s
  | .adoptRadioProfile => Sys2Proof.Machine.execAdoptRadioProfile s
  | .adoptFunctionMap => Sys2Proof.Machine.execAdoptFunctionMap s
  | .adoptDriveDirective => Sys2Proof.Machine.execAdoptDriveDirective s
  | .adoptSmokeDirective => Sys2Proof.Machine.execAdoptSmokeDirective s
  | .adoptLampDirective => Sys2Proof.Machine.execAdoptLampDirective s
  | .adoptSoundDirective => Sys2Proof.Machine.execAdoptSoundDirective s
  | .adoptFunctionDirective => Sys2Proof.Machine.execAdoptFunctionDirective s
  | .rampStep => Sys2Proof.Machine.execRampStep s
  | .trip channel order => Sys2Proof.Machine.execTrip channel order s
  | .retryTimerExpiry => Sys2Proof.Machine.execRetryTimerExpiry s
  | .forgiveTimerExpiry => Sys2Proof.Machine.execForgiveTimerExpiry s
  | .windowPeriodExpiry => Sys2Proof.Machine.execWindowPeriodExpiry s
  | .settleTimerExpiry => Sys2Proof.Machine.execSettleTimerExpiry s
  | .windowLimitExpiry => Sys2Proof.Machine.execWindowLimitExpiry s
  | .driveReadingsTimer shortA shortB => Sys2Proof.Machine.execDriveReadingsTimer shortA shortB s
  | .scanTimerExpiry order => Sys2Proof.Machine.execScanTimerExpiry order s
  | .deferredPassStart order => Sys2Proof.Machine.execDeferredPassStart order s
  | .emfRequestServe => Sys2Proof.Machine.execEmfRequestServe s
  | .adcConversionComplete raw order => Sys2Proof.Machine.execAdcConversionComplete raw order s
  | .outageTick order => Sys2Proof.Machine.execOutageTick order s
  | .powerReadingsTimer => Sys2Proof.Machine.execPowerReadingsTimer s
  | .camEdge phase => Sys2Proof.Machine.execCamEdge phase s
  | .wheelStoppedExpiry => Sys2Proof.Machine.execWheelStoppedExpiry s
  | .syntheticChuffExpiry => Sys2Proof.Machine.execSyntheticChuffExpiry s
  | .cadenceReadingsTimer => Sys2Proof.Machine.execCadenceReadingsTimer s
  | .heatStaleExpiry => Sys2Proof.Machine.execHeatStaleExpiry s
  | .idleTimerExpiry => Sys2Proof.Machine.execIdleTimerExpiry s
  | .pulseTimerExpiry => Sys2Proof.Machine.execPulseTimerExpiry s
  | .idlePuffExpiry => Sys2Proof.Machine.execIdlePuffExpiry s
  | .cooldownExpiry => Sys2Proof.Machine.execCooldownExpiry s
  | .budgetTick => Sys2Proof.Machine.execBudgetTick s
  | .effectTick => Sys2Proof.Machine.execEffectTick s
  | .mountHeaderRead => Sys2Proof.Machine.execMountHeaderRead s
  | .mountComplete => Sys2Proof.Machine.execMountComplete s
  | .cueSlotScan => Sys2Proof.Machine.execCueSlotScan s
  | .outputSample => Sys2Proof.Machine.execOutputSample s
  | .ampHoldExpiry => Sys2Proof.Machine.execAmpHoldExpiry s
  | .radioByte input => Sys2Proof.Machine.execRadioByte input s
  | .gapTimerExpiry => Sys2Proof.Machine.execGapTimerExpiry s
  | .radioSpeed order => Sys2Proof.Machine.execRadioSpeed order s
  | .radioHalt order => Sys2Proof.Machine.execRadioHalt order s
  | .radioFunction order => Sys2Proof.Machine.execRadioFunction order s
  | .radioFunctionGroup order => Sys2Proof.Machine.execRadioFunctionGroup order s
  | .radioCue order => Sys2Proof.Machine.execRadioCue order s
  | .radioVolume => Sys2Proof.Machine.execRadioVolume s
  | .radioUser => Sys2Proof.Machine.execRadioUser s
  | .radioUnknownCommand => Sys2Proof.Machine.execRadioUnknownCommand s
  | .silenceTimerExpiry => Sys2Proof.Machine.execSilenceTimerExpiry s
  | .elapsedTick => Sys2Proof.Machine.execElapsedTick s
  | .radioReadingsTimer => Sys2Proof.Machine.execRadioReadingsTimer s
  | .chipSelectRelease => Sys2Proof.Machine.execChipSelectRelease s
  | .hostAddressComplete instruction address => Sys2Proof.Machine.execHostAddressComplete instruction address s
  | .bridgePwmPeriodStart => Sys2Proof.Machine.execBridgePwmPeriodStart s
  | .outputPwmPeriodStart => Sys2Proof.Machine.execOutputPwmPeriodStart s

end Sys2Proof.Machine
end

