-- ==== Sys2Proof/Safety.lean ====
section
/-! DEFINITION. What claims are stated in: the frame of a command (which components of the state it leaves as they
were) and the invariants that every step keeps. -/

namespace Sys2Proof.Machine

/-! ### Frames -/

/-- The components of the state, one for each field. -/
inductive Component
  | time
  | part
  | resetMark
  | deadline
  | acks
  | command
  | commandResult
  | port
  | store
  | cueSlots
  | events
  | eventSeq
  | inbound
  | attention
  | adoption
  | drive
  | sequencer
  | power
  | cadence
  | smoke
  | lamps
  | sound
  | radio
  | functions
  | flash
  | draws
  | pending
  deriving DecidableEq, Repr

/-- Two states agree on a component. -/
def Component.same (s t : State) : Component → Prop
  | .time => t.time = s.time
  | .part => t.part = s.part
  | .resetMark => t.resetMark = s.resetMark
  | .deadline => t.deadline = s.deadline
  | .acks => t.acks = s.acks
  | .command => t.command = s.command
  | .commandResult => t.commandResult = s.commandResult
  | .port => t.port = s.port
  | .store => ∀ a, t.storeAt a = s.storeAt a
  | .cueSlots => t.cueSlots = s.cueSlots
  | .events => t.events = s.events
  | .eventSeq => t.eventSeq = s.eventSeq
  | .inbound => t.inbound = s.inbound
  | .attention => t.attention = s.attention
  | .adoption => t.adoption = s.adoption
  | .drive => t.drive = s.drive
  | .sequencer => t.sequencer = s.sequencer
  | .power => t.power = s.power
  | .cadence => t.cadence = s.cadence
  | .smoke => t.smoke = s.smoke
  | .lamps => t.lamps = s.lamps
  | .sound => t.sound = s.sound
  | .radio => t.radio = s.radio
  | .functions => t.functions = s.functions
  | .flash => t.flash = s.flash
  | .draws => t.draws = s.draws
  | .pending => t.pending = s.pending

/-- `t` is `s` but for the components named. -/
def State.SameExcept (s t : State) (changed : List Component) : Prop :=
  ∀ c : Component, c ∉ changed → c.same s t

/-- Every store byte outside the `n` bytes from `base` on reads in `t` as in `s`. -/
def State.StoreSameOutside (s t : State) (base n : Nat) : Prop :=
  ∀ a, a < base ∨ base + n ≤ a → t.storeAt a = s.storeAt a

/-- A writing of a readings group (R160): the write count has risen by 1, wrapping, the bytes from offset 1 on are
`fields`, and every byte outside the group is as it was. -/
def State.GroupWritten (s t : State) (base : Nat) (fields : List Byte) : Prop :=
  t.storeAt base = s.storeAt base + 1#8 ∧
    (∀ i, i < fields.length → t.storeAt (base + 1 + i) = fields.getD i 0#8) ∧
    s.StoreSameOutside t base (1 + fields.length)

/-- The event list, its sequence counter and the attention unit stand in `t` as they stand in `u`. -/
def State.EventsAs (t u : State) : Prop :=
  t.events = u.events ∧ t.eventSeq = u.eventSeq ∧ t.attention = u.attention

/-- A quiesce in progress still waits for the sound engine, the sequencer or the adoption unit, so that the drive's
acknowledgement cannot end it (R167). Outside QUIESCING this says nothing. -/
abbrev State.QuiesceOpen (s : State) : Prop :=
  s.part = .quiescing →
    s.acks.sequencer = false ∨ s.acks.sound = false ∧ s.sound.anyBusy = true ∨
      s.acks.adoption = false ∧ s.adoption.visit ≠ none

/-- A quiesce in progress still waits for the sound engine or the adoption unit, so that the acknowledgements of the
sequencer and the drive cannot end it (R167). Outside QUIESCING this says nothing. -/
abbrev State.QuiesceOpenElsewhere (s : State) : Prop :=
  s.part = .quiescing →
    s.acks.sound = false ∧ s.sound.anyBusy = true ∨ s.acks.adoption = false ∧ s.adoption.visit ≠ none

/-- A quiesce in progress is not finished: some acknowledgement is neither made nor due (R167). Outside QUIESCING this
says nothing. -/
abbrev State.QuiesceUnfinished (s : State) : Prop := s.part = .quiescing → s.acksNow.all = false

/-- The drive's settings and counts that a change of its state or its ramp leaves as they were. -/
def Drive.SameSettings (d e : Drive) : Prop :=
  e.profile = d.profile ∧ e.table = d.table ∧ e.directive = d.directive ∧ e.level = d.level ∧
    e.slotCauses = d.slotCauses ∧ e.silenceCause = d.silenceCause ∧ e.completed = d.completed ∧
    e.timedOut = d.timedOut ∧ e.readingsTimer = d.readingsTimer

/-- The drive stands still: R is 0 without a stepping direction or timer, and on both channels C, the integral, the
correction, D and the count driven are 0; the last EMF values are those of `d` (R8, R16, R18, R19). -/
def Drive.AtRest (d e : Drive) : Prop :=
  e.ramp = 0 ∧ e.stepDir = .none ∧ e.rampTimer = .stopped ∧
    ∀ c : Channel,
      (e.channels.get c).command = 0 ∧ (e.channels.get c).integral = 0 ∧ (e.channels.get c).correction = 0 ∧
        (e.channels.get c).duty = 0 ∧ (e.channels.get c).pwm = 0 ∧
        (e.channels.get c).lastEmf = (d.channels.get c).lastEmf

/-- An EMF window that was open has been closed without update and counted as closed early; without one the count
stands (R40). -/
def Drive.WindowShut (d e : Drive) : Prop :=
  e.window = .closed ∧ e.periodTimer = .stopped ∧
    (d.window ≠ .closed → e.settleTimer = .stopped ∧ e.limitTimer = .stopped ∧
      e.closedEarly = d.closedEarly + 1#16 ∧
      ∀ c : Channel, (e.channels.get c).requested = false ∧ (e.channels.get c).reading = none) ∧
    (d.window = .closed → e.closedEarly = d.closedEarly)

/-! ### Frames of the radio -/

/-- The receiver's state once the completed frame `f`, addressed by `via`, has passed the duplicate check: the frame is
counted good, silence has acted unless it came by broadcast, and the sender's entry stands at the back of the
table (R141, R143, R149). -/
def State.passed (s : State) (f : Frame) (via : Via) : State :=
  let u := s.withRadio { s.radio with completed := none, framesGood := s.radio.framesGood + 1#16 }
  let u := if via = .broadcast then u else u.frameHeard
  u.withRadio { u.radio with senders := u.radio.sendersAfter (f.heard via) u.time }

/-- A completed frame that reaches the checks of its command: its CRC matches, the part state is RUN, it is addressed,
and it is no duplicate (R141 steps 1 to 5). -/
def State.Passes (s : State) (f : Frame) (via : Via) : Prop :=
  s.radio.completed = some f ∧ f.crcMatches = true ∧ s.part = .run ∧ s.radio.profile.addressedAs f = some via ∧
    s.radio.isDuplicate (f.heard via) = false

/-! ### Function edges -/

/-- What the sound engine does with a function flag that has changed to `on`, the function's map entry naming `cue`
(R128, R152): a flag that came on starts the cue, 0 naming none; one that went off stops a HELD cue of a READY bank. -/
def State.functionEdge (s : State) (cue : Nat) (on : Bool) : State :=
  if on then (if cue = 0 then s else (s.startCue cue none .function).1)
  else if s.sound.bank = .ready ∧ ((s.sound.cue cue).map (·.kind)) = some 1 then (s.stopCue cue).1 else s

/-- The edges of a write to the function flags, in the order of the function numbers (R152): `write` gives the new
value of each flag it writes. -/
def State.functionEdges (s : State) (write : Fin 32 → Option Bool) : State :=
  (List.finRange 32).foldl
    (fun u n => match write n with
      | some on => if on = s.functions.flags[n].on then u else u.functionEdge s.functions.map[n].cue on
      | none => u) s

/-! ### Readings groups by their offsets (12.6)

A state's code is its place in the listing of its chapter or of the group's table, counted from 0. -/

/-- The byte of the store at `a`, as a number. -/
def State.storeNum (s : State) (a : Nat) : Nat := (s.storeAt a).toNat

/-- The two bytes at `a`, least significant first. -/
def State.storeNum16 (s : State) (a : Nat) : Nat := s.storeNum a + 256 * s.storeNum (a + 1)

/-- The four bytes at `a`, least significant first. -/
def State.storeNum32 (s : State) (a : Nat) : Nat := s.storeNum16 a + 65536 * s.storeNum16 (a + 2)

/-- The drive group shows the drive's values, by the offsets of 12.6 (R43). -/
def State.DriveGroupShows (s : State) : Prop :=
  let d := s.drive
  let b (i : Nat) : Nat := s.storeNum (0x0800 + i)
  let h (i : Nat) : Nat := s.storeNum16 (0x0800 + i)
  b 1 = [.idle, .running, .reversing, .halted, .tripped, .locked].idxOf d.state ∧
    b 2 = [.fwd, .rev].idxOf d.direction ∧ b 3 = [.none, .ease, .brake, .release].idxOf d.level ∧
    (∀ k : SlotIx, (h 4).testBit k.val = d.slotCauses[k]) ∧ (h 4).testBit 12 = d.silenceCause ∧
    h 6 = d.target.magnitude % 65536 ∧ b 8 = [.fwd, .rev].idxOf d.target.direction ∧
    b 9 = [.none, .host, .radio].idxOf d.target.source ∧ b 10 = [.none, .host, .radio].idxOf d.haltSource ∧ b 11 = d.tripCount % 256 ∧ h 12 = s.effectiveTarget % 65536 ∧
    h 14 = d.ramp % 65536 ∧ b 16 = (if d.shortA then 1 else 0) + (if d.shortB then 2 else 0) ∧
    b 17 = [.closed, .settling, .sampling].idxOf d.window ∧ h 18 = d.completed.toNat ∧ h 20 = d.closedEarly.toNat ∧ h 22 = d.timedOut.toNat ∧
    ∀ c : Channel,
      let i : Nat := match c with
        | .a => 24
        | .b => 38
      let x := d.channels.get c
      h i = x.command % 65536 ∧ h (i + 2) = x.duty % 65536 ∧ h (i + 4) = s.appliedDuty c % 65536 ∧
        b (i + 6) = [.drive, .coast, .brake].idxOf s.bridgeMode ∧
        BitVec.ofNat 16 (h (i + 8)) = BitVec.ofInt 16 x.integral ∧
        BitVec.ofNat 16 (h (i + 10)) = BitVec.ofInt 16 x.correction ∧ h (i + 12) = x.lastEmf % 65536

/-- The power group shows the supervisor's values, by the offsets of 12.6 (R75). -/
def State.PowerGroupShows (s : State) : Prop :=
  let p := s.power
  let b (i : Nat) : Nat := s.storeNum (0x08C0 + i)
  let h (i : Nat) : Nat := s.storeNum16 (0x08C0 + i)
  b 1 = [.supplied, .bridging, .spent].idxOf p.state ∧
    b 2 = (if p.trackLost then 1 else 0) + (if p.storeLow then 2 else 0) + (if p.charge then 4 else 0) ∧
    h 4 = p.bridge % 65536 ∧ h 6 = p.outage % 65536 ∧ h 8 = p.lastOutage % 65536 ∧ h 10 = p.outageCount.toNat ∧
    h 12 = p.spentCount.toNat ∧ h 14 = (if p.state = .bridging then p.profile.ceiling % 65536 else 0) ∧
    h 16 = (match p.state with
      | .supplied => 256
      | .bridging => p.profile.dim % 65536
      | .spent => 0) ∧
    h 18 = (match p.state with
      | .supplied => 256
      | .bridging => p.profile.attenuation % 65536
      | .spent => 0)

/-- The cadence group shows the cadence unit's values, by the offsets of 12.6 (R87). -/
def State.CadenceGroupShows (s : State) : Prop :=
  let c := s.cadence
  let b (i : Nat) : Nat := s.storeNum (0x08E0 + i)
  let h (i : Nat) : Nat := s.storeNum16 (0x08E0 + i)
  b 1 = [.cam, .synthetic, .auto].idxOf c.profile.mode ∧ b 2 = [.cam, .synthetic].idxOf c.source ∧
    b 3 = [.noneSeen, .live, .stopped].idxOf c.cam ∧
    h 4 + 65536 * b 6 = c.period % 16777216 ∧ h 8 = c.speed % 65536 ∧ h 10 = c.rejected.toNat ∧
    s.storeNum32 0x08EC = c.odometer.toNat ∧ h 16 = c.heldV % 65536 ∧ h 18 = (c.interval.getD 0) % 65536 ∧
    h 20 = (match c.lastChuff with
      | none => 65535
      | some t => min (s.time - t) 65535) ∧
    h 22 = c.chuffs.toNat

/-- The radio group shows the receiver's values and the function table's, by the offsets of 12.6 (R155). The time left
is whole 100 ms units (log entry 14). -/
def State.RadioGroupShows (s : State) : Prop :=
  let r := s.radio
  let b (i : Nat) : Nat := s.storeNum (0x09F0 + i)
  let h (i : Nat) : Nat := s.storeNum16 (0x09F0 + i)
  let w (i : Nat) : Nat := s.storeNum32 (0x09F0 + i)
  b 1 = [.hunt, .sync, .length, .body, .check].idxOf r.finder ∧
    b 2 = [.disarmed, .listening, .silent].idxOf r.silence ∧ b 3 = (if r.heard then 1 else 0) ∧
    h 4 = r.framesGood.toNat ∧ h 6 = r.crcBad.toNat ∧ h 8 = r.abandoned.toNat ∧ h 10 = r.notAddressed.toNat ∧
    h 12 = r.duplicates.toNat ∧ h 14 = r.refused.toNat ∧ h 16 = r.heldOff.toNat ∧
    h 18 = r.inboundDropped.toNat ∧ h 20 = r.elapsed % 65536 ∧
    b 22 = (match r.silenceTimer with
      | .stopped => 0
      | .running due => (due - millis s.time) / 100000 % 256) ∧
    b 23 = r.inboundSeq.toNat ∧ b 24 = s.inbound.toList.countP (·.filled) ∧ b 25 = r.senders.length % 256 ∧
    (∀ (i : Nat) (e : Sender), i < 8 → r.senders[i]? = some e →
      b (26 + 6 * i) = e.sender.toNat ∧ b (27 + 6 * i) = e.counter.toNat ∧
        w (28 + 6 * i) = e.heard % 4294967296) ∧
    ∀ n : Fin 32, (w 74).testBit n.val = s.functions.flags[n].on ∧
      b (78 + n.val) = [.none, .host, .radio].idxOf s.functions.flags[n].source

/-- The sequencer group shows the sequencer's values, by the offsets of 12.6 (R63): the temperatures by the formulas of
section 3.1, from the last values of HEAT and BOARD. -/
def State.SequencerGroupShows (s : State) : Prop :=
  let q := s.sequencer
  let b (i : Nat) : Nat := s.storeNum (0x0840 + i)
  let h (i : Nat) : Nat := s.storeNum16 (0x0840 + i)
  b 1 = q.passCounter.toNat ∧ BitVec.ofNat 16 (h 2) = BitVec.ofInt 16 q.offset ∧
    b 4 = (if q.profile.correction then 1 else 0) + (if q.waiting.isSome then 2 else 0) ∧ b 5 = 0 ∧
    h 6 = q.slots[(7 : Fin 12)].value * 400 / 4096 % 65536 ∧
    BitVec.ofNat 16 (h 8) = BitVec.ofInt 16 ((q.slots[(8 : Fin 12)].value / 16 : Nat) - 40) ∧
    ∀ k : SlotIx,
      let i : Nat := 10 + 8 * k.val
      let x := q.slots[k]
      h i = x.raw % 65536 ∧ h (i + 2) = x.value % 65536 ∧ b (i + 4) = x.counter % 256 ∧
        b (i + 5) = [.clear, .counting, .asserted].idxOf x.alarm ∧ b (i + 6) = [.none, .low, .high].idxOf x.side ∧
        b (i + 7) = (if x.substituted then 1 else 0)

/-- The smoke group shows the smoke unit's values, by the offsets of 12.6, and the retained group its fluid budget
(R102). DESIGN CHOICE (log entry 60): offset 10 shows the setpoint in use by the settings and the state as they stand,
also before the HEAT value from which R89 and R95 apply it. -/
def State.SmokeGroupShows (s : State) : Prop :=
  let u := s.smoke
  let b (i : Nat) : Nat := s.storeNum (0x0900 + i)
  let h (i : Nat) : Nat := s.storeNum16 (0x0900 + i)
  b 1 = [.off, .warming, .ready, .idling, .held, .dry].idxOf u.state ∧
    b 2 = [.off, .on, .follow].idxOf u.directive.enable ∧
    b 3 = (if u.enabled then 1 else 0) + (if u.powerHold then 2 else 0) + (if u.stale then 4 else 0) +
      (if u.pulseTimer.isRunning then 8 else 0) + (if u.cooldownTimer.isRunning then 16 else 0) +
      (if u.budget < u.profile.capacity * 256 / 8 then 32 else 0) ∧
    (∀ n, n < 16 → (h 4).testBit n = u.alarmHold.toList.getD n false ∧
      (h 6).testBit n = u.alarmDry.toList.getD n false) ∧
    h 8 = u.temperature % 65536 ∧
    h 10 = (if u.state = .idling then u.profile.setpoint - u.profile.idleDrop else u.profile.setpoint) % 65536 ∧
    b 12 = u.computed % 256 ∧ b 13 = u.heater % 256 ∧ b 14 = u.fan % 256 ∧ b 15 = 0 ∧
    h 16 + 65536 * b 18 = u.budget % 16777216 ∧ b 19 = 0 ∧ h 20 = u.profile.capacity % 65536 ∧
    s.storeNum16 0x0A78 + 65536 * s.storeNum 0x0A7A = u.budget % 16777216

/-- The lamp group shows the lamp unit's values, by the offsets of 12.6 (R114). -/
def State.LampGroupShows (s : State) : Prop :=
  let u := s.lamps
  let b (i : Nat) : Nat := s.storeNum (0x0930 + i)
  let h (i : Nat) : Nat := s.storeNum16 (0x0930 + i)
  b 1 = (if u.direction = .rev then 1 else 0) + (if u.standing then 2 else 0) ∧ h 2 = u.lfsr.toNat ∧
    h 4 = u.factor % 65536 ∧
    ∀ k : Fin 8,
      let i : Nat := 6 + 6 * k.val
      let l := u.lamps[k]
      let gate := u.profile[k].gate
      let lit := l.active = true ∧
        (gate = .any ∨ gate = .fwd ∧ u.direction = .fwd ∨ gate = .rev ∧ u.direction = .rev)
      b i = (if l.active then 1 else 0) + (if lit then 2 else 0) ∧ b (i + 1) = [.a, .b, .ended].idxOf l.phase ∧
        b (i + 2) = l.count % 256 ∧ b (i + 3) = l.level % 256 ∧ b (i + 4) = l.duty % 256 ∧ b (i + 5) = 0

/-- The sound group shows the sound engine's values, by the offsets of 12.6 (R134). That a table being filled in
MOUNTING shows the first CHUFF cue it holds is the model's reading (log entry 43). -/
def State.SoundGroupShows (s : State) : Prop :=
  let e := s.sound
  let b (i : Nat) : Nat := s.storeNum (0x0970 + i)
  let h (i : Nat) : Nat := s.storeNum16 (0x0970 + i)
  b 1 = [.absent, .mounting, .ready, .faulty].idxOf e.bank ∧
    b 2 = [.none, .format, .counts, .crc, .cueRecord, .clipRecord].idxOf e.fault ∧
    (e.header = none → b 3 = 0 ∧ b 4 = 0 ∧ h 9 + 65536 * b 11 = 0) ∧
    (∀ x, e.header = some x →
      b 3 = x.cueCount % 256 ∧ b 4 = x.clipCount % 256 ∧ h 9 + 65536 * b 11 = x.length % 16777216) ∧
    ((∀ r ∈ e.cues, r.kind ≠ 2) → b 5 = 0) ∧
    (∀ (n : Nat) (r : CueRecord), e.cues[n]? = some r → r.kind = 2 →
      (∀ (m : Nat) (x : CueRecord), m < n → e.cues[m]? = some x → x.kind ≠ 2) → b 5 = (n + 1) % 256) ∧
    h 6 + 65536 * b 8 = e.progress % 16777216 ∧ b 12 = e.volume % 256 ∧
    b 13 = (if e.chuffLoad then 1 else 0) ∧ h 14 = e.attenuation % 65536 ∧
    b 16 = e.volume * e.attenuation / 256 % 256 ∧ b 17 = (if e.ampEnabled then 1 else 0) ∧
    b 18 = e.order.length % 256 ∧
    (∀ n, n < 6 → b (19 + n) = (match e.order[n]? with
      | some v => v.val
      | none => 0xFF)) ∧
    b 25 = 0 ∧ h 26 = e.clipCounter.toNat ∧ h 28 = e.noBank.toNat ∧ h 30 = e.noCue.toNat ∧
    h 32 = e.noVoice.toNat ∧ h 34 = e.badAction.toNat ∧ h 36 = e.steals.toNat ∧ h 38 = e.lastChuff.toNat ∧
    ∀ v : Fin 6,
      let i : Nat := 40 + 12 * v.val
      let x := e.voices[v]
      b i = [.free, .leading, .looping, .tailing, .fading].idxOf x.state ∧ b (i + 1) = x.cue % 256 ∧
        b (i + 2) = [.start, .loop, .tail].idxOf x.part ∧ b (i + 3) = x.clip % 256 ∧
        h (i + 4) + 65536 * b (i + 6) = x.position % 16777216 ∧ b (i + 7) = x.gain % 256 ∧
        h (i + 8) = x.fade % 65536 ∧ b (i + 10) = (if x.release then 1 else 0) ∧ b (i + 11) = 0

/-! ### The store as the host reads it (12.2, 12.3, 12.5) -/

/-- The byte a host READ finds at `a` outside the captures of R159, as a number. -/
def State.hostNum (s : State) (a : Nat) : Nat := (s.storeByte a).toNat

/-- The two bytes a host READ finds at `a`, least significant first. -/
def State.hostNum16 (s : State) (a : Nat) : Nat := s.hostNum a + 256 * s.hostNum (a + 1)

/-- The four bytes a host READ finds at `a`, least significant first. -/
def State.hostNum32 (s : State) (a : Nat) : Nat := s.hostNum16 a + 65536 * s.hostNum16 (a + 2)

/-- The event kinds from code 1 on, each with the code of its severity: 0 NOTICE, 1 WARNING, 2 FAULT (section 11.2,
12.5). -/
def eventKindTable : List (EventKind × Nat) :=
  [(.halted, 0), (.trip, 1), (.lockout, 2), (.alarmAssert, 1), (.alarmClear, 0), (.powerBridging, 0), (.powerSpent, 1),
    (.powerSupplied, 0), (.smokeDry, 1), (.fluidLow, 0), (.cueRefused, 0), (.bankReady, 0), (.bankFaulty, 1),
    (.radioSilent, 1), (.radioRestored, 0), (.inboxDropped, 0), (.quiesceForced, 1), (.resetDone, 0)]

/-- The control words hold what R159 says, by 12.3. -/
def State.ControlsRead (s : State) : Prop :=
  s.hostNum16 0x00 = 0x4A10 ∧ s.hostNum 0x02 = 1 ∧
    s.hostNum 0x03 = [.starting, .run, .quiescing, .quiet, .resetting].idxOf s.part ∧
    s.hostNum32 0x04 = s.time % 4294967296 ∧
    (∀ n, n < 16 → (s.hostNum16 0x08).testBit n = s.attention.pending.toList.getD n false) ∧
    s.hostNum 0x0A = 0 ∧ s.hostNum 0x0B = 0 ∧ s.storeByte 0x0C = s.command ∧
    s.hostNum 0x0D = (match s.commandResult with
      | .none => 0
      | .accepted => 1
      | .refused => 3) ∧
    s.hostNum16 0x0E = 0

/-- The cue slots read by the offsets of 12.5. -/
def State.CueSlotsRead (s : State) : Prop :=
  ∀ n : Fin 8,
    let i : Nat := 0x0500 + 8 * n.val
    let c := s.cueSlots[n]
    s.hostNum i = [.empty, .posted, .taken, .done, .refused].idxOf c.state ∧ s.storeByte (i + 1) = c.cue ∧
      s.storeByte (i + 2) = c.action ∧ s.storeByte (i + 3) = c.gain ∧
      s.hostNum (i + 4) = [.none, .ok, .noBank, .noCue, .noVoice, .badAction].idxOf c.result ∧
      ∀ j, 5 ≤ j → j < 8 → s.hostNum (i + j) = 0

/-- The event records read by the offsets of 12.5; a record that has no kind, as a reset leaves it, reads 0 there. -/
def State.EventListReads (s : State) : Prop :=
  ∀ n : Fin 24,
    let i : Nat := 0x0C00 + 16 * n.val
    let e := s.events[n]
    s.hostNum i = (if e.filled then 1 else 0) ∧ (e.kind = none → s.hostNum (i + 1) = 0) ∧
      (∀ (c : Nat) (x : EventKind × Nat), eventKindTable[c]? = some x → e.kind = some x.1 →
        s.hostNum (i + 1) = (c + 1) + 64 * x.2) ∧
      s.storeByte (i + 2) = e.subject ∧ s.hostNum (i + 3) = e.repeats % 256 ∧
      s.hostNum16 (i + 4) = e.seq.toNat ∧ s.hostNum16 (i + 6) = e.detail.toNat ∧
      s.hostNum32 (i + 8) = e.first.toNat ∧ s.hostNum32 (i + 12) = e.last.toNat

/-- The inbound records read by the offsets of 12.5: the bytes behind the payload, and those behind its 11 places,
read 0 (section 9.4). -/
def State.InboundListReads (s : State) : Prop :=
  ∀ n : Fin 8,
    let i : Nat := 0x0E00 + 24 * n.val
    let r := s.inbound[n]
    s.hostNum i = (if r.filled then 1 else 0) ∧ s.storeByte (i + 1) = r.seq ∧ s.storeByte (i + 2) = r.sender ∧
      s.storeByte (i + 3) = r.counter ∧ s.storeByte (i + 4) = r.command ∧
      s.hostNum (i + 5) = [.primary, .consist, .broadcast].idxOf r.via ∧
      s.hostNum (i + 6) = r.payload.length % 256 ∧
      (∀ j, j < 11 → s.storeByte (i + 7 + j) = r.payload.getD j 0#8) ∧
      ∀ j, 18 ≤ j → j < 24 → s.hostNum (i + j) = 0

/-- What the host reads at each address of the store: the control words, cue slots, event records and inbound records
by their layouts, and the store's own bytes elsewhere (12.2, 12.3, 12.5). -/
def State.StoreReads (s : State) : Prop :=
  s.ControlsRead ∧ s.CueSlotsRead ∧ s.EventListReads ∧ s.InboundListReads ∧
    ∀ a, 0x10 ≤ a → a < 0x0500 ∨ 0x0540 ≤ a → a < 0x0C00 ∨ 0x0D80 ≤ a → a < 0x0E00 ∨ 0x0EC0 ≤ a →
      s.storeByte a = s.storeAt a

/-! ### Sections -/

/-- The command that ends a visit to a section. -/
def adoptCommand (order : Nat) : Fin 15 → Instr
  | 0 => .adoptDriveProfile
  | 1 => .adoptSpeedTable
  | 2 => .adoptMeasureProfile
  | 3 => .adoptPowerProfile order
  | 4 => .adoptCadenceProfile
  | 5 => .adoptSmokeProfile
  | 6 => .adoptLampProfile
  | 7 => .adoptSoundProfile
  | 8 => .adoptRadioProfile
  | 9 => .adoptFunctionMap
  | 10 => .adoptDriveDirective
  | 11 => .adoptSmokeDirective
  | 12 => .adoptLampDirective
  | 13 => .adoptSoundDirective
  | 14 => .adoptFunctionDirective

/-- What the validation of a section's body finds, field by field. -/
def sectionFindings (k : Fin 15) (b : List Byte) : List Finding :=
  match k with
  | 0 => (readDriveProfile b).2
  | 1 => (readSpeedTable b).2
  | 2 => (readMeasureProfile b).2
  | 3 => (readPowerProfile b).2
  | 4 => (readCadenceProfile b).2
  | 5 => (readSmokeProfile b).2
  | 6 => (readLampProfile b).2
  | 7 => (readSoundProfile b).2
  | 8 => (readRadioProfile b).2
  | 9 => (readFunctionMap b).2
  | 10 => (readDriveDirective b).2
  | 11 => (readSmokeDirective b).2
  | 12 => (readLampDirective b).2
  | 13 => (readSoundDirective b).2
  | 14 => (readFunctionDirective b).2

/-- A visit to section `k`, not yet answered, whose copy is whole and whose validation does not refuse it, with the body
copied: the hand-over is taken (R163, R164). -/
def State.HandsOver (s : State) (k : Fin 15) (body : List Byte) : Prop :=
  ∃ v, s.adoption.visit = some v ∧ v.section_ = k ∧ v.verdict = none ∧ s.isTorn v = false ∧
    s.copiedBody v = body ∧ firstRefusal (sectionFindings k body) = none

/-- No quiesce is in progress, or it still waits for the sequencer, or for a voice that the hand-over of section `k`
cannot make FREE, so that the end of a visit cannot end it (R167). -/
abbrev State.QuiesceOpenForVisit (s : State) (k : Fin 15) : Prop :=
  s.part = .quiescing →
    s.acks.sequencer = false ∨ s.acks.sound = false ∧ s.sound.anyBusy = true ∧ k ≠ 13 ∧ k ≠ 14

/-- The quiesce of `s` has ended with its last acknowledgement: the deadline is stopped, and `t` is QUIET with its
outputs off and PART_STATE raised, or RESETTING where the reset mark was set (R167). -/
def State.QuiesceEnded (s t : State) : Prop :=
  t.deadline = .stopped ∧ t.acks = .none ∧ t.resetMark = false ∧
    (s.resetMark = false →
      t.part = .quiet ∧ t.bridgeMode = .coast ∧
        (∀ c : Channel, t.appliedDuty c = 0 ∧ (t.drive.channels.get c).pwm = 0) ∧
        t.smoke.fan = 0 ∧ t.smoke.fanPwm = 0 ∧
        (∀ k : Fin 8, t.lamps.lamps[k].duty = 0 ∧ t.lamps.lamps[k].pwm = 0) ∧
        t.attention.pending[(11 : Fin 12)] = true) ∧
    (s.resetMark = true →
      t.part = .resetting ∧ t.time = 0 ∧ (∀ n : Fin 24, t.events[n] = .zero) ∧ t.attention.asserted = false)

/-! ### The fields of the sections (12.4) -/

/-- What the owner's rule asks of one numbered field. -/
inductive FieldRule
  /-- Any value, or a field that is not read. -/
  | any
  | number (value lo hi : Int)
  /-- A code from 0 to `listed` - 1. -/
  | code (value listed : Nat)
  /-- A routing code, of which those in `clamped` are clamped (R145). -/
  | routing (value : Nat) (clamped : List Nat)
  | partner (allowed : Bool)
  deriving DecidableEq, Repr

/-- The finding that a field's value brings (R164). -/
def FieldRule.finding : FieldRule → Finding
  | .any => .fine
  | .number v lo hi => if lo ≤ v ∧ v ≤ hi then .fine else .clamped
  | .code v n => if v < n then .fine else .unknownCode
  | .routing v clamped => if 3 < v then .unknownCode else if v ∈ clamped then .clamped else .fine
  | .partner allowed => if allowed then .fine else .badPartner

/-- The numbered fields of a section's body `b`, in 12.4's order, with the ranges and codes of the owners' rules. A
body's first byte is the section's offset 4. -/
def sectionRules (k : Fin 15) (b : List Byte) : List FieldRule :=
  let n8 (i lo hi : Nat) : FieldRule := .number (u8At b i) lo hi
  let n16 (i lo hi : Nat) : FieldRule := .number (u16At b i) lo hi
  let s8 (i : Nat) (lo hi : Int) : FieldRule := .number (s8At b i) lo hi
  let code (i listed : Nat) : FieldRule := .code (u8At b i) listed
  let flag (i : Nat) : FieldRule := .code (u8At b i) 2
  let route (i : Nat) (clamped : List Nat) : FieldRule := .routing (u8At b i) clamped
  match k with
  | 0 => [n8 0 1 255, n8 1 1 255, n8 2 1 255, n8 3 1 255, code 4 3, .any, s8 6 (-64) 63, flag 7, .any, s8 9 (-64) 63,
      flag 10, n8 11 0 63, n8 12 0 63, n16 13 0 1023, .any, .any, n8 17 10 255, n8 18 10 255, n8 19 0 7,
      n8 20 10 255, flag 21]
  | 1 => (List.range 16).map fun j => n16 (2 * j) 0 1023
  | 2 => n8 0 2 255 :: flag 1 :: (List.range 12).flatMap fun j =>
      let i := 2 + 15 * j
      [flag i, if j = 5 ∨ j = 6 then .any else n8 (i + 1) 1 16, n16 (i + 2) 0 4095, n16 (i + 4) 0 4095,
        n8 (i + 6) 0 15, n8 (i + 7) 0 127, code (i + 8) 4, code (i + 9) 4, code (i + 10) 3, code (i + 11) 3,
        flag (i + 12), n16 (i + 13) 0 4095]
  | 3 => [.any, n16 1 0 1023, n16 3 0 256, n16 5 0 256, n16 7 0 4095]
  | 4 => [code 0 3, n8 1 1 50, n8 2 1 8, n16 3 1 65535]
  | 5 => [n16 0 100 300, n8 2 1 64, .any, n8 4 1 255, n8 5 0 80, .any, .any, n8 8 10 250, .any, .any, .any]
  | 6 => (List.range 8).flatMap fun j =>
      let i := 8 * j
      [code i 5, .any, code (i + 2) 3, .any, n8 (i + 4) 1 255, n8 (i + 5) 1 255,
        if u8At b i = 4 then .any else code (i + 6) 2,
        if u8At b i = 2 then .partner (u8At b (i + 7) < 8 ∧ u8At b (i + 7) ≠ j) else .any]
  | 7 => [flag 0]
  | 8 => [n16 0 1 9999, n16 2 0 9999, flag 4, route 5 [], route 6 [0, 2], route 7 [], route 8 [], route 9 [],
      route 10 [], route 11 [1, 3], .any, code 13 3, flag 14]
  | 9 => (List.range 32).flatMap fun j => [.any, flag (3 * j + 1), n8 (3 * j + 2) 0 63]
  | 10 => [flag 0, n16 1 0 (if u8At b 0 = 1 then 120 else 1023), flag 3, flag 4]
  | 11 => [code 0 3, flag 1]
  | 12 => (List.range 8).map fun j => code j 3
  | 13 => [flag 0, .any]
  | 14 => [.any, .any]

/-! ### Invariants -/

/-- The store and the flash are in canonical form. -/
abbrev State.MemoryCanonical (s : State) : Prop :=
  Memory.WellFormed 0#8 s.store ∧ Memory.WellFormed 0xFF#8 s.flash

/-- ATTN is asserted exactly when a source is pending, unmasked and within the threshold (R171). -/
abbrev State.AttnExact (s : State) : Prop := s.attention.asserted = s.attnLevel

/-- The event list holds no two FILLED records of one kind and subject or of one seq, and at most 20 FILLED
records of severity NOTICE or WARNING (R172). -/
abbrev State.EventListSound (s : State) : Prop :=
  (∀ i j : Fin 24, s.events[i].filled → s.events[j].filled →
    (s.events[i].kind = s.events[j].kind ∧ s.events[i].subject = s.events[j].subject) ∨
      s.events[i].seq = s.events[j].seq → i = j) ∧
    (∀ i : Fin 24, s.events[i].filled → s.events[i].kind.isSome) ∧
    s.events.toList.countP EventRecord.capped ≤ 20

/-- The recent-senders table holds at most 8 entries, of distinct senders (R143). -/
abbrev State.SendersSound (s : State) : Prop :=
  s.radio.senders.length ≤ 8 ∧ (s.radio.senders.map (·.sender)).Nodup

/-- No two FILLED inbound records share a seq (R147). -/
abbrev State.InboundSound (s : State) : Prop :=
  ∀ i j : Fin 8, s.inbound[i].filled → s.inbound[j].filled → s.inbound[i].seq = s.inbound[j].seq → i = j

/-- The nudge list holds up to four distinct indices (R162). -/
abbrev State.NudgesSound (s : State) : Prop :=
  s.adoption.nudges.length ≤ 4 ∧ s.adoption.nudges.Nodup

/-- The count a bridge is driven for never exceeds the applied duty: a fall takes effect at once (R19). -/
abbrev State.BridgeLatched (s : State) : Prop :=
  ∀ c : Channel, (s.drive.channels.get c).pwm ≤ s.appliedDuty c

/-- R = 0 in HALTED, TRIPPED and LOCKED, at BRAKE and RELEASE, and in SPENT (R8). -/
abbrev State.RampHeld (s : State) : Prop :=
  s.drive.state.stopped ∨ s.drive.level.holds ∨ s.power.state = .spent → s.drive.ramp = 0

/-- Each channel's C is R14's of the ramp and the trim, a channel whose C is 0 has no integral and no correction
(R16), and D is R18's of C, the correction and the ceiling. -/
abbrev State.DutyFormed (s : State) : Prop :=
  ∀ c : Channel,
    (s.drive.channels.get c).command = trimCommand (s.drive.profile.trim.get c) s.drive.ramp ∧
      ((s.drive.channels.get c).command = 0 →
        (s.drive.channels.get c).integral = 0 ∧ (s.drive.channels.get c).correction = 0) ∧
      (s.drive.channels.get c).duty =
        s.computedDuty (s.drive.channels.get c).command (s.drive.channels.get c).correction

/-- The stepping direction points from R to T, the interval timer runs exactly while it points anywhere, and in
mode OFF R is T (R9, R12). Before a first entry to RUN and after a reset no visit is in progress and no speed is
asked for. -/
abbrev State.RampFollows (s : State) : Prop :=
  s.drive.stepDir = stepDirection s.drive.ramp s.effectiveTarget ∧
    s.drive.rampTimer.isRunning = (s.drive.stepDir != .none) ∧
    (s.drive.profile.momentum = .off → s.drive.ramp = s.effectiveTarget) ∧
    (s.part = .starting ∨ s.part = .resetting → s.adoption.visit = none ∧ s.drive.target.magnitude = 0)

/-- The source in force is R83's of the source mode and the cam state. -/
abbrev State.SourceSettled (s : State) : Prop :=
  s.cadence.source = settledSource s.cadence.profile.mode s.cadence.cam

/-- The four receivers stand by the power state `p` of `t`: the drive's duties are R18's, the lamp factor and the
sound attenuation are R71's, and the smoke unit holds its power hold cause exactly outside SUPPLIED. -/
def State.PowerPublished (t : State) : Prop :=
  t.lamps.factor = (match t.power.state with
    | .supplied => 256
    | .bridging => t.power.profile.dim
    | .spent => 0) ∧
  t.sound.attenuation = (match t.power.state with
    | .supplied => 256
    | .bridging => t.power.profile.attenuation
    | .spent => 0) ∧
  (t.smoke.powerHold = true ↔ t.power.state ≠ .supplied) ∧ t.DutyFormed ∧
  (t.power.state = .bridging → ∀ c : Channel, (t.drive.channels.get c).duty ≤ t.power.profile.ceiling)

/-- The heater is driven only in WARMING, READY and IDLING, and the smoke unit is in none of them while a hold cause
is in force (R92). -/
abbrev State.HeaterGuarded (s : State) : Prop :=
  (s.smoke.heater ≠ 0 → s.smoke.state.heating = true) ∧ (s.smoke.state.heating = true → s.smoke.held = false) ∧
    s.smoke.heaterPwm ≤ s.smoke.heater

/-- No two voices that are not FREE play one cue, and the start order list holds each voice that is not FREE once and
no other (R115, R122, R125). -/
abbrev State.VoicesSound (s : State) : Prop :=
  (∀ v w : Fin 6, s.sound.voices[v].busy = true → s.sound.voices[w].busy = true →
    s.sound.voices[v].cue = s.sound.voices[w].cue → v = w) ∧
    s.sound.order.Nodup ∧ ∀ v : Fin 6, v ∈ s.sound.order ↔ s.sound.voices[v].busy = true

end Sys2Proof.Machine
end

