-- ==== Sys2Proof/Certificates/Slice0/Obligations.lean ====
section
/-! DEFINITION. The statements for the provers, by chapter of the manual. A frame names the components of the
state a command may change; every other component is as it was. -/

open Sys2Proof Sys2Proof.Machine

/-! ### Drive computation (chapter 1) -/

/-- R2: a step of 0 gives 0 and a step of 120 gives P15; any other step 8k + f gives Pk and f eighths of the way to
the next point, the part added or taken away rounded down, so that the result lies between the two points. -/
def Obligations.StepConversionInterpolates : Prop :=
  ∀ (p : SpeedTable) (k : Fin 15) (f : Nat), f < 8 →
    stepToDu p 0 = 0 ∧ stepToDu p 120 = p[15] ∧
      (0 < 8 * k.val + f →
        (p[k.val] ≤ p[k.val + 1] →
          stepToDu p (8 * k.val + f) = p[k.val] + (p[k.val + 1] - p[k.val]) * f / 8 ∧
            stepToDu p (8 * k.val + f) ≤ p[k.val + 1]) ∧
        (p[k.val + 1] ≤ p[k.val] →
          stepToDu p (8 * k.val + f) = p[k.val] - (p[k.val] - p[k.val + 1]) * f / 8 ∧
            p[k.val + 1] ≤ stepToDu p (8 * k.val + f)))

/-- R14, R18: the command and the duty of a channel, in whole numbers: nothing while the channel is disabled or V is
0, otherwise the gained V with the offset added, both clamped to 0 to 1023; and while BRIDGING no more than the
ceiling. -/
def Obligations.CommandAndDutyArithmetic : Prop :=
  ∀ (s : State) (t : Trim) (ramp command : Nat) (correction : Int),
    (t.enabled = false ∨ ramp < 16 → trimCommand t ramp = 0) ∧
      (t.enabled = true → 16 ≤ ramp →
        (trimCommand t ramp : Int) =
          max 0 (min 1023 (((ramp / 16 * (128 + t.gain) / 256 : Nat) : Int) + t.offset))) ∧
      (s.power.state ≠ .bridging →
        (s.computedDuty command correction : Int) = max 0 (min 1023 (command + correction))) ∧
      (s.power.state = .bridging →
        (s.computedDuty command correction : Int) =
          min (max 0 (min 1023 (command + correction))) s.power.profile.ceiling)

/-- R8 to R11, R14, R18, R20: RAMP_STEP moves R toward the T in force by Sa or Sd in LINEAR and by the eased size in
EASED, never past T; C and D follow R, and the cadence unit holds the new V. While R stays above 0 the drive state
and the direction in force stay, and the timer runs on exactly while R still differs from T. -/
def Obligations.RampStepMovesTowardTarget : Prop :=
  ∀ s : State, s.drive.rampTimer.isRunning = true → s.drive.profile.momentum ≠ .off → s.QuiesceOpen →
    ∃ t, exec .rampStep s = .next t ∧
      (s.drive.profile.momentum = .linear →
        (s.drive.ramp ≤ s.effectiveTarget →
          t.drive.ramp = min s.effectiveTarget (s.drive.ramp + s.drive.profile.accelStep)) ∧
        (s.effectiveTarget ≤ s.drive.ramp →
          t.drive.ramp = max s.effectiveTarget (s.drive.ramp - s.drive.profile.decelStep))) ∧
      (s.drive.profile.momentum = .eased →
        (s.drive.ramp ≤ s.effectiveTarget →
          t.drive.ramp = min s.effectiveTarget (s.drive.ramp +
            max 1 (s.drive.profile.accelStep * min (s.effectiveTarget - s.drive.ramp) 1024 / 1024))) ∧
        (s.effectiveTarget ≤ s.drive.ramp →
          t.drive.ramp = max s.effectiveTarget (s.drive.ramp -
            max 1 (s.drive.profile.decelStep * min (s.drive.ramp - s.effectiveTarget) 1024 / 1024)))) ∧
      t.DutyFormed ∧ t.cadence.heldV = t.drive.ramp / 16 ∧ t.drive.target = s.drive.target ∧
      s.drive.SameSettings t.drive ∧
      (t.drive.ramp ≠ 0 →
        t.drive.state = s.drive.state ∧ t.drive.direction = s.drive.direction ∧
        (t.drive.ramp < s.effectiveTarget →
          t.drive.stepDir = .up ∧
            t.drive.rampTimer = .running (millis s.time + millis s.drive.profile.accelInterval)) ∧
        (s.effectiveTarget < t.drive.ramp →
          t.drive.stepDir = .down ∧
            t.drive.rampTimer = .running (millis s.time + millis s.drive.profile.decelInterval)) ∧
        (t.drive.ramp = s.effectiveTarget → t.drive.stepDir = .none ∧ t.drive.rampTimer = .stopped)) ∧
      s.SameExcept t [.drive, .cadence, .smoke, .lamps, .sound, .store, .events, .eventSeq, .attention, .acks]

/-- R24, R25, R28: a RAMP_STEP that brings R to 0 ends a reversal, the direction in force taking the target's, and
turns a RUNNING drive that is asked for no speed IDLE; it leaves any other drive as it is. -/
def Obligations.RampReachingZeroEndsReversalOrRun : Prop :=
  ∀ s : State, s.drive.rampTimer.isRunning = true → s.drive.profile.momentum ≠ .off → s.QuiesceOpen →
    rampStepFrom s.drive.profile s.drive.ramp s.effectiveTarget = 0 →
    ∃ t, exec .rampStep s = .next t ∧ t.drive.ramp = 0 ∧
      (s.drive.state = .reversing →
        t.drive.direction = s.drive.target.direction ∧
          t.drive.state = (if s.drive.target.magnitude = 0 then .idle else .running) ∧
          ∀ c : Channel, (t.drive.channels.get c).integral = 0 ∧ (t.drive.channels.get c).correction = 0) ∧
      (s.drive.state = .running →
        t.drive.direction = s.drive.direction ∧
          t.drive.state = (if s.drive.target.magnitude = 0 then .idle else .running)) ∧
      (s.drive.state ≠ .reversing → s.drive.state ≠ .running →
        t.drive.direction = s.drive.direction ∧ t.drive.state = s.drive.state) ∧
      t.drive.target = s.drive.target ∧ s.drive.SameSettings t.drive

/-! ### Drive states and protection (chapter 2) -/

/-- R6, R12, R24 to R28, R30, R34: what a target write stores and which state it leaves, in each drive state. Under a
momentum other than OFF R itself does not move; under OFF a reversal is over at once. -/
def Obligations.TargetWriteByDriveState : Prop :=
  ∀ (s : State) (m : Nat) (dir : Direction) (src : Source),
    let t := s.writeTarget m dir src
    let off := s.drive.profile.momentum = .off
    (s.drive.state = .halted → 0 < m → t = s) ∧
      (¬ (s.drive.state = .halted ∧ 0 < m) → t.drive.target = ⟨m, dir, src⟩) ∧
      (s.drive.state = .tripped ∨ s.drive.state = .locked ∧ 0 < m →
        t = s.withDrive { s.drive with target := ⟨m, dir, src⟩ }) ∧
      (s.drive.state = .halted ∨ s.drive.state = .locked → m = 0 →
        t.drive.state = .idle ∧ t.drive.direction = dir ∧ (¬ off → t.attention = (s.raise .drive).attention) ∧
          t.drive.tripCount = (if s.drive.state = .locked then 0 else s.drive.tripCount) ∧
          t.drive.forgiveTimer =
            (if s.drive.state = .halted ∧ 0 < s.drive.tripCount
              then .running (millis s.time + hundredMillis s.drive.profile.forgive)
              else s.drive.forgiveTimer)) ∧
      (s.drive.state = .idle →
        t.drive.direction = dir ∧ t.drive.state = (if m = 0 then .idle else .running)) ∧
      (s.drive.state = .running → s.drive.ramp = 0 →
        t.drive.direction = dir ∧ t.drive.state = (if m = 0 then .idle else .running)) ∧
      (s.drive.state = .running ∨ s.drive.state = .reversing → s.drive.ramp ≠ 0 → ¬ off →
        t.drive.direction = s.drive.direction ∧
          t.drive.state = (if dir = s.drive.direction then .running else .reversing)) ∧
      (s.drive.state = .running ∨ s.drive.state = .reversing → s.drive.ramp ≠ 0 → off →
        dir ≠ s.drive.direction →
        t.drive.direction = dir ∧ t.drive.state = (if m = 0 then .idle else .running)) ∧
      t.drive.haltSource = s.drive.haltSource ∧
      (¬ off → t.drive.ramp = s.drive.ramp ∧ t.events = s.events ∧
        s.SameExcept t [.drive, .cadence, .smoke, .lamps, .store, .attention]) ∧
      s.SameExcept t [.drive, .cadence, .smoke, .lamps, .sound, .store, .events, .eventSeq, .attention]

/-- R29, R44, R166: COMMAND HALT in RUN and QUIESCING stops a drive that is not HALTED or LOCKED: the magnitude asked
for and R become 0, the bridges brake, the retry and forgive timers stop, the trip count and the direction stand, an
open window closes, and HALTED and DRIVE are raised. A HALTED or LOCKED drive is left as it is. -/
def Obligations.HostHaltStopsTheDrive : Prop :=
  ∀ s : State, s.command = 1#8 → s.part = .run ∨ s.part = .quiescing → s.QuiesceOpen →
    ∃ t, exec .commandHalt s = .next t ∧ t.command = 0#8 ∧ t.commandResult = .accepted ∧
      (s.drive.state ≠ .halted → s.drive.state ≠ .locked →
        t.drive.state = .halted ∧ t.drive.haltSource = .host ∧
          t.drive.target = ⟨0, s.drive.target.direction, s.drive.target.source⟩ ∧
          t.drive.direction = s.drive.direction ∧ t.drive.tripCount = s.drive.tripCount ∧
          t.drive.retryTimer = .stopped ∧ t.drive.forgiveTimer = .stopped ∧
          s.drive.AtRest t.drive ∧ s.drive.WindowShut t.drive ∧ s.drive.SameSettings t.drive ∧
          t.bridgeMode = .brake ∧ t.cadence.heldV = 0 ∧
          t.EventsAs ((s.raise .drive).event .halted 1#8 0#16) ∧
          s.SameExcept t [.command, .commandResult, .drive, .cadence, .smoke, .lamps, .store, .events, .eventSeq,
            .attention, .acks]) ∧
      (s.drive.state = .halted ∨ s.drive.state = .locked →
        s.SameExcept t [.command, .commandResult, .acks]) ∧
      (s.part = .run → t.acks = s.acks)

/-- R31, R44: TRIP in IDLE, RUNNING and REVERSING raises the trip count and brings the drive to rest in TRIPPED, with
the retry timer started, or in LOCKED when the count passes the retry limit; TRIP, with LOCKOUT before or behind it
as `order` names, and DRIVE are raised, and the bridges coast. In the other drive states, and in QUIET and RESETTING,
only the level of the SHORT line that the readings report changes. A TRIP in STARTING is taken by the model's reading
(log entry 26), and so are the SHORT levels: the tripped line is asserted, and the other may since have been released
(log entry 11). -/
def Obligations.TripStopsOrLocksTheDrive : Prop :=
  ∀ (s : State) (c : Channel) (order : Nat), order < 2 →
    let count := s.drive.tripCount + 1
    let subject : Byte := match c with
      | .a => 0#8
      | .b => 1#8
    let detail := BitVec.ofNat 16 count
    let seen : Drive := match c with
      | .a => { s.drive with shortA := true }
      | .b => { s.drive with shortB := true }
    (s.drive.state = .idle ∨ s.drive.state = .running ∨ s.drive.state = .reversing →
      s.part ≠ .quiet → s.part ≠ .resetting → s.QuiesceOpen →
      ∃ t, exec (.trip c order) s = .next t ∧ t.drive.tripCount = count ∧
        (count ≤ s.drive.profile.retryLimit →
          t.drive.state = .tripped ∧
            t.drive.retryTimer = .running (millis s.time + tenMillis s.drive.profile.retryDelay) ∧
            t.EventsAs ((s.raise .drive).event .trip subject detail)) ∧
        (s.drive.profile.retryLimit < count →
          t.drive.state = .locked ∧ t.drive.retryTimer = s.drive.retryTimer ∧
            (order = 0 →
              t.EventsAs (((s.raise .drive).event .trip subject detail).event .lockout subject detail)) ∧
            (order = 1 →
              t.EventsAs (((s.raise .drive).event .lockout subject detail).event .trip subject detail))) ∧
        t.drive.target = s.drive.target ∧ t.drive.direction = s.drive.direction ∧
        t.drive.forgiveTimer = .stopped ∧ t.drive.haltSource = s.drive.haltSource ∧
        (c = .a → t.drive.shortA = true ∧ (t.drive.shortB = true → s.drive.shortB = true)) ∧
        (c = .b → t.drive.shortB = true ∧ (t.drive.shortA = true → s.drive.shortA = true)) ∧
        s.drive.AtRest t.drive ∧ s.drive.WindowShut t.drive ∧ s.drive.SameSettings t.drive ∧
        t.bridgeMode = .coast ∧ t.cadence.heldV = 0 ∧
        s.SameExcept t [.drive, .cadence, .smoke, .lamps, .store, .events, .eventSeq, .attention, .acks]) ∧
    (s.drive.state = .halted ∨ s.drive.state = .tripped ∨ s.drive.state = .locked ∨ s.part = .quiet ∨
        s.part = .resetting → s.QuiesceUnfinished →
      ∃ t, exec (.trip c order) s = .next t ∧ t.drive = seen ∧ (s.part ≠ .quiescing → t.acks = s.acks) ∧
        s.SameExcept t [.drive, .acks])

/-- R24, R32, R33: RETRY_TIMER_EXPIRY takes the drive from TRIPPED to RUNNING, or to IDLE where no speed is asked for,
in the stored target's direction; the forgive timer starts, and DRIVE is raised. FORGIVE_TIMER_EXPIRY sets the trip
count to 0 and changes nothing else. -/
def Obligations.RetryAndForgiveTimers : Prop :=
  ∀ s : State,
    (s.drive.retryTimer.isRunning = true → s.drive.state = .tripped → s.drive.tripCount ≠ 0 → s.RampHeld →
      s.RampFollows →
      ∃ t, exec .retryTimerExpiry s = .next t ∧
        t.drive.state = (if s.drive.target.magnitude = 0 then .idle else .running) ∧
        t.drive.direction = s.drive.target.direction ∧ t.drive.target = s.drive.target ∧
        t.drive.retryTimer = .stopped ∧ t.drive.tripCount = s.drive.tripCount ∧
        t.drive.forgiveTimer = .running (millis s.time + hundredMillis s.drive.profile.forgive) ∧
        s.drive.SameSettings t.drive ∧
        (s.drive.profile.momentum = .off → t.drive.ramp = t.effectiveTarget) ∧
        (s.drive.profile.momentum ≠ .off →
          t.drive.ramp = 0 ∧ t.drive.stepDir = stepDirection 0 t.effectiveTarget ∧
          (0 < t.effectiveTarget →
            t.drive.rampTimer = .running (millis s.time + millis s.drive.profile.accelInterval)) ∧
          t.EventsAs (s.raise .drive) ∧
          s.SameExcept t [.drive, .cadence, .smoke, .lamps, .store, .attention]) ∧
        s.SameExcept t [.drive, .cadence, .smoke, .lamps, .sound, .store, .events, .eventSeq, .attention]) ∧
    (s.drive.forgiveTimer.isRunning = true →
      exec .forgiveTimerExpiry s =
        .next { s with drive := { s.drive with tripCount := 0, forgiveTimer := .stopped } })

/-- R8, R35, R36, R40: no cause's action is above the protection level, which is one cause's action or NONE. Its hand-off
to the drive stores the level and the causes that contribute. A rise to BRAKE or RELEASE brings R, the integrals and
the corrections to 0, closes an open window and ends a reversal; any other change leaves R where it is under a
momentum other than OFF. -/
def Obligations.ProtectionLevelActsOnTheDrive : Prop :=
  ∀ s : State,
    let t := s.recomputeProtection
    let level := s.protectionLevel
    (∀ k : SlotIx, (s.sequencer.driveAction k).code ≤ level.code) ∧
      s.radio.silenceLevel.code ≤ level.code ∧
      (level = .none ∨ level = s.radio.silenceLevel ∨ ∃ k : SlotIx, level = s.sequencer.driveAction k) ∧
      t.drive.level = level ∧
      (∀ k : SlotIx, t.drive.slotCauses[k] = (s.sequencer.driveAction k != .none)) ∧
      t.drive.silenceCause = (s.radio.silenceLevel != .none) ∧ t.drive.target = s.drive.target ∧
      (level.holds = true → s.drive.level.holds = false →
        s.drive.AtRest t.drive ∧ t.drive.window = .closed ∧
          t.drive.closedEarly =
            (if s.drive.window = .closed then s.drive.closedEarly else s.drive.closedEarly + 1#16) ∧
          (s.drive.state = .reversing →
            t.drive.direction = s.drive.target.direction ∧
              t.drive.state = (if s.drive.target.magnitude = 0 then .idle else .running))) ∧
      (s.drive.profile.momentum ≠ .off →
        (level.holds = false ∨ s.drive.level.holds = true → t.drive.ramp = s.drive.ramp) ∧
          s.SameExcept t [.drive, .cadence, .smoke, .lamps, .store]) ∧
      s.SameExcept t [.drive, .cadence, .smoke, .lamps, .sound, .store, .events, .eventSeq, .attention]

/-- R19, R38, R40, R52: the EMF window. WINDOW_PERIOD_EXPIRY opens it: SETTLING, the settle timer started, the bridges
without duty. SETTLE_TIMER_EXPIRY brings SAMPLING with the 1 ms limit, and one request with the enabled channels'
slots, A before B, joins the sequencer's list. WINDOW_LIMIT_EXPIRY closes it without update and counts it as timed
out. -/
def Obligations.EmfWindowOpensSamplesAndTimesOut : Prop :=
  ∀ s : State,
    let p := s.drive.profile
    (s.drive.periodTimer.isRunning = true →
      ∃ t, exec .windowPeriodExpiry s = .next t ∧ t.drive.window = .settling ∧
        t.drive.periodTimer = .stopped ∧ t.drive.settleTimer = .running (millis s.time + p.settle * 10) ∧
        t.drive.limitTimer = s.drive.limitTimer ∧
        (∀ c : Channel, t.appliedDuty c = 0 ∧ t.drive.channels.get c =
          { s.drive.channels.get c with pwm := 0, requested := false, reading := none }) ∧
        t.drive.ramp = s.drive.ramp ∧ t.drive.state = s.drive.state ∧ s.drive.SameSettings t.drive ∧
        s.SameExcept t [.drive]) ∧
    (s.drive.settleTimer.isRunning = true →
      ∃ t, exec .settleTimerExpiry s = .next t ∧ t.drive.window = .sampling ∧ t.drive.settleTimer = .stopped ∧
        t.drive.limitTimer = .running (millis s.time + 1000) ∧
        (∀ c : Channel, t.drive.channels.get c =
          { s.drive.channels.get c with requested := (p.trim.get c).enabled }) ∧
        t.sequencer = { s.sequencer with
          requests := s.sequencer.requests ++
            [⟨s.drive.windowId,
              (if p.trim.a.enabled then [slotEmfA] else []) ++ (if p.trim.b.enabled then [slotEmfB] else [])⟩] } ∧
        t.drive.ramp = s.drive.ramp ∧ t.drive.state = s.drive.state ∧ s.drive.SameSettings t.drive ∧
        s.SameExcept t [.drive, .sequencer]) ∧
    (s.drive.limitTimer.isRunning = true →
      ∃ t, exec .windowLimitExpiry s = .next t ∧ t.drive.window = .closed ∧
        t.drive.settleTimer = .stopped ∧ t.drive.limitTimer = .stopped ∧
        t.drive.timedOut = s.drive.timedOut + 1#16 ∧ t.drive.completed = s.drive.completed ∧
        t.drive.closedEarly = s.drive.closedEarly ∧
        (∀ c : Channel, t.drive.channels.get c =
          { s.drive.channels.get c with
            requested := false, reading := none, pwm := (t.drive.channels.get c).pwm }) ∧
        t.drive.ramp = s.drive.ramp ∧ t.drive.state = s.drive.state ∧
        (t.drive.periodTimer.isRunning = true ↔
          s.drive.state = .running ∧ 0 < s.drive.ramp ∧ 0 < p.emfPeriod ∧
            (p.trim.a.enabled = true ∨ p.trim.b.enabled = true) ∧ s.power.state ≠ .spent ∧ s.part = .run) ∧
        s.SameExcept t [.drive])

/-! ### Measurement sequencer and limit alarms (chapter 3) -/

/-- R47, R48, R52, R53, R63: SCAN_TIMER_EXPIRY starts the timer again. With neither a pass nor a request in progress a
pass begins: its set holds, in slot order, the enabled free-running slots whose divisor divides the pass counter, and
the first of them begins to convert; otherwise the pass is deferred. DEFERRED_PASS_START begins it when nothing is in
progress, and a pass with an empty set ends at once with the readings. EMF_REQUEST_SERVE begins the first slot that
the head of the list names and the profile enables. That DEFERRED_PASS_START and EMF_REQUEST_SERVE leave the state as
it is where their circumstances do not hold, and that a deferred pass waits for a waiting request, are the model's
choices (log entries 6 and 47). -/
def Obligations.PassesAndRequestsBegin : Prop :=
  ∀ (s : State) (order : Nat), order < handOffOrders →
    let q := s.sequencer
    let timer := Timer.running (millis s.time + millis q.profile.scanPeriod)
    let free := q.pass = none ∧ q.requests = [] ∧ q.inFlight = none
    let due (j : SlotIx) : Prop := j ≠ 5 ∧ j ≠ 6 ∧ q.profile.slots[j].enabled = true ∧
      q.passCounter.toNat % q.profile.slots[j].divisor = 0
    (q.scanTimer.isRunning = true → ¬ free →
      exec (.scanTimerExpiry order) s =
        .next { s with sequencer := { q with scanTimer := timer, passDeferred := true } }) ∧
    (q.scanTimer.isRunning = true → free → s.QuiesceUnfinished → ∀ (k : SlotIx) (ks : List SlotIx),
      (k :: ks).Pairwise (· < ·) → (∀ j : SlotIx, j ∈ k :: ks ↔ due j) →
      ∃ t, exec (.scanTimerExpiry order) s = .next t ∧
        t.sequencer = { q with
          scanTimer := timer, passDeferred := false, pass := some ks, inFlight := some ⟨k, none⟩ } ∧
        s.SameExcept t [.sequencer, .acks]) ∧
    (q.scanTimer.isRunning = true → free → s.QuiesceUnfinished → q.waiting = none → (∀ j : SlotIx, ¬ due j) →
      ∃ t, exec (.scanTimerExpiry order) s = .next t ∧
        t.sequencer = { q with
          scanTimer := timer, passDeferred := false, passCounter := q.passCounter + 1#8 } ∧
        t.SequencerGroupShows ∧ s.GroupWritten t sequencerGroup t.sequencer.groupBytes ∧
        s.SameExcept t [.sequencer, .store, .acks]) ∧
    (q.passDeferred = false ∨ ¬ free → exec (.deferredPassStart order) s = .next s) ∧
    (q.passDeferred = true → free → s.QuiesceUnfinished → ∀ (k : SlotIx) (ks : List SlotIx),
      (k :: ks).Pairwise (· < ·) → (∀ j : SlotIx, j ∈ k :: ks ↔ due j) →
      ∃ t, exec (.deferredPassStart order) s = .next t ∧
        t.sequencer = { q with passDeferred := false, pass := some ks, inFlight := some ⟨k, none⟩ } ∧
        s.SameExcept t [.sequencer, .acks]) ∧
    (q.passDeferred = true → free → s.QuiesceUnfinished → q.waiting = none → (∀ j : SlotIx, ¬ due j) →
      ∃ t, exec (.deferredPassStart order) s = .next t ∧
        t.sequencer = { q with passDeferred := false, passCounter := q.passCounter + 1#8 } ∧
        t.SequencerGroupShows ∧ s.GroupWritten t sequencerGroup t.sequencer.groupBytes ∧
        s.SameExcept t [.sequencer, .store, .acks]) ∧
    (q.requests = [] ∨ q.inFlight.isSome = true → exec .emfRequestServe s = .next s) ∧
    (∀ (w : Nat) (skipped : List SlotIx) (k : SlotIx) (ks : List SlotIx) (rs : List EmfRequest),
      q.inFlight = none → q.requests = ⟨w, skipped ++ k :: ks⟩ :: rs →
      (∀ j ∈ skipped, q.profile.slots[j].enabled = false) → q.profile.slots[k].enabled = true →
      exec .emfRequestServe s =
        .next { s with sequencer := { q with requests := ⟨w, ks⟩ :: rs, inFlight := some ⟨k, some w⟩ } })

/-- R49, R50, R51: ADC_CONVERSION_COMPLETE records the raw code of the slot in flight, forms its value (ZERO: the code
itself; others: the code less the offset, clamped, while correction is enabled; the substitute where one is
enabled), and a ZERO conversion sets the offset. The other slots keep their codes and values, and in QUIESCING
the sequencer acknowledges (R62). R57, R58: a conversion that asserts, clears or switches its alarm raises the alarm's
event, whose record nothing else of the command touches, and ALARM; the slots' contributions are then handed to the drive,
the smoke unit and the power supervisor, in whatever order `order` names, so that the protection level and its causes,
the holds and the dry slots, and the two inputs are those of the alarms as they now stand, and a slot that comes to
contribute DRY makes the smoke unit DRY. Last the value is delivered. That the hand-offs are complete before the
delivery is the model's reading (log entry 23). -/
def Obligations.ConversionFormsTheValueAndMovesTheAlarm : Prop :=
  ∀ (s : State) (raw : BitVec 12) (order : Nat) (c : Conversion),
    order < handOffOrders * handOffOrders → s.sequencer.inFlight = some c → s.QuiesceOpenElsewhere →
    let p := s.sequencer.profile.slots[c.slot]
    let offset : Int :=
      if c.slot = 0 then (if p.substitute then (p.substituteValue : Int) else (raw.toNat : Int)) - 2048
      else s.sequencer.offset
    let value : Nat :=
      if p.substitute then p.substituteValue
      else if c.slot = 0 ∨ s.sequencer.profile.correction = false then raw.toNat
      else (max 0 (min 4095 ((raw.toNat : Int) - offset))).toNat
    ∃ t, exec (.adcConversionComplete raw order) s = .next t ∧
      t.sequencer.offset = offset ∧ t.sequencer.slots[c.slot].raw = raw.toNat ∧
      t.sequencer.slots[c.slot].value = value ∧ t.sequencer.slots[c.slot].substituted = p.substitute ∧
      (∀ j : SlotIx, j ≠ c.slot →
        t.sequencer.slots[j].raw = s.sequencer.slots[j].raw ∧
          t.sequencer.slots[j].value = s.sequencer.slots[j].value ∧
          t.sequencer.slots[j].substituted = s.sequencer.slots[j].substituted) ∧
      (s.part = .quiescing → t.acks.sequencer = true) ∧ t.part = s.part ∧
      t.sequencer.scanTimer = s.sequencer.scanTimer ∧
      (s.sequencer.waiting = none →
        let x : Slot := { s.sequencer.slots[c.slot] with raw := raw.toNat, value := value, substituted := p.substitute }
        let y := x.evaluate p value
        contributionMoved x y = true →
        let u := (s.withSequencer { s.sequencer with
          offset := offset, slots := s.sequencer.slots.set c.slot y, inFlight := none }).alarmEvent c.slot x y value
        let h := u.handContributions (order % handOffOrders)
        let delivered : State :=
          if c.slot = 7 then h.heatValue value
          else if c.slot = 2 then h.storeValue value
          else match c.request with
            | none => h
            | some w => h.deliverEmf (if c.slot = 5 then .a else .b) w value
        t.sequencer.slots = s.sequencer.slots.set c.slot y ∧
          (s.part.active = true → t.attention.pending[(8 : Fin 12)] = true) ∧
          (∀ i : Fin 24, u.events[i].filled = true →
            u.events[i].kind = some .alarmAssert ∨ u.events[i].kind = some .alarmClear →
            t.events[i] = u.events[i]) ∧
          t.drive.level = t.protectionLevel ∧
          (∀ k : SlotIx, t.drive.slotCauses[k] = (t.sequencer.driveAction k != .none)) ∧
          t.power.trackLost = t.sequencer.assertedLow slotTrack ∧
          t.power.storeLow = t.sequencer.assertedLow slotStore ∧
          (∀ k : SlotIx, t.smoke.alarmHold[k] = (t.sequencer.smokeAction k == .hold) ∧
            t.smoke.alarmDry[k] = (t.sequencer.smokeAction k == .dry) ∧
            (t.sequencer.smokeAction k = .dry → s.smoke.alarmDry[k] = false → t.smoke.state = .dry)) ∧
          delivered.SameExcept t [.sequencer, .store, .acks] ∧ delivered.StoreSameOutside t 0x0840 106) ∧
      s.SameExcept t [.sequencer, .drive, .power, .cadence, .smoke, .lamps, .sound, .store, .events, .eventSeq,
        .attention, .acks]

/-- R48, R55 to R57, R73, R93: a conversion that neither asserts, clears nor switches its alarm, with no profile
pending, evaluates the alarm, delivers a HEAT value to the smoke unit and a STORE value to the charge switch, raises
nothing, and ends its pass when it was the last of it. At a HEAT value WARMING becomes READY within 10 °C of the
setpoint and READY becomes WARMING more than 30 °C below it, and the heater follows the distance to the setpoint. -/
def Obligations.QuietConversionDelivers : Prop :=
  ∀ (s : State) (raw : BitVec 12) (order : Nat) (c : Conversion),
    order < handOffOrders * handOffOrders → s.sequencer.inFlight = some c → s.sequencer.waiting = none →
    s.sequencer.requests = [] → c.request = none → s.QuiesceOpenElsewhere →
    let q := s.sequencer
    let p := q.profile.slots[c.slot]
    let value := conversionValue q.profile (q.offsetAfter c.slot raw.toNat) c.slot raw.toNat
    let x := { q.slots[c.slot] with raw := raw.toNat, value := value, substituted := p.substitute }
    contributionMoved x (x.evaluate p value) = false →
    ∃ t, exec (.adcConversionComplete raw order) s = .next t ∧
      t.sequencer.slots = q.slots.set c.slot (x.evaluate p value) ∧
      (∀ (k : SlotIx) (ks : List SlotIx), q.pass = some (k :: ks) →
        t.sequencer.pass = some ks ∧ t.sequencer.inFlight = some ⟨k, none⟩ ∧
          t.sequencer.passCounter = q.passCounter) ∧
      (q.pass = some [] →
        t.sequencer.pass = none ∧ t.sequencer.inFlight = none ∧
          t.sequencer.passCounter = q.passCounter + 1#8) ∧
      (c.slot = slotHeat →
        let u := s.smoke
        let heat := value * 400 / 4096
        let setpoint := if u.state = .idling then u.profile.setpoint - u.profile.idleDrop else u.profile.setpoint
        t.smoke.temperature = heat ∧ t.smoke.budget = u.budget ∧
          (u.state = .warming → t.smoke.state = if u.profile.setpoint ≤ heat + 10 then .ready else .warming) ∧
          (u.state = .ready → t.smoke.state = if heat + 30 < u.profile.setpoint then .warming else .ready) ∧
          (u.state = .idling → t.smoke.state = .idling) ∧
          (u.state = .warming ∨ u.state = .ready ∨ u.state = .idling →
            t.smoke.staleTimer = .running (millis s.time + 5000000) ∧ t.smoke.stale = false ∧
              (t.smoke.computed : Int) =
                max 0 (min (u.profile.heaterMax : Int) ((u.profile.gain : Int) * ((setpoint : Int) - heat))) ∧
              (s.part = .run → t.smoke.heater = t.smoke.computed) ∧
              (s.part ≠ .run → t.smoke.heater = u.heater)) ∧
          (u.state.heating = false → t.smoke = { u with temperature := heat }) ∧
          s.SameExcept t [.sequencer, .smoke, .store, .acks]) ∧
      (c.slot = slotStore →
        t.power.charge =
          (if s.power.state ≠ .supplied then s.power.charge
          else if (value : Int) < (s.power.profile.storeFull : Int) - 32 then true
          else if value < s.power.profile.storeFull then s.power.charge else false) ∧
          s.SameExcept t [.sequencer, .power, .store, .acks]) ∧
      (c.slot ≠ slotHeat → c.slot ≠ slotStore → s.SameExcept t [.sequencer, .store, .acks])

/-- R15, R16, R39, R40, R53: a reading for a window that has closed, or for an earlier one, is discarded. The last
reading that an open window waits for completes it: each requested channel still enabled takes its last EMF value,
and, where C is above 0 and no profile in force since the window opened has had a period of 0, its integral and its
correction; otherwise these stand; the window closes, counted as completed, and D is formed anew. That a channel's
enable is read at the completion alone is the model's choice (log entry 46). R49, R53: a conversion of EMF_A or EMF_B
that answers a request and moves no alarm delivers the value formed as such a reading, of channel A or B, and changes
nothing else but the sequencer and its readings. -/
def Obligations.EmfReadingIsDeliveredAndCompletesTheWindow : Prop :=
  ∀ (s : State) (c : Channel) (w value : Nat),
    (s.drive.window ≠ .sampling ∨ s.drive.windowId ≠ w ∨ (s.drive.channels.get c).requested = false →
      s.deliverEmf c w value = s) ∧
    (s.drive.window = .sampling → s.drive.windowId = w → (s.drive.channels.get c).requested = true →
      (∀ d : Channel, d ≠ c →
        (s.drive.channels.get d).requested = false ∨ (s.drive.channels.get d).reading.isSome = true) →
      let p := s.drive.profile
      let reading (d : Channel) : Nat := if d = c then value else (s.drive.channels.get d).reading.getD 0
      let t := s.deliverEmf c w value
      t.drive.window = .closed ∧ t.drive.completed = s.drive.completed + 1#16 ∧
        t.drive.closedEarly = s.drive.closedEarly ∧ t.drive.timedOut = s.drive.timedOut ∧
        t.drive.limitTimer = .stopped ∧
        (∀ d : Channel,
          let x := s.drive.channels.get d
          let y := t.drive.channels.get d
          let updates := x.requested = true ∧ (p.trim.get d).enabled = true
          let emf := reading d * p.emfScale / 256
          let e : Int := (x.command : Int) - emf
          (updates → y.lastEmf = emf) ∧ (¬ updates → y.lastEmf = x.lastEmf) ∧
          (updates → y.command ≠ 0 → p.emfPeriod = 0 ∨ s.drive.windowMuted = true →
            y.integral = x.integral ∧ y.correction = x.correction) ∧
          (updates → y.command ≠ 0 → x.command = y.command → 0 < p.emfPeriod → s.drive.windowMuted = false →
            y.integral = max (-(p.integralLimit : Int)) (min p.integralLimit (x.integral + e)) ∧
              y.correction = Int.tdiv (p.kp * e) 16 + Int.tdiv (p.ki * y.integral) 256)) ∧
        t.DutyFormed ∧ t.drive.ramp = s.drive.ramp ∧ s.SameExcept t [.drive]) ∧
    (∀ (raw : BitVec 12) (order : Nat), order < handOffOrders * handOffOrders →
      let q := s.sequencer
      let k : SlotIx := match c with
        | .a => 5
        | .b => 6
      let p := q.profile.slots[k]
      let formed : Nat :=
        if p.substitute then p.substituteValue
        else if q.profile.correction then (max 0 (min 4095 ((raw.toNat : Int) - q.offset))).toNat
        else raw.toNat
      let x : Slot := { q.slots[k] with raw := raw.toNat, value := formed, substituted := p.substitute }
      q.inFlight = some ⟨k, some w⟩ → q.waiting = none → s.QuiesceOpenElsewhere →
      contributionMoved x (x.evaluate p formed) = false →
      ∃ t, exec (.adcConversionComplete raw order) s = .next t ∧
        t.drive = (s.deliverEmf c w formed).drive ∧ t.sequencer.slots = q.slots.set k (x.evaluate p formed) ∧
        s.StoreSameOutside t 0x0840 106 ∧ s.SameExcept t [.sequencer, .drive, .store, .acks])

/-- R55: an outside value raises the fault counter by 1, up to 16. A CLEAR or COUNTING alarm asserts once the counter is
N + 1 or more, and otherwise counts; an ASSERTED one stays so. The side is the side of the value. -/
def Obligations.OutsideValueCountsAndAsserts : Prop :=
  ∀ (x : Slot) (p : SlotProfile) (v : Nat), v < p.low ∨ p.high < v →
    let y := x.evaluate p v
    y.counter = min (x.counter + 1) 16 ∧ y.side = (if v < p.low then .low else .high) ∧
      (x.alarm ≠ .asserted →
        y.alarm = (if p.faultCount + 1 ≤ min (x.counter + 1) 16 then .asserted else .counting)) ∧
      (x.alarm = .asserted → y.alarm = .asserted) ∧
      y.raw = x.raw ∧ y.value = x.value ∧ y.substituted = x.substituted

/-- R56: an inside value sets the fault counter to 0. An ASSERTED alarm clears in the hysteresis band, or at any inside
value where the band is empty, and holds its side outside it; any other alarm is CLEAR. To assert afresh a cleared
alarm needs N + 1 outside values in a row. -/
def Obligations.InsideValueClearsInTheBand : Prop :=
  ∀ (x : Slot) (p : SlotProfile) (v : Nat), p.low ≤ v → v ≤ p.high →
    let y := x.evaluate p v
    let bottom : Int := (p.low : Int) + p.hysteresis
    let top : Int := (p.high : Int) - p.hysteresis
    y.counter = 0 ∧
      (x.alarm ≠ .asserted → y.alarm = .clear ∧ y.side = .none) ∧
      (x.alarm = .asserted → top < bottom ∨ bottom ≤ v ∧ (v : Int) ≤ top → y.alarm = .clear ∧ y.side = .none) ∧
      (x.alarm = .asserted → bottom ≤ top → (v : Int) < bottom ∨ top < v →
        y.alarm = .asserted ∧ y.side = x.side) ∧
      (y.alarm = .clear → p.faultCount ≤ 15 → ∀ run : List Nat, (∀ w ∈ run, w < p.low ∨ p.high < w) →
        ((run.foldl (fun z w => z.evaluate p w) y).alarm = .asserted ↔ p.faultCount + 1 ≤ run.length)) ∧
      y.raw = x.raw ∧ y.value = x.value ∧ y.substituted = x.substituted

/-- R57: an assertion or a side switch raises ALARM_ASSERT with the slot and the new side, a clearing raises ALARM_CLEAR
with the value, each with ALARM; anything else raises nothing. -/
def Obligations.AlarmChangesRaiseEvents : Prop :=
  ∀ (s : State) (k : SlotIx) (x y : Slot) (v : Nat),
    let subject := BitVec.ofNat 8 k.val
    (y.alarm = .asserted → x.alarm ≠ .asserted ∨ x.side ≠ y.side →
      s.alarmEvent k x y v = (s.event .alarmAssert subject (match y.side with
        | .none => 0#16
        | .low => 1#16
        | .high => 2#16)).raise .alarm) ∧
    (x.alarm = .asserted → y.alarm ≠ .asserted →
      s.alarmEvent k x y v = (s.event .alarmClear subject (BitVec.ofNat 16 v)).raise .alarm) ∧
    (x.alarm ≠ .asserted → y.alarm ≠ .asserted → s.alarmEvent k x y v = s) ∧
    (x.alarm = .asserted → y.alarm = .asserted → x.side = y.side → s.alarmEvent k x y v = s)

/-- R48, R60, R61: at a pass end the pending profile takes effect. A slot it disables is CLEAR with counter 0 and side
NONE, every other keeps its alarm, and codes, values and the offset stand; then the pass counter rises. -/
def Obligations.PassEndTakesThePendingProfile : Prop :=
  ∀ (s : State) (order : Nat) (p : MeasureProfile), order < handOffOrders → s.sequencer.waiting = some p →
    let t := s.endPass order
    t.sequencer.profile = p ∧ t.sequencer.waiting = none ∧ t.sequencer.pass = none ∧
      t.sequencer.passCounter = s.sequencer.passCounter + 1#8 ∧ t.sequencer.offset = s.sequencer.offset ∧
      t.sequencer.scanTimer = s.sequencer.scanTimer ∧
      (∀ k : SlotIx, p.slots[k].enabled = true → t.sequencer.slots[k] = s.sequencer.slots[k]) ∧
      (∀ k : SlotIx, p.slots[k].enabled = false → t.sequencer.slots[k] =
        { s.sequencer.slots[k] with counter := 0, alarm := .clear, side := .none }) ∧
      t.drive.level = t.protectionLevel

/-! ### Track power and bridging (chapter 4) -/

/-- R65 to R69, R71, R76: the supervisor takes the contributions of TRACK and STORE. Track lost leaves SUPPLIED for
BRIDGING, or for SPENT without a bridge; its end returns to SUPPLIED with the outage recorded; store low ends a
bridge. Each change raises its event and POWER and reaches the four receivers, in whatever order `order` names; beside
these nothing is raised under a momentum other than OFF, under which R may jump and bring a chuff. Where nothing
changes, only the two inputs are recorded. R92: leaving SUPPLIED takes a heating smoke unit that no other cause holds to
HELD, and the return, where it ends the last hold, takes a HELD one to WARMING or, not enabled, to OFF. -/
def Obligations.TrackAndStoreMoveThePowerState : Prop :=
  ∀ (s : State) (order : Nat), order < 24 → s.RampFollows →
    let p := s.power
    let steady := s.drive.profile.momentum ≠ .off
    let lost := s.sequencer.assertedLow slotTrack
    let low := s.sequencer.assertedLow slotStore
    let begins := lost = true ∧ p.trackLost = false
    let ends := lost = false ∧ p.trackLost = true
    let t := s.powerContributions order
    t.power.trackLost = lost ∧ t.power.storeLow = low ∧
    (p.state = .supplied → begins → 0 < p.profile.bridgeTime → low = false →
      t.power = { p with
        state := .bridging, trackLost := lost, storeLow := low, outage := 0, bridge := p.profile.bridgeTime * 10,
        outageTimer := .running (millis s.time + 10000), outageCount := p.outageCount + 1#16, charge := false } ∧
      (steady → t.EventsAs ((s.event .powerBridging 0#8 (BitVec.ofNat 16 p.profile.bridgeTime)).raise .power)) ∧
      t.PowerPublished) ∧
    (p.state = .supplied → begins → p.profile.bridgeTime = 0 ∨ low = true →
      t.power = { p with
        state := .spent, trackLost := lost, storeLow := low, outage := 0, bridge := 0,
        outageTimer := .running (millis s.time + 10000), outageCount := p.outageCount + 1#16,
        spentCount := p.spentCount + 1#16, charge := false } ∧
      t.EventsAs ((s.event .powerSpent 3#8 0#16).raise .power) ∧ t.PowerPublished ∧
      s.drive.AtRest t.drive) ∧
    (p.state = .bridging ∨ p.state = .spent → ends →
      t.power = { p with
        state := .supplied, trackLost := lost, storeLow := low, outageTimer := .stopped, bridge := 0,
        lastOutage := p.outage, outage := 0 } ∧
      (steady → t.EventsAs ((s.event .powerSupplied (if p.state = .bridging then 1#8 else 2#8)
        (BitVec.ofNat 16 p.outage)).raise .power)) ∧
      t.PowerPublished) ∧
    (p.state = .bridging → ¬ ends → low = true → p.storeLow = false →
      t.power = { p with
        state := .spent, trackLost := lost, storeLow := low, bridge := 0, spentCount := p.spentCount + 1#16 } ∧
      t.EventsAs ((s.event .powerSpent 2#8 (BitVec.ofNat 16 p.outage)).raise .power) ∧ t.PowerPublished ∧
      s.drive.AtRest t.drive) ∧
    (p.state = .supplied → begins → s.smoke.state.heating = true → s.smoke.held = false →
      t.smoke.state = .held ∧ t.smoke.heater = 0) ∧
    (p.state = .bridging ∨ p.state = .spent → ends → s.smoke.state = .held → s.smoke.powerHold = true →
      (∀ k : SlotIx, s.smoke.alarmHold[k] = false) →
      t.smoke.state = (if s.smoke.enabled then .warming else .off) ∧ t.smoke.heater = 0) ∧
    (p.state = .supplied ∧ ¬ begins ∨ p.state = .spent ∧ ¬ ends ∨
        p.state = .bridging ∧ ¬ ends ∧ ¬ (low = true ∧ p.storeLow = false) →
      t = s.withPower { p with trackLost := lost, storeLow := low })

/-- R68, R70, R71: OUTAGE_TICK counts the outage and starts the tick timer again. In BRIDGING the bridge timer falls,
and the tick that brings it to 0 enters SPENT: POWER_SPENT with subject 1 and POWER are raised, R is 0, the window
closes, the lamps and the sound go to 0, and a heating smoke unit is HELD. -/
def Obligations.OutageTickCountsAndEndsTheBridge : Prop :=
  ∀ (s : State) (order : Nat), order < 24 → s.power.outageTimer.isRunning = true → s.QuiesceOpen →
    let p := s.power
    let outage := min (p.outage + 1) 65535
    let timer := Timer.running (millis s.time + 10000)
    (p.state ≠ .bridging →
      exec (.outageTick order) s = .next { s with power := { p with outage := outage, outageTimer := timer } }) ∧
    (p.state = .bridging → 1 < p.bridge →
      exec (.outageTick order) s =
        .next { s with power := { p with outage := outage, outageTimer := timer, bridge := p.bridge - 1 } }) ∧
    (p.state = .bridging → p.bridge ≤ 1 →
      ∃ t, exec (.outageTick order) s = .next t ∧
        t.power = { p with
          state := .spent, outage := outage, outageTimer := timer, bridge := 0,
          spentCount := p.spentCount + 1#16 } ∧
        t.EventsAs ((s.event .powerSpent 1#8 (BitVec.ofNat 16 outage)).raise .power) ∧
        t.PowerPublished ∧ s.drive.AtRest t.drive ∧ s.drive.WindowShut t.drive ∧
        t.drive.target = s.drive.target ∧ (∀ k : Fin 8, t.lamps.lamps[k].duty = 0) ∧
        t.sound = { s.sound with attenuation := 0 } ∧
        (s.smoke.state.heating = true → s.smoke.held = false →
          t.smoke.state = .held ∧ t.smoke.heater = 0 ∧ t.smoke.fan = 0) ∧
        s.SameExcept t [.power, .drive, .cadence, .smoke, .lamps, .sound, .store, .events, .eventSeq, .attention,
          .acks])

/-! ### Wheel cadence (chapter 5) -/

/-- R79 to R83: CAM_EDGE. An edge inside the debounce raises the rejected count alone. Another is accepted: the period
and the wheel speed are formed, the odometer rises, the cam is LIVE with its 2.5 s timer, and the edge is a chuff
unless the source mode is SYNTHETIC. In STARTING and RESETTING nothing happens. -/
def Obligations.CamEdgeAcceptedOrRejected : Prop :=
  ∀ (s : State) (phase : Nat), phase < 100 → s.SourceSettled →
    let now := s.time * 100 + phase
    let c := s.cadence
    (s.part = .starting ∨ s.part = .resetting → exec (.camEdge phase) s = .next s) ∧
    (∀ e, s.part.active = true → c.lastEdge = some e → now < e + c.profile.debounce * 100 →
      exec (.camEdge phase) s = .next { s with cadence := { c with rejected := c.rejected + 1#16 } }) ∧
    (s.part.active = true → (∀ e, c.lastEdge = some e → e + c.profile.debounce * 100 ≤ now) →
      ∃ t, exec (.camEdge phase) s = .next t ∧
        t.cadence.lastEdge = some now ∧ t.cadence.odometer = c.odometer + 1#32 ∧ t.cadence.cam = .live ∧
        t.cadence.stoppedTimer = .running (millis s.time + 2500000) ∧ t.cadence.rejected = c.rejected ∧
        (c.lastEdge = none → t.cadence.period = 0 ∧ t.cadence.speed = 0) ∧
        (∀ e, c.lastEdge = some e →
          t.cadence.period = min (now - e) 16777215 ∧
            t.cadence.speed = min (6000000 / (min (now - e) 16777215 * c.profile.pulses)) 65535) ∧
        (c.profile.mode = .synthetic → t.cadence.chuffs = c.chuffs ∧ s.SameExcept t [.cadence]) ∧
        (c.profile.mode ≠ .synthetic →
          t.cadence.source = .cam ∧ t.cadence.chuffs = c.chuffs + 1#16 ∧ t.cadence.lastChuff = some s.time ∧
            t.sound.lastChuff = c.chuffs + 1#16) ∧
        t.SourceSettled ∧ t.cadence.profile = c.profile ∧ t.cadence.heldV = c.heldV ∧
        s.SameExcept t [.cadence, .sound, .smoke, .events, .eventSeq, .attention])

/-- R81, R83, R84: WHEEL_STOPPED_EXPIRY, once the timer's interval is over, makes the cam STOPPED and the wheel speed 0,
keeping the period and the last edge. In AUTO the source becomes SYNTHETIC, and a chuff comes at once where the
interval has been reached. A timer that an edge has restarted does not expire: nothing happens (log entry 5). -/
def Obligations.WheelStoppedSettlesTheSource : Prop :=
  ∀ s : State,
    (s.hasExpired s.cadence.stoppedTimer = false → exec .wheelStoppedExpiry s = .next s) ∧
    (s.hasExpired s.cadence.stoppedTimer = true → s.cadence.cam = .live → s.SourceSettled →
    let c := s.cadence
    let interval := max 20 (min 5000 (c.profile.constant * 256 / c.heldV))
    let due := ∀ last, c.lastChuff = some last → interval ≤ s.time - last
    ∃ t, exec .wheelStoppedExpiry s = .next t ∧
      t.cadence.cam = .stopped ∧ t.cadence.speed = 0 ∧ t.cadence.stoppedTimer = .stopped ∧
      t.cadence.period = c.period ∧ t.cadence.lastEdge = c.lastEdge ∧ t.cadence.odometer = c.odometer ∧
      t.SourceSettled ∧
      (c.profile.mode ≠ .auto ∨ c.heldV = 0 → t.cadence.chuffs = c.chuffs ∧ s.SameExcept t [.cadence]) ∧
      (c.profile.mode = .auto → c.heldV = 0 →
        t.cadence.interval = none ∧ t.cadence.chuffTimer = .stopped) ∧
      (c.profile.mode = .auto → 0 < c.heldV →
        t.cadence.interval = some interval ∧
          (due → t.cadence.chuffs = c.chuffs + 1#16 ∧ t.cadence.lastChuff = some s.time ∧
            t.cadence.chuffTimer = .running (millis s.time + millis interval)) ∧
          (¬ due → t.cadence.chuffs = c.chuffs ∧ s.SameExcept t [.cadence] ∧
            ∀ last, c.lastChuff = some last → t.cadence.chuffTimer = .running (millis (last + interval)))) ∧
      s.SameExcept t [.cadence, .sound, .smoke, .events, .eventSeq, .attention])

/-- R85, R86, R98, R129: SYNTHETIC_CHUFF_EXPIRY, once its time has come, delivers a chuff: the count rises, the last chuff
is the present time, and the timer is set one interval on; an expiry that has been moved is not taken (log entry 5).
The smoke unit pulses in WARMING and READY and is untouched in its other states. The sound engine stores the count and
in RUN starts the CHUFF cue of a READY bank at the chuff gain: the cue's gain, raised or lowered by two 256ths of it
for each count by which D exceeds C on channel A, within -64 to 63, while the chuff load is on; a READY bank without a
CHUFF cue is left alone, and another bank refuses the START NO_BANK. -/
def Obligations.SyntheticChuffDelivered : Prop :=
  ∀ (s : State) (i : Nat), s.cadence.interval = some i →
    (s.hasExpired s.cadence.chuffTimer = false → exec .syntheticChuffExpiry s = .next s) ∧
    (s.hasExpired s.cadence.chuffTimer = true →
    let e := { s.sound with lastChuff := s.cadence.chuffs + 1#16 }
    let a := s.drive.channels.a
    let load : Int := if e.chuffLoad then max (-64) (min 63 ((a.duty : Int) - a.command)) else 0
    let pulses := s.smoke.state = .warming ∨ s.smoke.state = .ready
    ∃ t, exec .syntheticChuffExpiry s = .next t ∧
      t.cadence = { s.cadence with
        chuffs := s.cadence.chuffs + 1#16, lastChuff := some s.time,
        chuffTimer := .running (millis s.time + millis i) } ∧
      t.sound.lastChuff = s.cadence.chuffs + 1#16 ∧ t.sound.bank = s.sound.bank ∧
      (pulses → t.smoke = { s.smoke with
        pulseTimer := .running (millis s.time + millis s.smoke.profile.pulseLength),
        fan := t.fanDuty, fanPwm := min s.smoke.fanPwm t.fanDuty }) ∧
      (¬ pulses → t.smoke = s.smoke) ∧
      (s.part ≠ .run → t.sound = e ∧ t.EventsAs s) ∧
      (s.part = .run → e.bank ≠ .ready → t.sound = { e with noBank := e.noBank + 1#16 } ∧ t.EventsAs s) ∧
      (e.bank = .ready → (∀ r ∈ e.cues, r.kind ≠ 2) → t.sound = e ∧ t.EventsAs s) ∧
      (∀ (n : Nat) (r : CueRecord), s.part = .run → e.bank = .ready → e.cues[n]? = some r → r.kind = 2 →
        (∀ (m : Nat) (q : CueRecord), m < n → e.cues[m]? = some q → q.kind ≠ 2) →
        let gain := (max 0 (min 255 (Int.tdiv (r.gain * (256 + 2 * load)) 256))).toNat
        let started := ((s.withSound e).startCue (n + 1) (some gain) .chuff).1
        t.sound = started.sound ∧ t.EventsAs started) ∧
      s.SameExcept t [.cadence, .sound, .smoke, .events, .eventSeq, .attention])

/-- R43, R63, R75, R82, R87, R102, R114, R134, R155, R160: the readings timers of the drive, the power supervisor, the
cadence unit and the radio receiver start again and write their groups, each field at the offset of 12.6, the drive's
with the levels of the SHORT lines as they stand; the odometer goes into the retained group at bytes 4 to 7, with that
group's own write count. The writings of the sequencer, the smoke unit, the lamp unit and the sound engine, which their
other commands bring, put each field at the offset of 12.6 as well, raise the write count and change no other byte, but
for the fluid budget in the retained group at bytes 8 to 10. That the silence time left is truncated to whole 100 ms,
that unused sender entries read 0, and what the CHUFF cue's field shows in MOUNTING, are the model's readings (log
entries 14, 28 and 43). That the smoke readings show a new setpoint in use at once, where a change of the setpoint or
the idle drop or a move into or out of IDLING applies from the next HEAT value, is the model's choice (log entry
60). -/
def Obligations.ReadingsTimersWriteTheirGroups : Prop :=
  ∀ s : State,
    let timer := Timer.running (millis s.time + 10000)
    (s.drive.readingsTimer.isRunning = true → ∀ a b : Bool,
      ∃ t, exec (.driveReadingsTimer a b) s = .next t ∧
        t.drive = { s.drive with readingsTimer := timer, shortA := a, shortB := b } ∧
        t.DriveGroupShows ∧ s.GroupWritten t driveGroup t.driveBytes ∧ s.SameExcept t [.drive, .store]) ∧
    (s.power.readingsTimer.isRunning = true →
      ∃ t, exec .powerReadingsTimer s = .next t ∧ t.power = { s.power with readingsTimer := timer } ∧
        t.PowerGroupShows ∧ s.GroupWritten t powerGroup t.power.groupBytes ∧
        s.SameExcept t [.power, .store]) ∧
    (s.radio.readingsTimer.isRunning = true →
      ∃ t, exec .radioReadingsTimer s = .next t ∧ t.radio = { s.radio with readingsTimer := timer } ∧
        t.RadioGroupShows ∧ s.GroupWritten t radioGroup t.radioBytes ∧ s.SameExcept t [.radio, .store]) ∧
    (s.cadence.readingsTimer.isRunning = true →
      ∃ t, exec .cadenceReadingsTimer s = .next t ∧ t.cadence = { s.cadence with readingsTimer := timer } ∧
        t.CadenceGroupShows ∧ t.storeAt cadenceGroup = s.storeAt cadenceGroup + 1#8 ∧
        (∀ i, i < t.cadenceBytes.length → t.storeAt (cadenceGroup + 1 + i) = t.cadenceBytes.getD i 0#8) ∧
        t.storeAt retainedGroup = s.storeAt retainedGroup + 1#8 ∧
        (∀ i, i < 4 → t.storeAt (retainedGroup + 4 + i) = s.cadence.odometer.extractLsb' (8 * i) 8) ∧
        (∀ a, a < cadenceGroup ∨ cadenceGroup + 1 + t.cadenceBytes.length ≤ a → a ≠ retainedGroup →
          a < retainedGroup + 4 ∨ retainedGroup + 8 ≤ a → t.storeAt a = s.storeAt a) ∧
        s.SameExcept t [.cadence, .store]) ∧
    (let t := s.writeSequencerReadings
     t.SequencerGroupShows ∧ s.GroupWritten t 0x0840 s.sequencer.groupBytes ∧ s.SameExcept t [.store]) ∧
    (let t := s.writeSmokeReadings
     t.SmokeGroupShows ∧ t.storeAt 0x0900 = s.storeAt 0x0900 + 1#8 ∧ t.storeAt 0x0A70 = s.storeAt 0x0A70 + 1#8 ∧
      (∀ a, a < 0x0900 ∨ 0x0916 ≤ a → a ≠ 0x0A70 → a < 0x0A78 ∨ 0x0A7B ≤ a → t.storeAt a = s.storeAt a) ∧
      s.SameExcept t [.store]) ∧
    (let t := s.writeLampReadings
     t.LampGroupShows ∧ s.GroupWritten t 0x0930 s.lamps.groupBytes ∧ s.SameExcept t [.store]) ∧
    (let t := s.writeSoundReadings
     t.SoundGroupShows ∧ s.GroupWritten t 0x0970 s.sound.groupBytes ∧ s.SameExcept t [.store])

/-! ### Smoke unit (chapter 6) -/

/-- R94, R95, R97, R98: HEAT_STALE_EXPIRY takes the heater to 0 and records the reading as stale. IDLE_TIMER_EXPIRY
makes WARMING and READY IDLING, starts the idle puffs unless their interval is 0, and writes the readings.
PULSE_TIMER_EXPIRY, IDLE_PUFF_EXPIRY and COOLDOWN_EXPIRY change their timers and read the fan duty again from the
first row of R97's table that applies; a fall of the duty reaches the output at once. A pulse timer that a chuff has
restarted does not expire (log entry 5), and a puff timer that runs on under an interval of 0 gives one last puff
(log entry 25): both are the model's readings. That the readings which IDLE_TIMER_EXPIRY writes show the setpoint less
the idle drop at once, which R95 applies from the next HEAT value, is the model's choice (log entry 60). -/
def Obligations.SmokeTimersExpire : Prop :=
  ∀ s : State,
    let u := s.smoke
    let off := s.part = .quiescing ∨ s.part = .quiet ∨ s.part = .resetting ∨ u.held = true
    let heating := u.state = .warming ∨ u.state = .ready ∨ u.state = .idling
    let cooling := (u.state = .off ∨ u.state = .dry) ∧ u.cooldownTimer.isRunning = true
    let puff := if u.profile.puffInterval = 0 then Timer.stopped
      else .running (millis s.time + hundredMillis u.profile.puffInterval)
    let beside : Nat := if heating then u.profile.fanIdle else if cooling then u.profile.fanIdle else 0
    let unpulsed : Nat := if off then 0 else beside
    let pulsed : Nat := if off then 0 else if heating then u.profile.pulseDuty else beside
    let cooled : Nat := if off then 0
      else if heating then (if u.pulseTimer.isRunning then u.profile.pulseDuty else u.profile.fanIdle) else 0
    (u.staleTimer.isRunning = true →
      exec .heatStaleExpiry s = .next { s with smoke := { u with
        heater := 0, heaterPwm := 0, computed := 0, staleTimer := .stopped, stale := true } }) ∧
    (u.idleTimer.isRunning = true → u.state = .warming ∨ u.state = .ready →
      ∃ t, exec .idleTimerExpiry s = .next t ∧
        t.smoke = { u with
          state := .idling, idleTimer := .stopped, puffTimer := puff,
          fan := t.fanDuty, fanPwm := min u.fanPwm t.fanDuty } ∧
        t.storeAt smokeGroup = s.storeAt smokeGroup + 1#8 ∧ t.SmokeGroupShows ∧
        (∀ i, i < t.smoke.groupBytes.length →
          t.storeAt (smokeGroup + 1 + i) = t.smoke.groupBytes.getD i 0#8) ∧
        s.SameExcept t [.smoke, .store]) ∧
    (u.idleTimer.isRunning = true → u.state ≠ .warming → u.state ≠ .ready →
      exec .idleTimerExpiry s = .next { s with smoke := { u with idleTimer := .stopped } }) ∧
    (s.hasExpired u.pulseTimer = false → exec .pulseTimerExpiry s = .next s) ∧
    (s.hasExpired u.pulseTimer = true →
      exec .pulseTimerExpiry s = .next { s with smoke := { u with
        pulseTimer := .stopped, fan := unpulsed, fanPwm := min u.fanPwm unpulsed } }) ∧
    (u.puffTimer.isRunning = true →
      exec .idlePuffExpiry s = .next { s with smoke := { u with
        puffTimer := puff, pulseTimer := .running (millis s.time + millis u.profile.pulseLength),
        fan := pulsed, fanPwm := min u.fanPwm pulsed } }) ∧
    (u.cooldownTimer.isRunning = true →
      exec .cooldownExpiry s = .next { s with smoke := { u with
        cooldownTimer := .stopped, fan := cooled, fanPwm := min u.fanPwm cooled } })

/-- R96, R99, R102: BUDGET_TICK takes the heater duty from the budget while a capacity stands, raises FLUID_LOW as the
budget crosses the low mark, and turns a heating unit whose budget is 0 DRY, with SMOKE_DRY; the readings are
written, and the budget goes into the retained group at bytes 8 to 10. R58, R91, R92, R96: the hold causes and the dry
alarms. The first hold to begin takes a heating unit to HELD with heater and fan at 0; the last to end takes a HELD one
to WARMING, or to OFF with the cooldown where it is not enabled; any other change of the holds leaves the state and
reads the fan again. A slot that comes to contribute DRY takes the unit to DRY from any other state, with SMOKE_DRY,
subject 2; in DRY it changes nothing more than the record, and the end of a dry alarm does not release DRY. That
SMOKE_DRY names the lowest of several slots, and that DRY is taken before the holds, are the model's choices (log
entry 23). That the readings written at a change of the holds and by BUDGET_TICK show the setpoint of the settings and
of the state as they then stand, also where it applies from the next HEAT value only, is the model's choice (log entry
60). -/
def Obligations.BudgetHoldsAndDryAlarmsMoveTheSmokeUnit : Prop :=
  ∀ s : State,
    let u := s.smoke
    let cooling := if u.profile.cooldown = 0 then Timer.stopped
      else .running (millis s.time + seconds u.profile.cooldown)
    (∀ (power : Bool) (alarms : Vector Bool 12),
      let t := s.setHolds power alarms
      let before := u.powerHold = true ∨ ∃ k : SlotIx, u.alarmHold[k] = true
      let after := power = true ∨ ∃ k : SlotIx, alarms[k] = true
      let recorded : Smoke := { u with
        powerHold := power, alarmHold := alarms, fan := t.fanDuty, fanPwm := min u.fanPwm t.fanDuty }
      let still : Smoke := { recorded with
        heater := 0, heaterPwm := 0, computed := 0, idleTimer := .stopped, puffTimer := .stopped,
        pulseTimer := .stopped, staleTimer := .stopped, stale := false }
      (after → t.fanDuty = 0) ∧
      (¬ before → after → u.state.heating = true →
        t.smoke = { still with state := .held } ∧ t.SmokeGroupShows) ∧
      (before → ¬ after → u.state = .held → u.enabled = true →
        t.smoke = { recorded with
          state := .warming, heater := 0, heaterPwm := 0, computed := 0, stale := false, cooldownTimer := .stopped,
          staleTimer := .running (millis s.time + 5000000),
          idleTimer := if s.drive.state = .idle then .running (millis s.time + seconds u.profile.idleDelay)
            else .stopped } ∧ t.SmokeGroupShows) ∧
      (before → ¬ after → u.state = .held → u.enabled = false →
        t.smoke = { still with state := .off, cooldownTimer := cooling } ∧ t.SmokeGroupShows) ∧
      (¬ (¬ before ∧ after ∧ u.state.heating = true) → ¬ (before ∧ ¬ after ∧ u.state = .held) →
        t = s.withSmoke recorded) ∧
      s.SameExcept t [.smoke, .store]) ∧
    (∀ holds drys : Vector Bool 12,
      let t := s.smokeContributions holds drys
      let fresh (k : SlotIx) := drys[k] = true ∧ u.alarmDry[k] = false
      t.smoke.alarmHold = holds ∧ t.smoke.alarmDry = drys ∧ t.smoke.powerHold = u.powerHold ∧
      (u.state = .dry ∨ (∀ k : SlotIx, ¬ fresh k) →
        t = (s.withSmoke { u with alarmDry := drys }).setHolds u.powerHold holds ∧
          (u.state = .dry → t.smoke.state = .dry)) ∧
      (u.state ≠ .dry → ∀ k : SlotIx, fresh k → (∀ j : SlotIx, j < k → ¬ fresh j) →
        t.smoke = { u with
          alarmHold := holds, alarmDry := drys, state := .dry, heater := 0, heaterPwm := 0, computed := 0,
          idleTimer := .stopped, puffTimer := .stopped, pulseTimer := .stopped, staleTimer := .stopped,
          stale := false, cooldownTimer := if u.state = .off then u.cooldownTimer else cooling,
          fan := t.fanDuty, fanPwm := t.smoke.fanPwm } ∧
        t.smoke.fanPwm ≤ t.smoke.fan ∧ t.EventsAs (s.event .smokeDry 2#8 (BitVec.ofNat 16 k.val))) ∧
      s.SameExcept t [.smoke, .store, .events, .eventSeq, .attention]) ∧
    (u.budgetTimer.isRunning = true →
    let timer := Timer.running (millis s.time + 100000)
    let after := if u.profile.capacity = 0 then u.budget else u.budget - u.heater
    let low := u.profile.capacity * 256 / 8
    let judged := if u.profile.capacity ≠ 0 ∧ low ≤ u.budget ∧ after < low
      then s.event .fluidLow 0#8 (BitVec.ofNat 16 (after / 256)) else s
    let dries := u.profile.capacity ≠ 0 ∧ after = 0 ∧ u.state.heating = true
    ∃ t, exec .budgetTick s = .next t ∧ t.smoke.budget = after ∧ t.smoke.budgetTimer = timer ∧
      (¬ dries → t.smoke = { u with budget := after, budgetTimer := timer } ∧ t.EventsAs judged ∧
        t.storeAt smokeGroup = s.storeAt smokeGroup + 1#8 ∧
        t.storeAt retainedGroup = s.storeAt retainedGroup + 1#8) ∧
      (dries → t.smoke.state = .dry ∧ t.smoke.heater = 0 ∧ t.smoke.computed = 0 ∧
        t.smoke.idleTimer = .stopped ∧ t.smoke.puffTimer = .stopped ∧ t.smoke.pulseTimer = .stopped ∧
        t.smoke.staleTimer = .stopped ∧ t.smoke.cooldownTimer = cooling ∧
        t.EventsAs (judged.event .smokeDry 1#8 0#16)) ∧
      t.SmokeGroupShows ∧
      (∀ i, i < t.smoke.groupBytes.length → t.storeAt (smokeGroup + 1 + i) = t.smoke.groupBytes.getD i 0#8) ∧
      (∀ i, i < 3 → t.storeAt (retainedGroup + 8 + i) = BitVec.ofNat 8 (after / 256 ^ i)) ∧
      s.SameExcept t [.smoke, .store, .events, .eventSeq, .attention])

/-! ### Lamps (chapter 7) -/

/-- R107 to R109, R111, R112: EFFECT_TICK steps the LFSR and every effect counter, and forms each lamp's level and
duty anew: an unlit lamp has level 0, a standing drive limits the level, the duty is the level's share by the lamp
factor, and 0 outside RUN and STARTING. -/
def Obligations.EffectTickStepsCountersAndForms : Prop :=
  ∀ s : State, s.lamps.tickTimer.isRunning = true →
    let u := s.lamps
    ∃ t, exec .effectTick s = .next t ∧
      t.lamps.tickTimer = .running (millis s.time + 10000) ∧ t.lamps.ticks = (u.ticks + 1) % 10 ∧
      (∀ i, i < 15 → t.lamps.lfsr.getLsbD i = u.lfsr.getLsbD (i + 1)) ∧
      t.lamps.lfsr.getLsbD 15 =
        (u.lfsr.getLsbD 0 ^^ u.lfsr.getLsbD 2 ^^ u.lfsr.getLsbD 3 ^^ u.lfsr.getLsbD 5) ∧
      (∀ k : Fin 8,
        let r := u.profile[k]
        let x := u.lamps[k]
        let y := t.lamps.lamps[k]
        let lit := x.active = true ∧ (r.gate = .any ∨ r.gate = .fwd ∧ u.direction = .fwd ∨
          r.gate = .rev ∧ u.direction = .rev)
        let cut (level : Nat) : Nat := if u.standing then min level r.stopDim else level
        y.active = x.active ∧
        (x.phase = .a → x.count + 1 < r.countA → y.phase = .a ∧ y.count = x.count + 1) ∧
        (x.phase = .a → r.countA ≤ x.count + 1 → y.phase = .b ∧ y.count = 0) ∧
        (x.phase = .b → x.count + 1 < r.countB → y.phase = .b ∧ y.count = x.count + 1) ∧
        (x.phase = .b → r.countB ≤ x.count + 1 →
          y.phase = (if r.mode = .oneShot ∨ r.run = .single then .ended else .a) ∧ y.count = 0) ∧
        (x.phase = .ended → y.phase = .ended ∧ y.count = x.count) ∧
        (¬ lit → y.level = 0) ∧
        (lit → r.mode = .steady → y.level = cut r.brightness) ∧
        (lit → r.mode = .flicker → y.level = cut (r.brightness * (128 + t.lamps.lfsr.toNat % 128) / 256)) ∧
        (lit → r.mode = .beacon → y.level = cut (match y.phase with
          | .a => r.brightness * y.count / r.countA
          | .b => r.brightness * (r.countB - y.count) / r.countB
          | .ended => 0)) ∧
        (lit → r.mode = .oneShot → y.level = cut (if y.phase = .a then r.brightness else 0)) ∧
        (lit → r.mode = .alternate → ∀ j : Fin 8, r.partner = j.val →
          y.level = cut (if k < j then (if y.phase = .a then r.brightness else 0)
            else if j < k then (if t.lamps.lamps[j].phase = .b then r.brightness else 0) else y.level)) ∧
        y.duty = (if s.part = .quiescing ∨ s.part = .quiet ∨ s.part = .resetting then 0
          else y.level * u.factor / 256) ∧
        y.pwm = min x.pwm y.duty) ∧
      t.lamps.profile = u.profile ∧ t.lamps.directive = u.directive ∧ t.lamps.factor = u.factor ∧
      (u.ticks % 10 ≠ 9 → s.SameExcept t [.lamps]) ∧
      (u.ticks % 10 = 9 →
        t.LampGroupShows ∧ s.GroupWritten t lampGroup t.lamps.groupBytes ∧ s.SameExcept t [.lamps, .store])

/-! ### Sound engine (chapter 8) -/

/-- R119, R159: MOUNT_HEADER_READ checks the header in order and keeps it, the pass beginning at byte 32, or ends the
mount FAULTY with the first failure's reason, BANK_FAULTY and SOUND_BANK. UPTIME_TICK raises the time by 1 ms; while
a pass runs, 1280 more bytes are read (log entry 16), and outside one nothing else changes. No mount goes on outside
RUN (R133). -/
def Obligations.MountHeaderAndProgress : Prop :=
  ∀ s : State,
    (¬ (s.part = .run ∧ s.sound.bank = .mounting ∧ s.sound.header.isSome = true) →
      exec .uptimeTick s = .next { s with time := s.time + 1 }) ∧
    (s.part ≠ .run → exec .mountHeaderRead s = .next s) ∧
    (∀ h, s.part = .run → s.sound.bank = .mounting → s.sound.header = some h →
      ∃ t, exec .uptimeTick s = .next t ∧ t.time = s.time + 1 ∧
        t.sound = { s.sound with
          progress := min h.length (s.sound.progress + 1280), cues := t.sound.cues, clips := t.sound.clips } ∧
        s.SameExcept t [.time, .sound]) ∧
    (s.part = .run → s.sound.bank = .mounting → s.sound.header = none →
    let byte (a : Nat) : Nat := (s.flashAt a).toNat
    let cueCount := byte 1
    let clipCount := byte 2
    let length := byte 4 * 65536 + byte 5 * 256 + byte 6
    let bad : BankFault :=
      if byte 0 ≠ 1 then .format
      else if 63 < cueCount ∨ length < 32 + 8 * cueCount + 8 * clipCount then .counts else .none
    ∃ t, exec .mountHeaderRead s = .next t ∧
      (bad = .none →
        t.sound = { s.sound with
          header := some ⟨cueCount, clipCount, length,
            BitVec.ofNat 32 (byte 8 * 16777216 + byte 9 * 65536 + byte 10 * 256 + byte 11)⟩,
          progress := 32 } ∧
        s.SameExcept t [.sound]) ∧
      (bad ≠ .none →
        t.sound = { s.sound with bank := .faulty, fault := bad, cues := [], clips := [] } ∧
        t.EventsAs ((s.event .bankFaulty (if bad = .format then 1#8 else 2#8) 0#16).raise .soundBank) ∧
        t.SoundGroupShows ∧ s.GroupWritten t soundGroup t.sound.groupBytes ∧
        s.SameExcept t [.sound, .store, .events, .eventSeq, .attention]))

/-- R120: MOUNT_COMPLETE judges the CRC, then the cue records in order, then the clip records in order. A bank that
passes all is READY with its tables and raises BANK_READY; the first failure makes it FAULTY with empty tables and
raises BANK_FAULTY with the reason and the failing record's number. SOUND_BANK is raised either way. Outside RUN no
mount ends (R133). -/
def Obligations.MountCompleteJudgesTheBank : Prop :=
  ∀ (s : State) (h : BankHeader), s.sound.bank = .mounting → s.sound.header = some h →
    32 + 8 * h.cueCount + 8 * h.clipCount ≤ h.length →
    (s.part ≠ .run → exec .mountComplete s = .next s) ∧
    (s.part = .run →
    let cue (i : Nat) : CueRecord := s.cueRecordAt i
    let clip (i : Nat) : ClipRecord := s.clipRecordAt h.cueCount i
    let cueFine (i : Nat) : Prop :=
      0 < (cue i).start ∧ (cue i).start ≤ h.clipCount ∧ (cue i).priority ≤ 7 ∧ (cue i).kind ≤ 2 ∧
        ((cue i).kind ≠ 2 → (cue i).loop ≤ h.clipCount ∧ (cue i).tail ≤ h.clipCount) ∧
        ((cue i).kind = 2 → (cue i).start + 3 ≤ h.clipCount ∧ ∀ j, j < i → (cue j).kind ≠ 2)
    let clipFine (i : Nat) : Prop :=
      0 < (clip i).length ∧ (clip i).length ≤ 1048576 ∧ 32 + 8 * h.cueCount + 8 * h.clipCount ≤ (clip i).address ∧
        (clip i).address + (clip i).length ≤ h.length
    let crcFine := crc32 (s.flashRun 32 (h.length - 32)) = h.crc
    ∃ t, exec .mountComplete s = .next t ∧
      let failed (why : BankFault) : Prop :=
        t.sound = { s.sound with bank := .faulty, fault := why, progress := h.length, cues := [], clips := [] }
      (crcFine → (∀ i, i < h.cueCount → cueFine i) → (∀ i, i < h.clipCount → clipFine i) →
        t.sound = { s.sound with
            bank := .ready, progress := h.length, cues := (List.range h.cueCount).map cue,
            clips := (List.range h.clipCount).map clip } ∧
          t.EventsAs ((s.event .bankReady 0#8 (BitVec.ofNat 16 h.cueCount)).raise .soundBank)) ∧
      (¬ crcFine → failed .crc ∧ t.EventsAs ((s.event .bankFaulty 3#8 0#16).raise .soundBank)) ∧
      (∀ n, crcFine → n < h.cueCount → (∀ i, i < n → cueFine i) → ¬ cueFine n →
        failed .cueRecord ∧
          t.EventsAs ((s.event .bankFaulty 4#8 (BitVec.ofNat 16 (n + 1))).raise .soundBank)) ∧
      (∀ n, crcFine → (∀ i, i < h.cueCount → cueFine i) → n < h.clipCount → (∀ i, i < n → clipFine i) →
        ¬ clipFine n →
        failed .clipRecord ∧
          t.EventsAs ((s.event .bankFaulty 5#8 (BitVec.ofNat 16 (n + 1))).raise .soundBank)) ∧
      t.SoundGroupShows ∧ s.GroupWritten t soundGroup t.sound.groupBytes ∧
      s.SameExcept t [.sound, .store, .events, .eventSeq, .attention])

/-- R124, R125: a START in RUN of a cue the bank holds. A HELD cue in a voice is left; another cue in a voice starts it
afresh; otherwise the lowest FREE voice starts; with none FREE the arbiter takes, among the voices of a greater
priority number, the greatest, the one started longest ago on a tie, and counts the steal; with no candidate the
START is refused NO_VOICE. A start puts the voice at the back of the start order list. -/
def Obligations.StartTakesAVoiceOrIsRefused : Prop :=
  ∀ (s : State) (n : Nat) (gain : Option Nat) (source : CueSource) (r : CueRecord),
    s.part = .run → s.sound.bank = .ready → s.sound.cue n = some r → s.VoicesSound →
    let e := s.sound
    let t := (s.startCue n gain source).1
    let result := (s.startCue n gain source).2
    let started (v : Fin 6) (steals : Half) : Prop :=
      result = .ok ∧
        t.sound.voices[v] = ⟨.leading, n, .start,
          if r.kind = 2 then r.start + e.lastChuff.toNat % 4 else r.start, 0, gain.getD r.gain, 320, false⟩ ∧
        (∀ w : Fin 6, w ≠ v → t.sound.voices[w] = e.voices[w]) ∧
        t.sound.order = (e.order.filter fun w => w != v) ++ [v] ∧ t.sound.ampEnabled = true ∧
        (e.anyBusy = false → t.sound.ampTimer = .stopped) ∧ t.sound.steals = steals ∧ s.SameExcept t [.sound]
    (∀ v : Fin 6, e.voices[v].busy = true → e.voices[v].cue = n →
      (r.kind = 1 → t = s ∧ result = .ok) ∧ (r.kind ≠ 1 → started v e.steals)) ∧
    ((∀ v : Fin 6, e.voices[v].busy = true → e.voices[v].cue ≠ n) →
      (∀ v : Fin 6, e.voices[v].busy = false → (∀ w : Fin 6, w < v → e.voices[w].busy = true) →
        started v e.steals) ∧
      ((∀ v : Fin 6, e.voices[v].busy = true) →
        (∀ v : Fin 6, r.priority < e.voicePriority v →
          (∀ w : Fin 6, e.voicePriority w < e.voicePriority v ∨
            e.voicePriority w = e.voicePriority v ∧ e.order.idxOf v ≤ e.order.idxOf w) →
          started v (e.steals + 1#16)) ∧
        ((∀ v : Fin 6, e.voicePriority v ≤ r.priority) →
          result = .noVoice ∧ t.sound = { e with noVoice := e.noVoice + 1#16 } ∧
            t.EventsAs (s.event .cueRefused (BitVec.ofNat 8 n) (match source with
              | .slot => 1#16
              | .radio => 2#16
              | .function => 3#16
              | .chuff => 4#16)) ∧
            s.SameExcept t [.sound, .events, .eventSeq, .attention])))

/-- R126: a STOP of a cue in a voice. HELD records its release while LEADING and passes from LOOPING to the end clip,
or to FREE without one; other kinds fade; a voice TAILING or FADING of a HELD cue, and one FADING of any, go on. -/
def Obligations.StopReleasesOrFades : Prop :=
  ∀ (s : State) (n : Nat) (r : CueRecord) (v : Fin 6),
    s.part.active = true → s.sound.bank = .ready → s.sound.cue n = some r → s.VoicesSound →
    s.sound.voices[v].busy = true → s.sound.voices[v].cue = n →
    let x := s.sound.voices[v]
    let t := (s.stopCue n).1
    let y := t.sound.voices[v]
    (s.stopCue n).2 = .ok ∧
      (r.kind = 1 → x.state = .leading → y = { x with release := true }) ∧
      (r.kind = 1 → x.state = .looping → r.tail ≠ 0 →
        y = { x with state := .tailing, part := .tail, clip := r.tail, position := 0 }) ∧
      (r.kind = 1 → x.state = .looping → r.tail = 0 → y = { x with state := .free }) ∧
      (r.kind = 1 → x.state = .tailing ∨ x.state = .fading → y = x) ∧
      (r.kind ≠ 1 → x.state = .leading ∨ x.state = .looping ∨ x.state = .tailing →
        y = { x with state := .fading, fade := 320 }) ∧
      (r.kind ≠ 1 → x.state = .fading → y = x) ∧
      (∀ w : Fin 6, w ≠ v → t.sound.voices[w] = s.sound.voices[w]) ∧ s.SameExcept t [.sound]

/-- R127, R134, R165: CUE_SLOT_SCAN starts the scan timer again and writes the readings. In RUN the POSTED slots are
taken in slot order, each a START with its gain override or a STOP on what the slots before it have left: a wrong
action, a bank not READY and an unknown cue are refused by name, a request that is met ends DONE with OK, the request
bytes stand, and CUE is raised; other slots, and all slots outside RUN, are left alone. A host EMPTY for a slot that
waits next in the queue may be taken within the scan, as one data byte of the host's WRITE, and its row then changes
nothing, the result standing; or it is taken behind the scan and frees the slot. That an EMPTY arrives with a scan in
this way is the model's reading (log entry 44). -/
def Obligations.CueSlotScanTakesPostedSlots : Prop :=
  ∀ s : State, s.sound.scanTimer.isRunning = true →
    let posted (n : Fin 8) : Prop := s.part = .run ∧ s.cueSlots[n].state = .posted
    let meets (n : Fin 8) : Prop :=
      posted n ∧ s.pending.head? = some (.cueSlotStateWrite 0#8) ∧ s.port.phase = .writing ∧
        s.port.address.toNat = 0x0500 + 8 * n.val
    let call (u : State) (n : Fin 8) : State × CueResult :=
      let x := s.cueSlots[n]
      if x.action = 1#8 then u.startCue x.cue.toNat (if x.gain = 0#8 then none else some x.gain.toNat) .slot
      else if x.action = 2#8 then u.stopCue x.cue.toNat
      else (u.withSound { u.sound with badAction := u.sound.badAction + 1#16 }, .badAction)
    let before (n : Nat) : State :=
      ((List.finRange 8).take n).foldl (fun u m => if posted m then (call u m).1 else u) s
    ∃ t, exec .cueSlotScan s = .next t ∧
      t.sound = { (before 8).sound with scanTimer := .running (millis s.time + 20000) } ∧
      t.events = (before 8).events ∧ t.eventSeq = (before 8).eventSeq ∧
      (∀ n : Fin 8, ¬ posted n → t.cueSlots[n] = s.cueSlots[n]) ∧
      (∀ n : Fin 8, posted n →
        let x := s.cueSlots[n]
        let y := t.cueSlots[n]
        let wrong := x.action ≠ 1#8 ∧ x.action ≠ 2#8
        let unknown := x.cue = 0#8 ∨ s.sound.cues.length < x.cue.toNat
        y.cue = x.cue ∧ y.action = x.action ∧ y.gain = x.gain ∧
          y.state = (if y.result = .ok then .done else .refused) ∧ y.result = (call (before n.val) n).2 ∧
          (y.result = .badAction ↔ wrong) ∧
          (y.result = .noBank ↔ ¬ wrong ∧ s.sound.bank ≠ .ready) ∧
          (y.result = .noCue ↔ ¬ wrong ∧ s.sound.bank = .ready ∧ unknown) ∧ y.result ≠ .none ∧
          t.attention.pending[(3 : Fin 12)] = true) ∧
      (∀ n : Fin 8, meets n →
        (t.port = { s.port with address := s.port.address + 1#13 } ∧ exec (.cueSlotStateWrite 0#8) t = .next t) ∨
          t.port = s.port ∧ ∃ u, exec (.cueSlotStateWrite 0#8) t = .next u ∧ u.cueSlots[n].state = .empty) ∧
      ((∀ n : Fin 8, ¬ meets n) → t.port = s.port) ∧
      t.sound.bank = s.sound.bank ∧ t.sound.cues = s.sound.cues ∧
      t.SoundGroupShows ∧ s.GroupWritten t soundGroup t.sound.groupBytes ∧
      (s.part ≠ .run → s.SameExcept t [.sound, .store]) ∧
      s.SameExcept t [.sound, .cueSlots, .store, .events, .eventSeq, .attention, .port, .draws]

/-- R122, R123, R130, R132: OUTPUT_SAMPLE sums the busy voices' samples at their gains, that of a fading voice lowered by
its fade, and sends the sum at the effective volume, clamped and counted where it clamps, as a 16-bit word, most
significant bit first, in both slots of the I2S frame.
Each voice advances: inside its clip by one sample, at its end by its state, and a fade falls by 1 and ends FREE.
When the last voice ends, the 1 s amplifier hold timer starts, and AMP_HOLD_EXPIRY releases AMP_EN. In STARTING and
RESETTING nothing is sent. -/
def Obligations.OutputSampleMixesAndAdvances : Prop :=
  ∀ s : State, (s.part = .quiescing → s.acksNow.drive = false ∨ s.acks.sequencer = false ∨
      s.acksNow.adoption = false) →
    (s.part = .starting ∨ s.part = .resetting → exec .outputSample s = .next s) ∧
    (s.sound.ampTimer.isRunning = true →
      exec .ampHoldExpiry s =
        .next { s with sound := { s.sound with ampTimer := .stopped, ampEnabled := false } }) ∧
    (s.part.active = true →
      let given (v : Fin 6) : Int :=
        let x := s.sound.voices[v]
        let gain : Nat := if x.state = .fading then x.gain * x.fade / 320 else x.gain
        if x.state = .free then 0
        else match s.sound.clip x.clip with
          | some c => (s.flashAt (c.address + x.position)).toInt * gain
          | none => 0
      let mix := given 0 + given 1 + given 2 + given 3 + given 4 + given 5
      let scaled := Int.tdiv (mix * (s.sound.volume * s.sound.attenuation / 256 : Nat)) 256
      let out := max (-32768) (min 32767 scaled)
      ∃ t, exec .outputSample s = .next t ∧
        t.sound.output = out ∧ t.linkFrame.length = 32 ∧
        (∀ i, i < 16 →
          t.linkFrame[i]? = some ⟨false, (BitVec.ofInt 16 out).getLsbD (15 - i)⟩ ∧
            t.linkFrame[16 + i]? = some ⟨true, (BitVec.ofInt 16 out).getLsbD (15 - i)⟩) ∧
        t.sound.clipCounter =
          (if scaled < -32768 ∨ 32767 < scaled then s.sound.clipCounter + 1#16 else s.sound.clipCounter) ∧
        (∀ (v : Fin 6) (r : CueRecord) (c : ClipRecord),
          let x := s.sound.voices[v]
          let y := t.sound.voices[v]
          s.sound.cue x.cue = some r → s.sound.clip x.clip = some c → x.position < c.length →
          (x.state = .free → y = x) ∧
          (x.state ≠ .free → x.state ≠ .fading → x.position + 1 < c.length →
            y = { x with position := x.position + 1 }) ∧
          (x.state = .leading → x.position + 1 = c.length → r.kind ≠ 2 → x.release = false → r.loop ≠ 0 →
            y = { x with state := .looping, part := .loop, clip := r.loop, position := 0 }) ∧
          (x.state = .leading → x.position + 1 = c.length → r.kind ≠ 2 → x.release = true ∨ r.loop = 0 →
            r.tail ≠ 0 → y = { x with state := .tailing, part := .tail, clip := r.tail, position := 0 }) ∧
          (x.state = .leading → x.position + 1 = c.length →
            r.kind = 2 ∨ (x.release = true ∨ r.loop = 0) ∧ r.tail = 0 → y.state = .free) ∧
          (x.state = .looping → x.position + 1 = c.length → y = { x with position := 0 }) ∧
          (x.state = .tailing → x.position + 1 = c.length → y.state = .free) ∧
          (x.state = .fading → x.fade ≤ 1 ∨ x.position + 1 = c.length ∧ x.part ≠ .loop → y.state = .free) ∧
          (x.state = .fading → 1 < x.fade → x.position + 1 < c.length →
            y = { x with position := x.position + 1, fade := x.fade - 1 }) ∧
          (x.state = .fading → 1 < x.fade → x.position + 1 = c.length → x.part = .loop →
            y = { x with position := 0, fade := x.fade - 1 })) ∧
        t.sound.ampEnabled = s.sound.ampEnabled ∧
        (s.sound.anyBusy = true → t.sound.anyBusy = false →
          t.sound.ampTimer = .running (millis s.time + 1000000)) ∧
        (s.sound.anyBusy = false ∨ t.sound.anyBusy = true → t.sound.ampTimer = s.sound.ampTimer) ∧
        t.sound.bank = s.sound.bank ∧ t.sound.volume = s.sound.volume ∧
        (s.part ≠ .quiescing → t.acks = s.acks) ∧ s.SameExcept t [.sound, .acks])

/-! ### Trackside radio and the function table (chapter 9) -/

/-- R138 to R140: what each byte, a framing error and the gap timer's expiry do to the frame finder. A return to HUNT
empties the buffer and stops the gap timer, and counts as abandoned from LENGTH, BODY and CHECK; the second CRC byte
completes the frame. A gap timer that a byte has restarted does not expire (log entry 5). -/
def Obligations.FrameFinderMovesOnEachByte : Prop :=
  ∀ (s : State) (b : Byte),
    let r := s.radio
    let timer := Timer.running (millis s.time + 3000)
    let goesOn (finder : FinderState) (buffer : Frame) : State :=
      { s with radio := { r with finder := finder, buffer := buffer, gapTimer := timer } }
    let hunts (counted : Bool) : State :=
      { s with radio := { r with
        finder := .hunt, buffer := .empty, gapTimer := .stopped,
        abandoned := if counted then r.abandoned + 1#16 else r.abandoned } }
    (s.part = .starting ∨ s.part = .resetting → ∀ input, exec (.radioByte input) s = .next s) ∧
    (s.part.active = true →
      (r.finder = .hunt →
        exec (.radioByte (.byte b)) s = .next (if b = 0xB5#8 then goesOn .sync r.buffer else s) ∧
          exec (.radioByte .framingError) s = .next s) ∧
      (r.finder = .sync →
        exec (.radioByte (.byte b)) s = .next
          (if b = 0xB5#8 then goesOn .sync r.buffer
          else if b = 0x4A#8 then goesOn .length r.buffer else hunts false) ∧
          exec (.radioByte .framingError) s = .next (hunts false)) ∧
      (r.finder = .length →
        exec (.radioByte (.byte b)) s = .next
          (if 5 ≤ b.toNat ∧ b.toNat ≤ 16 then goesOn .body { r.buffer with len := b } else hunts true)) ∧
      (r.finder = .body →
        exec (.radioByte (.byte b)) s = .next
          (goesOn (if r.buffer.body.length + 1 < r.buffer.len.toNat then .body else .check)
            { r.buffer with body := r.buffer.body ++ [b] })) ∧
      (r.finder = .check → r.buffer.crc = [] →
        exec (.radioByte (.byte b)) s = .next (goesOn .check { r.buffer with crc := [b] })) ∧
      (∀ high : Byte, r.finder = .check → r.buffer.crc = [high] →
        exec (.radioByte (.byte b)) s = .next { s with radio := { r with
          finder := .hunt, buffer := .empty, gapTimer := .stopped,
          completed := some { r.buffer with crc := [high, b] } } }) ∧
      (r.finder = .length ∨ r.finder = .body ∨ r.finder = .check →
        exec (.radioByte .framingError) s = .next (hunts true))) ∧
    (s.hasExpired r.gapTimer = false → exec .gapTimerExpiry s = .next s) ∧
    (s.hasExpired r.gapTimer = true →
      exec .gapTimerExpiry s = .next
        (hunts (decide (r.finder = .length ∨ r.finder = .body ∨ r.finder = .check))))

/-- R5, R29, R116, R128, R144, R146, R152: a completed frame of each kind that passes the checks of R141 and its own is
routed: IGNORE leaves it, APPLY hands it to its applying block, FORWARD to the inbound list, BOTH to both, in the
order that `order` names. A write of function flags gives each flag written its state and source; where no state
changes that is all, and otherwise the lamps' activity and the smoke unit's enable are worked out anew and the sound
engine takes the edges in number order. That an OFF edge stops only a HELD cue of a READY bank, and that a radio CUE
carries the action codes of a cue slot, are the model's readings (log entries 32 and 51). -/
def Obligations.AcceptedCommandsAreRouted : Prop :=
  (∀ (s : State) (f : Frame) (via : Via) (order : Nat), order < 2 → s.Passes f via →
    let u := s.passed f via
    let h := f.heard via
    let p := s.radio.profile
    let byte (i : Nat) : Nat := u8At h.payload i
    let routed (routing : Routing) (sent : Heard) (order : Nat) (apply : State → State) :
        Host.Outcome State Fault Refusal :=
      .next (match routing with
        | .ignore => u
        | .apply => apply u
        | .forward => u.forward sent
        | .both => if order = 0 then (apply u).forward sent else apply (u.forward sent))
    (f.command = 0x10 → 2 ≤ h.payload.length → ∀ dir, Direction.ofCode (byte 1) = some dir →
      exec (.radioSpeed order) s =
        routed p.speed { h with payload := h.payload.set 0 (BitVec.ofNat 8 (min (byte 0) 120)) } order fun w =>
          if w.drive.directive.radioAllowed then
            w.writeTarget (stepToDu w.drive.table (min (byte 0) 120))
              (if via = .consist ∧ p.consistReversed = true then dir.flip else dir) .radio
          else w) ∧
    (f.command = 0x11 → exec (.radioHalt order) s = routed p.halt h order fun w => w.halt .radio) ∧
    (f.command = 0x20 → 2 ≤ h.payload.length → byte 0 ≤ 31 → byte 1 ≤ 1 →
      exec (.radioFunction order) s = routed p.function h order fun w =>
        w.writeFunctions (fun n => if n.val = byte 0 then some (byte 1 = 1) else none) .radio) ∧
    (f.command = 0x21 → 2 ≤ h.payload.length → byte 0 = 0 ∨ byte 0 = 8 ∨ byte 0 = 16 ∨ byte 0 = 24 →
      exec (.radioFunctionGroup order) s = routed p.functionGroup h order fun w =>
        w.writeFunctions (fun n => if byte 0 ≤ n.val ∧ n.val < byte 0 + 8
          then some ((byte 1).testBit (n.val - byte 0)) else none) .radio) ∧
    (f.command = 0x30 → 2 ≤ h.payload.length → byte 0 ≤ 63 →
      exec (.radioCue order) s = routed p.cue h order fun w =>
        if byte 1 = 1 then (w.startCue (byte 0) none .radio).1
        else if byte 1 = 2 then (w.stopCue (byte 0)).1
        else w.withSound { w.sound with badAction := w.sound.badAction + 1#16 }) ∧
    (f.command = 0x31 → 1 ≤ h.payload.length →
      exec .radioVolume s = routed p.volume h 0 fun w => w.withSound { w.sound with volume := byte 0 }) ∧
    (0x40 ≤ f.command → f.command ≤ 0x7F → exec .radioUser s = routed p.user h 0 fun w => w)) ∧
  ∀ (s : State) (write : Fin 32 → Option Bool) (source : Source),
    let t := s.writeFunctions write source
    let changes (n : Fin 32) : Prop := write n = some (!s.functions.flags[n].on)
    (∀ n : Fin 32, t.functions.flags[n] = (match write n with
      | some on => ⟨on, source⟩
      | none => s.functions.flags[n])) ∧
    ((∀ n : Fin 32, ¬ changes n) → s.SameExcept t [.functions]) ∧
    ((∃ n : Fin 32, changes n) →
      (∀ k : Fin 8, t.lamps.lamps[k].active = t.lampWanted k) ∧ t.smoke.enabled = t.smokeWanted ∧
        t.sound = (s.functionEdges write).sound ∧ t.EventsAs (s.functionEdges write)) ∧
    s.SameExcept t [.functions, .lamps, .smoke, .sound, .store, .events, .eventSeq, .attention]

/-- R141 to R144, R154: the first step that fails discards the frame and raises its own counter alone: a bad CRC; a part
state other than RUN; an address that is not ours; a duplicate, whose sender's entry is renewed; and a command that
fails its checks. The judgement is the same whichever row takes the frame. A frame is addressed by the primary
address, by the consist address unless that is 0, or, a HALT, by broadcast address 0; a duplicate has its sender's last
counter; and the sender's entry, new or renewed, goes to the back of the table, the front one leaving a table of 8. -/
def Obligations.DiscardedFramesAreCounted : Prop :=
  ∀ (s : State) (f : Frame) (c : Instr), s.radio.completed = some f →
    (c = .radioSpeed 0 ∧ f.command = 0x10 ∨ c = .radioHalt 0 ∧ f.command = 0x11 ∨
      c = .radioFunction 0 ∧ f.command = 0x20 ∨ c = .radioFunctionGroup 0 ∧ f.command = 0x21 ∨
      c = .radioCue 0 ∧ f.command = 0x30 ∨ c = .radioVolume ∧ f.command = 0x31 ∨
      c = .radioUser ∧ 0x40 ≤ f.command ∧ f.command ≤ 0x7F ∨
      c = .radioUnknownCommand ∧ knownCommand f.command = false) →
    let r := { s.radio with completed := none }
    let good := s.radio.framesGood + 1#16
    let address := (f.body.getD 0 0#8).toNat * 256 + (f.body.getD 1 0#8).toNat
    let p := s.radio.profile
    (∀ via, f.heard via =
      ⟨via, f.body.getD 2 0#8, f.body.getD 3 0#8, BitVec.ofNat 8 f.command, f.body.drop 5⟩) ∧
    (address = p.primary → p.addressedAs f = some .primary) ∧
    (address ≠ p.primary → address = p.consist → p.consist ≠ 0 → p.addressedAs f = some .consist) ∧
    (address ≠ p.primary → address = 0 → f.command = 0x11 → p.addressedAs f = some .broadcast) ∧
    (address ≠ p.primary → address ≠ p.consist ∨ p.consist = 0 → address ≠ 0 ∨ f.command ≠ 0x11 →
      p.addressedAs f = none) ∧
    (∀ via,
      let h := f.heard via
      let entry : Sender := ⟨h.sender, h.counter, s.time⟩
      let known := ∃ x ∈ r.senders, x.sender = h.sender
      (r.isDuplicate h = true ↔ ∃ x ∈ r.senders, x.sender = h.sender ∧ x.counter = h.counter) ∧
      (known → r.sendersAfter h s.time = (r.senders.filter fun x => x.sender ≠ h.sender) ++ [entry]) ∧
      (¬ known → r.senders.length < 8 → r.sendersAfter h s.time = r.senders ++ [entry]) ∧
      (¬ known → r.senders.length = 8 → r.sendersAfter h s.time = r.senders.tail ++ [entry])) ∧
    (f.crcMatches = false → exec c s = .next { s with radio := { r with crcBad := r.crcBad + 1#16 } }) ∧
    (f.crcMatches = true → s.part ≠ .run →
      exec c s = .next { s with radio := { r with framesGood := good, heldOff := r.heldOff + 1#16 } }) ∧
    (f.crcMatches = true → s.part = .run → r.profile.addressedAs f = none →
      exec c s = .next { s with
        radio := { r with framesGood := good, notAddressed := r.notAddressed + 1#16 } }) ∧
    (∀ via, f.crcMatches = true → s.part = .run → r.profile.addressedAs f = some via →
      r.isDuplicate (f.heard via) = true →
      exec c s = .next ((s.passed f via).withRadio
        { (s.passed f via).radio with duplicates := r.duplicates + 1#16 })) ∧
    (∀ via, s.Passes f via →
      knownCommand f.command = false ∨
        (f.command = 0x10 ∧ ((f.heard via).payload.length < 2 ∨ 1 < u8At (f.heard via).payload 1)) ∨
        (f.command = 0x20 ∧ ((f.heard via).payload.length < 2 ∨ 31 < u8At (f.heard via).payload 0 ∨
          1 < u8At (f.heard via).payload 1)) ∨
        (f.command = 0x21 ∧ ((f.heard via).payload.length < 2 ∨ u8At (f.heard via).payload 0 ∉ [0, 8, 16, 24])) ∨
        (f.command = 0x30 ∧ ((f.heard via).payload.length < 2 ∨ 63 < u8At (f.heard via).payload 0)) ∨
        (f.command = 0x31 ∧ (f.heard via).payload.length < 1) →
      exec c s = .next ((s.passed f via).withRadio
        { (s.passed f via).radio with refused := s.radio.refused + 1#16 }))

/-- R149, R150, R156: SILENCE_TIMER_EXPIRY, once the timeout is over, makes the receiver SILENT, hands the silence cause
to the drive, clears the target where the profile says so, which takes a HALTED or LOCKED drive to IDLE with DRIVE,
and raises RADIO_SILENT and SILENCE; a timer that a frame has restarted does not expire (log entry 5). ELAPSED_TICK
counts. A frame matched by primary or consist address arms the timer, starts it again, or ends silence with
RADIO_RESTORED and SILENCE; under momentum OFF R may then jump and bring a chuff, with what that raises. -/
def Obligations.SilenceBeginsAndEnds : Prop :=
  ∀ s : State,
    let r := s.radio
    let timeout := Timer.running (millis s.time + hundredMillis r.profile.silenceTimeout)
    let clears := r.profile.clearTarget = true ∧ (s.drive.state = .halted ∨ s.drive.state = .locked)
    let steady := s.drive.profile.momentum ≠ .off ∨ s.RampFollows ∧ s.drive.level = s.protectionLevel
    (s.hasExpired r.silenceTimer = false → exec .silenceTimerExpiry s = .next s) ∧
    (s.hasExpired r.silenceTimer = true → s.QuiesceOpen →
      ∃ t, exec .silenceTimerExpiry s = .next t ∧
        t.radio = { r with
          silence := .silent, silenceTimer := .stopped, elapsed := 0,
          elapsedTimer := .running (millis s.time + 100000) } ∧
        t.drive.level = t.protectionLevel ∧
        t.drive.silenceCause = (r.profile.silenceAction != .none) ∧
        (r.profile.clearTarget = true →
          t.drive.target = ⟨0, s.drive.target.direction, .radio⟩ ∧ t.drive.state ≠ .halted ∧
            t.drive.state ≠ .locked) ∧
        (r.profile.clearTarget = false → t.drive.target = s.drive.target) ∧
        (steady → clears → t.EventsAs (((s.raise .drive).event .radioSilent 0#8
          (BitVec.ofNat 16 r.profile.silenceTimeout)).raise .silence)) ∧
        (steady → ¬ clears → t.EventsAs
          ((s.event .radioSilent 0#8 (BitVec.ofNat 16 r.profile.silenceTimeout)).raise .silence)) ∧
        s.SameExcept t [.radio, .drive, .cadence, .smoke, .lamps, .sound, .store, .events, .eventSeq, .attention,
          .acks]) ∧
    (r.elapsedTimer.isRunning = true →
      exec .elapsedTick s = .next { s with radio := { r with
        elapsed := min (r.elapsed + 1) 65535, elapsedTimer := .running (millis s.time + 100000) } }) ∧
    (r.silence = .disarmed → r.profile.silenceTimeout = 0 →
      s.frameHeard = { s with radio := { r with heard := true } }) ∧
    (r.silence = .disarmed → 0 < r.profile.silenceTimeout →
      s.frameHeard.radio = { r with heard := true, silence := .listening, silenceTimer := timeout } ∧
        s.SameExcept s.frameHeard [.radio, .store]) ∧
    (r.silence = .listening → s.frameHeard = { s with radio := { r with silenceTimer := timeout } }) ∧
    (r.silence = .silent →
      let t := s.frameHeard
      let heard := { r with silence := .listening, silenceTimer := timeout, elapsedTimer := .stopped }
      t.radio = heard ∧
        t.EventsAs ((((s.withRadio heard).event .radioRestored 1#8 (BitVec.ofNat 16 r.elapsed)).raise
          .silence).recomputeProtection) ∧
        (s.drive.profile.momentum ≠ .off →
          t.EventsAs ((s.event .radioRestored 1#8 (BitVec.ofNat 16 r.elapsed)).raise .silence)) ∧
        t.drive.silenceCause = false ∧ t.drive.level = t.protectionLevel ∧ t.drive.target = s.drive.target ∧
        t.functions = s.functions ∧ t.inbound = s.inbound)

/-- R147, R148: a forward fills the lowest FREE record with the next seq and raises INBOX, unless no record is FREE or
the next seq stands in a FILLED one: then it is dropped, counted, and raised as INBOX_DROPPED and INBOX_FULL. -/
def Obligations.ForwardFillsOrDrops : Prop :=
  ∀ (s : State) (h : Heard),
    let t := s.forward h
    let seq := s.radio.inboundSeq + 1#8
    let taken := ∃ i : Fin 8, s.inbound[i].filled = true ∧ s.inbound[i].seq = seq
    (∀ i : Fin 8, ¬ taken → s.inbound[i].filled = false → (∀ j : Fin 8, j < i → s.inbound[j].filled = true) →
      t.inbound[i] = ⟨true, seq, h.sender, h.counter, h.command, h.via, h.payload⟩ ∧
        (∀ j : Fin 8, j ≠ i → t.inbound[j] = s.inbound[j]) ∧
        t.radio = { s.radio with inboundSeq := seq } ∧ t.attention = (s.raise .inbox).attention ∧
        s.SameExcept t [.inbound, .radio, .attention]) ∧
    (taken ∨ (∀ i : Fin 8, s.inbound[i].filled = true) →
      t.inbound = s.inbound ∧
        t.radio = { s.radio with inboundDropped := s.radio.inboundDropped + 1#16 } ∧
        t.EventsAs ((s.event .inboxDropped 0#8 (h.sender ++ h.command)).raise .inboxFull) ∧
        s.SameExcept t [.radio, .events, .eventSeq, .attention])

/-! ### Host port (section 10.1) -/

/-- R157, R159, R165, R172, R176: a transaction takes its mode from its instruction byte, 0x2C WRITE and 0x2D READ, and its 13-bit
address from the two bytes behind, ignores what follows another instruction, and ends with the release of chip select.
A READ serves the bytes from its address on, wrapping, most significant bit first, and captures UPTIME and
ATTN_PENDING at their first bytes. Outside the captures it finds the control words by 12.3, the cue slots, event records
and inbound records by 12.5 with the event codes and severities of section 11.2, and the store's own bytes elsewhere. That a READ has gone on to the byte of its next capture when that row comes, the
address then being 0x05 or 0x09, and that a row whose byte is not the next to capture changes nothing, is the model's
reading (log entry 21). -/
def Obligations.TransactionsAndCaptures : Prop :=
  ∀ (s : State) (address : BitVec 16) (i : Byte),
    (s.port.phase = .idle →
      exec (.hostAddressComplete 0x2D#8 address) s =
        .next { s with port := ⟨.reading, address.setWidth 13, none, none⟩ } ∧
      exec (.hostAddressComplete 0x2C#8 address) s =
        .next { s with port := ⟨.writing, address.setWidth 13, none, none⟩ } ∧
      (i ≠ 0x2C#8 → i ≠ 0x2D#8 →
        exec (.hostUnknownInstruction i) s = .next { s with port := { s.port with phase := .ignoring } })) ∧
    (s.port.phase = .ignoring →
      (∀ v, exec (.hostWrite v) s = .next s) ∧ exec (.hostAddressComplete i address) s = .next s ∧
        ∀ n, s.sdo true n = .low) ∧
    exec .chipSelectRelease s =
      .next { s with port := { s.port with phase := .idle, uptimeCapture := none, pendingCapture := none } } ∧
    (s.port.phase = .reading →
      let a := s.port.address.toNat
      (∀ n, s.sdo true n = .data (s.servedByte (BitVec.ofNat 13 (a + n)))) ∧
      (a ≤ 4 ∨ 8 < a →
        (∃ t, exec .uptimeReadCapture s = .next t ∧
          t.port = { s.port with address := 5#13, uptimeCapture := some s.uptime } ∧
          (∀ n : Fin 3, t.sdo true n.val = .data (s.uptime.extractLsb' (8 * (n.val + 1)) 8)) ∧
          s.SameExcept t [.port]) ∧
        exec .attnPendingReadCapture s = .next s) ∧
      (4 < a → a ≤ 8 →
        (∃ t, exec .attnPendingReadCapture s = .next t ∧
          t.port = { s.port with address := 9#13, pendingCapture := some s.attnPending } ∧
          t.sdo true 0 = .data (s.attnPending.extractLsb' 8 8) ∧ s.SameExcept t [.port]) ∧
        exec .uptimeReadCapture s = .next s)) ∧
    (s.port.uptimeCapture = none → s.port.pendingCapture = none →
      ∀ a : BitVec 13, s.servedByte a = s.storeByte a.toNat) ∧
    s.StoreReads ∧
    (∀ j, j < 8 → (Sdo.data i).line j = some (i.getLsbD (7 - j))) ∧
    (∀ n, s.sdo false n = .highImpedance) ∧ Sdo.highImpedance.line 0 = none ∧
    (∀ n : Fin 12, s.attnPending.getLsbD n.val = s.attention.pending[n])

/-- R157, R158: a HOST_WRITE lands by the access class of its address: in the sections' revisions and bodies, the
attention configuration and the scratch the byte is stored; a request is kept in COMMAND; in every byte the host does
not own it is discarded, and in STARTING everywhere: the other control words, the section headers, the cue slot
results, the readings, the records but for their state bytes, and every unassigned byte between and behind them, the
sections standing where 12.4 puts them. A value other than FREE at a record's state byte is discarded. At a byte that
has a row of its own, HOST_WRITE is that row. The address rises by 1 in every case. -/
def Obligations.HostWriteTakenOrDiscarded : Prop :=
  ((List.finRange 15).map fun k => (sectionBase k, sectionLength k)) =
      [(0x0100, 22), (0x0120, 32), (0x0150, 182), (0x0210, 9), (0x0220, 5), (0x0230, 13), (0x0250, 64), (0x02A0, 1),
        (0x02B0, 15), (0x02D0, 96), (0x0440, 5), (0x0450, 2), (0x0460, 8), (0x0470, 2), (0x0480, 8)] ∧
  ∀ (s : State) (v : Byte), s.port.phase = .writing →
    let a := s.port.address.toNat
    let moved := { s.port with address := s.port.address + 1#13 }
    let row (c : Instr) : Prop := exec c s = exec (.hostWrite v) s
    (a = 0x0A → row (.attnTake v)) ∧ (a = 0x0B → row (.nudge v)) ∧ (0x20 ≤ a → a < 0x39 → row (.attnConfigWrite v)) ∧
      (∀ k : Fin 15, a = sectionBase k → row (.revisionWrite v)) ∧
      (∀ n : Fin 8, a = 0x0500 + 8 * n.val → row (.cueSlotStateWrite v)) ∧
      (∀ n : Fin 24, a = 0x0C00 + 16 * n.val → v = 0#8 → row .eventRecordFree) ∧
      (∀ n : Fin 8, a = 0x0E00 + 24 * n.val → row (.inboundRecordFree v)) ∧
    ∃ t, exec (.hostWrite v) s = .next t ∧ t.port = moved ∧
      (s.part = .starting ∨ a < 0x0A ∨ 0x0D ≤ a ∧ a < 0x20 ∨
          0x39 ≤ a ∧ a < 0x0500 ∧
            (∀ k : Fin 15, a < sectionBase k ∨ sectionBase k + 4 + sectionLength k ≤ a) ∨
          (∃ k : Fin 15, sectionBase k < a ∧ a < sectionBase k + 4) ∨
          0x0500 ≤ a ∧ a < 0x0540 ∧ 4 ≤ (a - 0x0500) % 8 ∨ 0x0540 ≤ a ∧ a < 0x0C00 ∨
          0x0C00 ≤ a ∧ a < 0x0D80 ∧ ((a - 0x0C00) % 16 ≠ 0 ∨ v ≠ 0#8) ∨ 0x0D80 ≤ a ∧ a < 0x0E00 ∨
          0x0E00 ≤ a ∧ a < 0x0EC0 ∧ ((a - 0x0E00) % 24 ≠ 0 ∨ v ≠ 0#8) ∨ 0x0EC0 ≤ a ∧ a < 0x1000 →
        t = { s with port := moved }) ∧
      (s.part ≠ .starting → 0x1000 ≤ a ∨ 0x20 ≤ a ∧ a < 0x39 ∨
          (∃ k : Fin 15, a = sectionBase k ∨
            sectionBase k + 4 ≤ a ∧ a < sectionBase k + 4 + sectionLength k) →
        t.storeAt a = v ∧ s.StoreSameOutside t a 1 ∧ t.events = s.events ∧ t.drive = s.drive ∧
          s.SameExcept t [.store, .port, .attention, .adoption, .draws]) ∧
      (s.part ≠ .starting → a = 0x0C →
        t = { s with port := moved, command := if v = 0#8 then s.command else v }) ∧
      (s.part ≠ .starting → ∀ (n : Fin 8) (j : Nat), a = 0x0500 + 8 * n.val + j → 1 ≤ j → j ≤ 3 →
        t.cueSlots[n] = (if j = 1 then { s.cueSlots[n] with cue := v }
          else if j = 2 then { s.cueSlots[n] with action := v } else { s.cueSlots[n] with gain := v }) ∧
        (∀ m : Fin 8, m ≠ n → t.cueSlots[m] = s.cueSlots[m]) ∧ s.SameExcept t [.cueSlots, .port])

/-- R148, R159, R162, R163, R165, R170, R171, R174: the writes that have rows of their own: to the attention
configuration, ATTN_TAKE, NUDGE, a revision, a cue slot's state, and the state bytes of the event and inbound
records, which keep their other bytes. After a write to the configuration ATTN is asserted exactly when some source is
pending, unmasked and of a priority not greater than the threshold, a byte above 7 being read as 7. -/
def Obligations.HandshakeWritesActOnTheirBytes : Prop :=
  ∀ (s : State) (v : Byte), s.port.phase = .writing → s.part ≠ .starting →
    let a := s.port.address.toNat
    let moved := { s.port with address := s.port.address + 1#13 }
    (0x20 ≤ a → a < 0x39 → ∃ t, exec (.attnConfigWrite v) s = .next t ∧
      t.storeAt a = v ∧ s.StoreSameOutside t a 1 ∧ t.attention = { s.attention with asserted := t.attnLevel } ∧
      (t.attnLevel = true ↔ ∃ n : Fin 12, s.attention.pending[n] = true ∧ t.storeAt (0x20 + n.val) = 0#8 ∧
        min (t.storeAt (0x2C + n.val)).toNat 7 ≤ min (t.storeAt 0x38).toNat 7) ∧
      t.port = moved ∧ s.SameExcept t [.store, .attention, .port]) ∧
    (a = 0x0A → ∃ t, exec (.attnTake v) s = .next t ∧
      (∀ n : Fin 12, t.attention.pending[n] = if n.val = v.toNat then false else s.attention.pending[n]) ∧
      (v.toNat < 12 → t.attention.asserted = t.attnLevel) ∧
      (12 ≤ v.toNat → t.attention = s.attention) ∧ t.port = moved ∧ s.SameExcept t [.attention, .port]) ∧
    (a = 0x0B → ∃ t, exec (.nudge v) s = .next t ∧
      (∀ k : Fin 15, k.val = v.toNat → k ∉ s.adoption.nudges → s.adoption.nudges.length < 4 →
        t.adoption = { s.adoption with nudges := s.adoption.nudges ++ [k] }) ∧
      (15 ≤ v.toNat ∨ 4 ≤ s.adoption.nudges.length ∨ (∃ k ∈ s.adoption.nudges, k.val = v.toNat) →
        t.adoption = s.adoption) ∧
      t.port = moved ∧ s.SameExcept t [.adoption, .port]) ∧
    (∀ k : Fin 15, a = sectionBase k → ∃ t, exec (.revisionWrite v) s = .next t ∧
      t.storeAt a = v ∧ s.StoreSameOutside t a 1 ∧
      t.adoption = (if s.storeAt a = v then s.adoption
        else { s.adoption with marks := s.adoption.marks.set k true }) ∧
      t.port = moved ∧ s.SameExcept t [.store, .adoption, .port]) ∧
    (∀ n : Fin 8, a = 0x0500 + 8 * n.val → ∃ t, exec (.cueSlotStateWrite v) s = .next t ∧
      t.cueSlots[n] =
        (if v = 0#8 then { s.cueSlots[n] with state := .empty }
        else if v = 1#8 ∧ s.cueSlots[n].state = .empty then { s.cueSlots[n] with state := .posted }
        else s.cueSlots[n]) ∧
      (∀ m : Fin 8, m ≠ n → t.cueSlots[m] = s.cueSlots[m]) ∧ t.port = moved ∧
      s.SameExcept t [.cueSlots, .port]) ∧
    (∀ n : Fin 24, a = 0x0C00 + 16 * n.val → ∃ t, exec .eventRecordFree s = .next t ∧
      t.events[n] = { s.events[n] with filled := false } ∧
      (∀ m : Fin 24, m ≠ n → t.events[m] = s.events[m]) ∧ t.port = moved ∧ s.SameExcept t [.events, .port]) ∧
    (∀ n : Fin 8, a = 0x0E00 + 24 * n.val → ∃ t, exec (.inboundRecordFree v) s = .next t ∧
      t.inbound[n] = (if v = 0#8 then { s.inbound[n] with filled := false } else s.inbound[n]) ∧
      (∀ m : Fin 8, m ≠ n → t.inbound[m] = s.inbound[m]) ∧ t.port = moved ∧ s.SameExcept t [.inbound, .port])

/-! ### Part states, commands and resets (sections 10.5 and 10.6) -/

/-- R166: a request that its part state does not take is REFUSED, and one whose code names no command is REFUSED
everywhere: COMMAND becomes 0, COMMAND_RESULT says so, and nothing else changes. -/
def Obligations.CommandsRefusedByPartState : Prop :=
  ∀ s : State, s.part ≠ .starting →
    let refused : Host.Outcome State Fault Refusal := .next { s with command := 0#8, commandResult := .refused }
    (s.command = 1#8 → s.part ≠ .run → s.part ≠ .quiescing → exec .commandHalt s = refused) ∧
      (s.command = 2#8 → s.part ≠ .run → exec .commandQuiesce s = refused) ∧
      (s.command = 3#8 → s.part ≠ .quiescing → s.part ≠ .quiet → exec .commandResume s = refused) ∧
      (s.command = 4#8 → s.part = .resetting → exec .commandReset s = refused) ∧
      (4 < s.command.toNat → exec .commandUnknown s = refused)

/-- R40, R41, R53, R62, R101, R113, R118, R133, R154, R162, R166, R167: QUIESCE, and RESET from RUN with the reset mark,
enter QUIESCING: the 3 s deadline runs, PART_STATE is raised, and the seven blocks wind down, each acknowledging at
once where it has nothing to finish; under momentum OFF R is 0 at once, and a frame half received is abandoned. Where
no block has anything left to finish, the quiesce ends at once, in QUIET or in RESETTING. -/
def Obligations.QuiesceEntryWindsDown : Prop :=
  ∀ (s : State) (c : Instr) (mark : Bool), s.part = .run →
    c = .commandQuiesce ∧ s.command = 2#8 ∧ mark = false ∨ c = .commandReset ∧ s.command = 4#8 ∧ mark = true →
    (s.sequencer.inFlight ≠ none ∨ s.sound.anyBusy = true ∨ s.adoption.visit ≠ none ∨
        s.drive.ramp ≠ 0 ∧ s.drive.profile.momentum ≠ .off →
      ∃ t, exec c s = .next t ∧ t.command = 0#8 ∧ t.commandResult = .accepted ∧ t.part = .quiescing ∧
        t.resetMark = mark ∧ t.deadline = .running (millis s.time + 3000000) ∧
        t.acks = ⟨t.drive.ramp == 0, !s.sound.anyBusy, true, s.sequencer.inFlight.isNone, true, true,
          s.adoption.visit.isNone⟩ ∧
        t.EventsAs (s.raise .partState) ∧ t.effectiveTarget = 0 ∧ t.drive.target = s.drive.target ∧
        t.drive.ramp = (if s.drive.profile.momentum = .off then 0 else s.drive.ramp) ∧
        s.drive.WindowShut t.drive ∧ t.smoke.heater = 0 ∧ t.smoke.heaterPwm = 0 ∧ t.smoke.fan = 0 ∧
        t.smoke.fanPwm = 0 ∧ (∀ k : Fin 8, t.lamps.lamps[k].duty = 0 ∧ t.lamps.lamps[k].pwm = 0) ∧
        (∀ v : Fin 6,
          (s.sound.voices[v].state = .free ∨ s.sound.voices[v].state = .fading →
            t.sound.voices[v] = s.sound.voices[v]) ∧
          (s.sound.voices[v].state ≠ .free → s.sound.voices[v].state ≠ .fading →
            t.sound.voices[v] = { s.sound.voices[v] with state := .fading, fade := 320 })) ∧
        t.sound.bank = (if s.sound.bank = .mounting then .absent else s.sound.bank) ∧
        t.radio.finder = .hunt ∧ t.radio.buffer = .empty ∧ t.radio.gapTimer = .stopped ∧
        t.radio.silenceTimer = .stopped ∧ t.radio.silence = s.radio.silence ∧
        t.radio.abandoned =
          (if s.radio.finder = .length ∨ s.radio.finder = .body ∨ s.radio.finder = .check
            then s.radio.abandoned + 1#16 else s.radio.abandoned) ∧
        t.sequencer = { s.sequencer with requests := [] } ∧
        t.adoption = { s.adoption with sweep := none, sweepDeferred := false, sweepTimer := .stopped } ∧
        s.SameExcept t [.command, .commandResult, .part, .resetMark, .deadline, .acks, .drive, .sequencer, .cadence,
          .smoke, .lamps, .sound, .radio, .adoption, .store, .attention]) ∧
    (s.sequencer.inFlight = none → s.sound.anyBusy = false → s.adoption.visit = none →
      s.drive.ramp = 0 ∨ s.drive.profile.momentum = .off →
      ∃ t, exec c s = .next t ∧
        (mark = false → t.drive.ramp = 0 ∧ t.part = .quiet ∧ t.deadline = .stopped ∧ t.EventsAs (s.raise .partState) ∧
          t.bridgeMode = .coast ∧ (∀ d : Channel, t.appliedDuty d = 0 ∧ (t.drive.channels.get d).pwm = 0) ∧
          t.smoke.heater = 0 ∧ t.smoke.fan = 0 ∧ ∀ k : Fin 8, t.lamps.lamps[k].duty = 0) ∧
        (mark = true → t.part = .resetting ∧ t.resetMark = false ∧ t.deadline = .stopped ∧ t.time = 0 ∧
          t.commandResult = .none ∧ t.attention.asserted = false))

/-- R42, R62, R97, R101, R113, R118, R154, R162, R166: RESUME in QUIESCING and QUIET returns to RUN: the deadline and the
reset mark go, PART_STATE is raised, the target becomes magnitude 0 with its direction kept and source NONE, a stopped
drive is IDLE at once, a LISTENING receiver listens in full, a wanted mount begins, and the sweep starts. That the
mount begins with fault NONE is the model's reading (log entry 15). -/
def Obligations.ResumeReturnsToRun : Prop :=
  ∀ s : State, s.command = 3#8 → s.part = .quiescing ∨ s.part = .quiet →
    ∃ t, exec .commandResume s = .next t ∧ t.command = 0#8 ∧ t.commandResult = .accepted ∧ t.part = .run ∧
      t.deadline = .stopped ∧ t.resetMark = false ∧ t.acks = .none ∧
      t.adoption = { s.adoption with
        sweep := some 0, sweepDeferred := false, sweepTimer := .running (millis s.time + 10000) } ∧
      t.drive.target = ⟨0, s.drive.target.direction, .none⟩ ∧ t.effectiveTarget = 0 ∧
      (s.drive.state.stopped = true →
        t.drive.state = .idle ∧ t.drive.direction = s.drive.target.direction ∧
          t.drive.tripCount = (if s.drive.state = .locked then 0 else s.drive.tripCount) ∧
          t.attention = ((s.raise .partState).raise .drive).attention) ∧
      (s.drive.state.stopped = false → t.attention = (s.raise .partState).attention) ∧
      (s.drive.state = .tripped → t.drive.retryTimer = .stopped) ∧
      (s.drive.state = .running ∨ s.drive.state = .reversing →
        s.drive.ramp ≠ 0 → s.drive.profile.momentum ≠ .off →
        t.drive.state = (if s.drive.target.direction = s.drive.direction then .running else .reversing) ∧
          t.drive.direction = s.drive.direction ∧ t.drive.ramp = s.drive.ramp) ∧
      (s.drive.state = .running ∨ s.drive.state = .reversing →
        s.drive.ramp = 0 ∨ s.drive.profile.momentum = .off →
        t.drive.state = .idle ∧ t.drive.direction = s.drive.target.direction ∧ t.drive.ramp = 0) ∧
      (s.radio.silence = .listening → t.radio = { s.radio with
        silenceTimer := .running (millis s.time + hundredMillis s.radio.profile.silenceTimeout) }) ∧
      (s.radio.silence ≠ .listening → t.radio = s.radio) ∧
      (s.sound.bank = .absent → s.sound.directive.mount = true →
        t.sound = { s.sound with
          bank := .mounting, fault := .none, progress := 0, header := none, cues := [], clips := [] }) ∧
      (s.sound.bank ≠ .absent ∨ s.sound.directive.mount = false → t.sound = s.sound) ∧
      t.smoke.fan = t.fanDuty ∧
      (∀ k : Fin 8, t.lamps.lamps[k].duty = t.lamps.lamps[k].level * s.lamps.factor / 256) ∧
      s.SameExcept t [.command, .commandResult, .part, .resetMark, .deadline, .acks, .adoption, .attention, .drive,
        .cadence, .smoke, .lamps, .sound, .radio, .store]

/-- R161, R162, R165, R166, R169: RESET in QUIESCING sets the reset mark and changes nothing else. RESET in QUIET enters
RESETTING at once: every block takes its soft-reset values, the odometer and the fluid budget are kept, the readings
groups are zeroed, and the attention configuration, the sections, the retained group and the scratch are kept. That
the SHORT levels and the port's transaction stand is the model's reading (log entry 27), as are the reset values that
the manual does not state (log entries 12 and 29). -/
def Obligations.ResetMarksOrResets : Prop :=
  ∀ s : State, s.command = 4#8 →
    (s.part = .quiescing →
      exec .commandReset s =
        .next { s with command := 0#8, commandResult := .accepted, resetMark := true }) ∧
    (s.part = .quiet →
      ∃ t, exec .commandReset s = .next t ∧ t.part = .resetting ∧ t.time = 0 ∧ t.resetMark = false ∧
        t.deadline = .stopped ∧ t.command = 0#8 ∧ t.commandResult = .none ∧
        (∀ a, t.storeAt a = if 0x0800 ≤ a ∧ a < 0x0A70 then 0#8 else s.storeAt a) ∧
        (∀ n : Fin 8, t.cueSlots[n] = ⟨.empty, 0#8, 0#8, 0#8, .none⟩) ∧
        (∀ n : Fin 24, t.events[n] = .zero) ∧ t.eventSeq = 0#16 ∧ (∀ n : Fin 8, t.inbound[n] = .zero) ∧
        (∀ n : Fin 12, t.attention.pending[n] = false) ∧ t.attention.asserted = false ∧
        (∀ k : Fin 15, t.adoption.adopted[k] = false) ∧ t.adoption.nudges = [] ∧ t.adoption.visit = none ∧
        t.adoption.sweep = none ∧
        t.drive = { Drive.reset with
          shortA := s.drive.shortA, shortB := s.drive.shortB, shortSamples := s.drive.shortSamples } ∧
        t.sequencer = .reset ∧ t.power = .reset ∧
        t.cadence = { Cadence.reset with odometer := s.cadence.odometer } ∧
        t.smoke = { Smoke.reset with budget := s.smoke.budget } ∧ t.lamps = .reset ∧ t.sound = .reset ∧
        t.radio = .reset ∧ t.functions = .reset ∧ t.bridgeMode = .coast ∧ t.port = s.port ∧
        t.flash = s.flash ∧ t.pending = s.pending)

/-- R41, R62, R133, R163, R167: QUIESCE_DEADLINE_EXPIRY forces each block that has not acknowledged: R and the
corrections go to 0, the bridges coast, as the readings written at the forced drive's change of state show, every voice
is FREE, the conversion's code is discarded, and the visit ends without a header. One QUIESCE_FORCED names each, in
whatever order `order` names (log entry 4), behind the events that the forcing itself brings (the model's choice, log
entry 52), and the quiesce ends in QUIET, or in RESETTING. That the bridges coast from the forcing on until QUIET, and
so in those readings, is the model's reading (log entry 55). Before the deadline the last acknowledgement ends it: the
drive's as R reaches 0 by a step, a HALT, a trip or SPENT, the sound engine's as its last voice fades out, the
sequencer's as its conversion completes, and the adoption unit's as its visit ends, not before the adopted byte where
the visit stops at its verdict (log entry 54). While another block is still to acknowledge, the drive's and the sound
engine's stand and the quiesce goes on. -/
def Obligations.QuiesceDeadlineForces : Prop :=
  ∀ (s : State) (order : Nat), s.part = .quiescing →
    let a := s.acks
    let now := s.acksNow
    let missing : List Nat := ([(a.drive, 1), (a.sound, 2), (a.smoke, 3), (a.sequencer, 4), (a.radio, 5), (a.lamps, 6),
      (a.adoption, 7)].filter fun x => !x.1).map Prod.snd
    let ends (c : Instr) (acks : Acks) : Prop := acks.all = true → ∃ t, exec c s = .next t ∧ s.QuiesceEnded t
    let goesOn (c : Instr) (acks : Acks) : Prop := acks.all = false →
      ∃ t, exec c s = .next t ∧ t.part = .quiescing ∧ t.deadline = s.deadline ∧ t.acks = acks
    (order < 24 * handOffOrders → s.deadline.isRunning = true → s.resetMark = true →
      ∃ t, exec (.quiesceDeadlineExpiry order) s = .next t ∧ t.part = .resetting ∧
        (∀ n : Fin 24, t.events[n] = .zero) ∧ t.attention.asserted = false) ∧
    (order < 24 * handOffOrders → s.deadline.isRunning = true → s.resetMark = false →
      ∃ t, exec (.quiesceDeadlineExpiry order) s = .next t ∧ t.part = .quiet ∧ t.deadline = .stopped ∧
        t.acks = .none ∧ t.bridgeMode = .coast ∧ (∀ d : Channel, t.appliedDuty d = 0) ∧
        (a.drive = false → s.drive.AtRest t.drive) ∧ t.drive.forced = false ∧
        (a.drive = false → s.drive.state = .reversing ∨ s.drive.state = .running ∧ s.drive.target.magnitude = 0 →
          t.drive.state = (if s.drive.target.magnitude = 0 then .idle else .running) ∧
            t.drive.direction = (if s.drive.state = .reversing then s.drive.target.direction else s.drive.direction) ∧
            t.storeNum (driveGroup + 1) = (if s.drive.target.magnitude = 0 then 0 else 1) ∧
            t.storeNum (driveGroup + 30) = 1 ∧ t.storeNum (driveGroup + 44) = 1) ∧
        (a.sound = false → t.sound.order = [] ∧ ∀ v : Fin 6, t.sound.voices[v].state = .free) ∧
        (a.sound = true → t.sound = s.sound ∨ a.sequencer = false ∧ s.sequencer.waiting ≠ none) ∧
        (a.sequencer = false → s.sequencer.waiting = none →
          t.sequencer.slots = s.sequencer.slots ∧ t.sequencer.offset = s.sequencer.offset) ∧
        (a.sequencer = true → t.sequencer = s.sequencer) ∧
        (a.adoption = false → t.adoption.visit = none) ∧ t.adoption.adopted = s.adoption.adopted ∧
        (∀ n, n < 0x0800 → t.storeAt n = s.storeAt n) ∧
        (a.sequencer = true ∨ s.sequencer.waiting = none →
          t.EventsAs (((arrange missing (order % 24)).foldl
            (fun u n => u.event .quiesceForced (BitVec.ofNat 8 n) 0#16) s).raise .partState))) ∧
    (s.drive.rampTimer.isRunning = true → s.drive.profile.momentum ≠ .off →
      rampStepFrom s.drive.profile s.drive.ramp s.effectiveTarget = 0 →
      ends .rampStep { now with drive := true } ∧ goesOn .rampStep { now with drive := true }) ∧
    (s.command = 1#8 → s.drive.state ≠ .halted → s.drive.state ≠ .locked →
      ends .commandHalt { now with drive := true } ∧ goesOn .commandHalt { now with drive := true }) ∧
    (∀ c : Channel, order < 2 → s.drive.state = .idle ∨ s.drive.state = .running ∨ s.drive.state = .reversing →
      ends (.trip c order) { now with drive := true } ∧ goesOn (.trip c order) { now with drive := true }) ∧
    (order < 24 → s.power.outageTimer.isRunning = true → s.power.state = .bridging → s.power.bridge ≤ 1 →
      ends (.outageTick order) { now with drive := true } ∧ goesOn (.outageTick order) { now with drive := true }) ∧
    ((∀ v : Fin 6, s.sound.voices[v].busy = true →
        s.sound.voices[v].state = .fading ∧ s.sound.voices[v].fade ≤ 1) →
      ends .outputSample { now with sound := true } ∧ goesOn .outputSample { now with sound := true }) ∧
    (∀ raw : BitVec 12, order < handOffOrders * handOffOrders → s.sequencer.inFlight ≠ none →
      ends (.adcConversionComplete raw order) { now with sequencer := true }) ∧
    (∀ v : Visit, order < 24 → s.adoption.visit = some v →
      let twice := ∃ (o : Nat) (rest : List Instr), s.pending = adoptCommand o v.section_ :: rest
      (v.verdict = none → twice → s.isTorn v = true) →
      ends (adoptCommand order v.section_) { now with adoption := true }) ∧
    (∀ v : Visit, order < 24 → s.adoption.visit = some v → v.verdict = none → s.isTorn v = false →
      a.adoption = false → ∀ (o : Nat) (rest : List Instr), s.pending = adoptCommand o v.section_ :: rest →
      ∃ t, exec (adoptCommand order v.section_) s = .next t ∧ t.part = .quiescing ∧ t.deadline = s.deadline ∧
        t.acks.adoption = false)

/-- R47, R159, R162, R168, R169: a power-on reset zeroes the whole store but for the control words and gives every block
its reset value. STORE_INITIALISED and RESET_COMPLETE make the part state RUN: RESET_DONE with its subject fills the
first record with seq 1, PART_STATE is raised, the blocks' timers, the first pass and the first sweep start. The reset
values that the manual does not state are the model's (log entries 12 and 29), and so is the name COAST in STARTING
(log entry 38). After a power-on reset the outputs stand as R175 says. -/
def Obligations.ResetsAndEntryToRun : Prop :=
  ∀ s : State,
    (∃ t, exec .powerOnReset s = .next t ∧ t.part = .starting ∧ t.storeByte 0 = 0x10#8 ∧ t.storeByte 1 = 0x4A#8 ∧
      t.storeByte 2 = 1#8 ∧ (∀ n, 3 ≤ n → t.storeByte n = 0#8) ∧ t.time = 0 ∧ t.resetMark = false ∧
      t.deadline = .stopped ∧ t.attention.asserted = false ∧
      t.drive = { Drive.reset with shortSamples := s.drive.shortSamples } ∧ t.sequencer = .reset ∧
      t.power = .reset ∧ t.cadence = .reset ∧ t.cadence.odometer = 0#32 ∧ t.smoke = .reset ∧ t.smoke.budget = 0 ∧
      t.lamps = .reset ∧ t.sound = .reset ∧ t.radio = .reset ∧ t.functions = .reset ∧ t.adoption = .reset ∧
      t.bridgeMode = .coast ∧ (∀ c : Channel, t.bridgePins c = ⟨false, false, 0⟩) ∧ t.heaterPin = 0 ∧
      t.fanPin = 0 ∧ (∀ k : Fin 8, t.lampPin k = 0) ∧ t.chargePin = false ∧ t.ampEnablePin = false ∧
      t.dirPin = false ∧ t.attnPin = false ∧ t.sdataPin = 0 ∧ t.flashSelectPin = true ∧ t.flash = s.flash) ∧
    (∀ (c : Instr) (subject : Byte),
      c = .storeInitialised ∧ s.part = .starting ∧ subject = 1#8 ∨
        c = .resetComplete ∧ s.part = .resetting ∧ subject = 2#8 →
      (∀ n : Fin 24, s.events[n] = .zero) → s.eventSeq = 0#16 → s.sequencer = .reset →
      let readings := Timer.running (millis s.time + 10000)
      ∃ t, exec c s = .next t ∧ t.part = .run ∧
        t.events[(0 : Fin 24)] = ⟨true, some .resetDone, subject, 1, 1#16, 0#16, s.uptime, s.uptime⟩ ∧
        (∀ n : Fin 24, n ≠ 0 → t.events[n] = .zero) ∧ t.eventSeq = 1#16 ∧
        (∀ n : Fin 12, t.attention.pending[n] = (s.attention.pending[n] || n == 0 || n == 11)) ∧
        t.attention.asserted = t.attnLevel ∧
        t.drive = { s.drive with readingsTimer := readings } ∧ t.power = { s.power with readingsTimer := readings } ∧
        t.cadence = { s.cadence with readingsTimer := readings } ∧
        t.radio = { s.radio with readingsTimer := readings } ∧
        t.smoke = { s.smoke with budgetTimer := .running (millis s.time + 100000) } ∧
        t.lamps = { s.lamps with tickTimer := .running (millis s.time + 10000) } ∧
        t.sound = { s.sound with scanTimer := .running (millis s.time + 20000) } ∧
        t.sequencer.scanTimer = .running (millis s.time + 5000) ∧ t.sequencer.inFlight = some ⟨0, none⟩ ∧
        (∀ ks, t.sequencer.pass = some ks →
          ks.Pairwise (· < ·) ∧ ∀ k : SlotIx, k ∈ ks ↔ k ≠ 0 ∧ k ≠ 5 ∧ k ≠ 6) ∧
        t.sequencer.pass.isSome = true ∧
        t.adoption = { s.adoption with
          sweep := some 0, sweepDeferred := false, sweepTimer := .running (millis s.time + 10000) } ∧
        s.SameExcept t [.part, .events, .eventSeq, .attention, .drive, .power, .cadence, .radio, .smoke, .lamps,
          .sound, .sequencer, .adoption])

/-! ### Adoption (section 10.3) -/

/-- R161 to R163: SWEEP_TIMER_EXPIRY starts the timer again and a sweep, or defers it while one is in progress, and
DEFERRED_SWEEP_START starts it after. VISIT_BEGIN, with the unit free in RUN, takes the front of the nudge list, else
the sweep's next section: a due one is read and its mark cleared, another visit is over at once. That
DEFERRED_SWEEP_START without a deferred sweep, and VISIT_BEGIN with nothing to visit, leave the state as it is is the
model's choice (log entry 6). -/
def Obligations.SweepsAndVisitsBegin : Prop :=
  ∀ s : State,
    let u := s.adoption
    let timer := Timer.running (millis s.time + 10000)
    let due (k : Fin 15) : Prop := s.storeAt (sectionBase k) ≠ 0#8 ∧
      (s.storeAt (sectionBase k) ≠ s.storeAt (sectionBase k + 1) ∨ u.adopted[k] = false)
    let begins (k : Fin 15) (left : Adoption) : Prop :=
      (due k → exec .visitBegin s = .next { s with adoption := { left with
        marks := u.marks.set k false, visit := some ⟨k, s.storeAt (sectionBase k), [], none⟩ } }) ∧
      (¬ due k → exec .visitBegin s = .next { s with adoption := { left with
        visit := none, sweep := if left.sweep = some 15 then none else left.sweep } })
    (u.sweepTimer.isRunning = true →
      (u.sweep = none →
        exec .sweepTimerExpiry s = .next { s with adoption := { u with sweepTimer := timer, sweep := some 0 } }) ∧
      (u.sweep ≠ none →
        exec .sweepTimerExpiry s = .next { s with adoption := { u with sweepTimer := timer, sweepDeferred := true } })) ∧
    (u.sweepDeferred = true → u.sweep = none →
      exec .deferredSweepStart s = .next { s with adoption := { u with sweep := some 0, sweepDeferred := false } }) ∧
    (u.sweepDeferred = false ∨ u.sweep ≠ none → exec .deferredSweepStart s = .next s) ∧
    (s.part = .run → u.visit = none →
      (∀ (k : Fin 15) (ks : List (Fin 15)), u.nudges = k :: ks → begins k { u with nudges := ks }) ∧
      (∀ k : Fin 15, u.nudges = [] → u.sweep = some k.val → begins k { u with sweep := some (k.val + 1) }) ∧
      (u.nudges = [] → u.sweep = none → exec .visitBegin s = .next s)) ∧
    (s.part ≠ .run ∨ u.visit ≠ none → exec .visitBegin s = .next s)

/-- R161 to R164: the end of a visit, for each of the fifteen sections. A torn copy leaves the header, the flag and the
owner as they were. Another is answered: the first refusal met hands over nothing and gives REFUSED with its code;
without one, the first clamped field gives CLAMPED with its number, and none gives ACCEPTED; the adopted byte takes
the revision read first, the flag is set, and CLAMPED and REFUSED raise VERDICT. A field is clamped where its value
lies outside its range, and refused where its code is not listed, field by field in the numbering of 12.4; that a
ONE_SHOT lamp's run is not checked follows R177 and R109 (log entry 45). Where the section's row is queued twice in a row,
the first taking stops at the verdict, so that the header shows the new verdict beside the old adopted byte, and the
second goes on from the adopted byte; that the sender says so in this way is the model's choice (log entry 54). -/
def Obligations.VisitsEndTornOrAnswered : Prop :=
  (∀ (k : Fin 15) (body : List Byte), sectionFindings k body = (sectionRules k body).map FieldRule.finding) ∧
  ∀ (s : State) (k : Fin 15) (order : Nat) (v : Visit), order < 24 → s.part.active = true →
    s.adoption.visit = some v → v.section_ = k → s.QuiesceOpenForVisit k →
    let u := s.adoption
    let base := sectionBase k
    let freed := { u with visit := none, sweep := if u.sweep = some 15 then none else u.sweep }
    let torn := s.storeAt base ≠ v.revision ∨ u.marks[k] = true
    let found := sectionFindings k (v.copied ++ (s.sectionBody k).drop v.copied.length)
    let refusal (f : Finding) : Nat := match f with
      | .fine => 0
      | .clamped => 0
      | .unknownCode => 1
      | .badPartner => 2
    let twice := ∃ (o : Nat) (rest : List Instr), s.pending = adoptCommand o k :: rest
    let answered (t : State) (verdict : Byte) (reason : Nat) (d : Verdict) : Prop :=
      t.storeAt (base + 2) = verdict ∧ t.storeAt (base + 3) = BitVec.ofNat 8 reason ∧
        (¬ twice → t.storeAt (base + 1) = v.revision ∧
          t.adoption = { freed with adopted := u.adopted.set k true }) ∧
        (twice → t.storeAt (base + 1) = s.storeAt (base + 1) ∧
          t.adoption = { u with visit := some { v with verdict := some d } })
    (v.verdict = none → torn → ∃ t, exec (adoptCommand order k) s = .next t ∧ t.adoption = freed ∧
      s.SameExcept t [.adoption, .acks]) ∧
    (v.verdict = none → ¬ torn → ∃ t, exec (adoptCommand order k) s = .next t ∧
      (∀ (n : Nat) (f : Finding), found[n]? = some f → 0 < refusal f →
        (∀ (m : Nat) (g : Finding), m < n → found[m]? = some g → refusal g = 0) →
        answered t 3#8 (refusal f) (.refused (refusal f)) ∧ s.StoreSameOutside t (base + 1) 3 ∧
          (¬ twice → t.EventsAs (s.raise .verdict)) ∧ (twice → t.EventsAs s) ∧
          s.SameExcept t [.adoption, .store, .attention, .acks]) ∧
      ((∀ f ∈ found, refusal f = 0) →
        (∀ n : Nat, found[n]? = some .clamped → (∀ m, m < n → found[m]? ≠ some .clamped) →
          answered t 2#8 (n + 1) (.clamped (n + 1)) ∧
            (¬ twice → t.attention.pending[(2 : Fin 12)] = true) ∧
            (twice → t.attention.pending[(2 : Fin 12)] = s.attention.pending[(2 : Fin 12)])) ∧
        (Finding.clamped ∉ found → answered t 1#8 0 .accepted))) ∧
    (∀ d : Verdict, v.verdict = some d → ∃ t, exec (adoptCommand order k) s = .next t ∧
      t.storeAt (base + 1) = v.revision ∧ s.StoreSameOutside t (base + 1) 1 ∧
      t.adoption = { freed with adopted := u.adopted.set k true } ∧
      t.EventsAs (if d = .accepted then s else s.raise .verdict) ∧
      s.SameExcept t [.adoption, .store, .attention, .acks])

/-- R1, R4, R6, R13, R14, R16 to R18, R21, R40: the hand-overs to the drive. The DRIVE_PROFILE is taken field by field
within its ranges, C and D are formed anew, the integral fits the new limit, and momentum OFF brings R to T at once.
A period of 0 mutes the open window. The SPEED_TABLE is stored. The DRIVE directive writes the target, source HOST,
by its mode. -/
def Obligations.HandOversToTheDrive : Prop :=
  ∀ (s : State) (body : List Byte),
    (s.HandsOver 0 body → s.QuiesceOpenForVisit 0 →
      ∃ t, exec .adoptDriveProfile s = .next t ∧
        let p := t.drive.profile
        let trim (i : Nat) : Trim := ⟨u8At body i, max (-64) (min 63 (s8At body (i + 1))), u8At body (i + 2) == 1⟩
        p.accelStep = max 1 (u8At body 0) ∧ p.decelStep = max 1 (u8At body 1) ∧
        p.accelInterval = max 1 (u8At body 2) ∧ p.decelInterval = max 1 (u8At body 3) ∧
        some p.momentum = Momentum.ofCode (u8At body 4) ∧ p.trim.a = trim 5 ∧ p.trim.b = trim 8 ∧
        p.kp = min 63 (u8At body 11) ∧ p.ki = min 63 (u8At body 12) ∧ p.integralLimit = min 1023 (u16At body 13) ∧
        p.emfScale = u8At body 15 ∧ p.emfPeriod = u8At body 16 ∧ p.settle = max 10 (u8At body 17) ∧
        p.retryDelay = max 10 (u8At body 18) ∧ p.retryLimit = min 7 (u8At body 19) ∧
        p.forgive = max 10 (u8At body 20) ∧ p.holdBrake = (u8At body 21 == 1) ∧
        t.DutyFormed ∧ t.drive.target = s.drive.target ∧
        (∀ c : Channel,
          -(p.integralLimit : Int) ≤ (t.drive.channels.get c).integral ∧
            (t.drive.channels.get c).integral ≤ p.integralLimit ∧
            (p.emfPeriod = 0 →
              (t.drive.channels.get c).integral = 0 ∧ (t.drive.channels.get c).correction = 0)) ∧
        (p.emfPeriod = 0 → t.drive.window ≠ .closed → t.drive.windowMuted = true) ∧
        (s.drive.windowMuted = true → t.drive.window ≠ .closed → t.drive.windowMuted = true) ∧
        (p.trim.a.enabled = false → p.trim.b.enabled = false → t.drive.window = .closed) ∧
        (p.momentum = .off → t.drive.ramp = t.effectiveTarget) ∧
        (p.momentum ≠ .off → t.drive.ramp = s.drive.ramp ∧ t.events = s.events) ∧
        s.SameExcept t [.drive, .cadence, .smoke, .lamps, .sound, .store, .events, .eventSeq, .attention, .adoption,
          .acks]) ∧
    (s.HandsOver 1 body → s.QuiesceOpenForVisit 1 →
      ∃ t, exec .adoptSpeedTable s = .next t ∧
        (∀ i : Fin 16, t.drive.table[i] = min 1023 (u16At body (2 * i.val))) ∧
        t.drive = { s.drive with table := t.drive.table } ∧
        s.SameExcept t [.drive, .store, .adoption, .attention, .acks]) ∧
    (s.HandsOver 10 body → s.QuiesceOpenForVisit 10 →
      ∃ (t : State) (mode : DemandMode) (dir : Direction), exec .adoptDriveDirective s = .next t ∧
        DemandMode.ofCode (u8At body 0) = some mode ∧ Direction.ofCode (u8At body 3) = some dir ∧
        (mode = .direct →
          let demand := min 1023 (u16At body 1)
          let u := s.withDrive { s.drive with directive := ⟨mode, demand, dir, u8At body 4 == 1⟩ }
          t.drive = (u.writeTarget demand dir .host).drive) ∧
        (mode = .step →
          let demand := min 120 (u16At body 1)
          let u := s.withDrive { s.drive with directive := ⟨mode, demand, dir, u8At body 4 == 1⟩ }
          t.drive = (u.writeTarget (stepToDu s.drive.table demand) dir .host).drive) ∧
        s.SameExcept t [.drive, .cadence, .smoke, .lamps, .sound, .store, .events, .eventSeq, .attention, .adoption,
          .acks])

/-- R59, R60, R72, R78, R83, R84, R116, R145, R151: the hand-overs to the sequencer, whose profile waits for a pass end;
to the power supervisor, which publishes changed values while BRIDGING; to the cadence unit, whose source and interval
are settled anew; the SOUND_PROFILE; and to the receiver, whose silence is armed, disarmed or ended. Where one adoption
changes the source in force and K together, R78 does not order the two: that the source is settled with the new K, so that
one that turns from SYNTHETIC to CAM leaves the interval none and the chuff timer stopped, with no chuff whatever the new
K, and one that turns from CAM to SYNTHETIC forms its interval once, from the new K, is the model's choice (log entry 42).
That a hand-over in QUIESCING acts as one in RUN, a silence timer starting there, is the model's reading (log entry
30). -/
def Obligations.HandOversOfProfiles : Prop :=
  ∀ (s : State) (body : List Byte) (order : Nat), order < 24 →
    (s.HandsOver 2 body → s.QuiesceOpenForVisit 2 →
      ∃ (t : State) (p : MeasureProfile), exec .adoptMeasureProfile s = .next t ∧
        t.sequencer = { s.sequencer with waiting := some p } ∧
        p.scanPeriod = max 2 (u8At body 0) ∧ p.correction = (u8At body 1 == 1) ∧
        (∀ k : SlotIx,
          let x := p.slots[k]
          let i := 2 + 15 * k.val
          x.enabled = (u8At body i == 1) ∧
            (k ≠ 5 → k ≠ 6 → x.divisor = max 1 (min 16 (u8At body (i + 1)))) ∧
            x.low = min 4095 (u16At body (i + 2)) ∧ x.high = min 4095 (u16At body (i + 4)) ∧
            x.faultCount = min 15 (u8At body (i + 6)) ∧ x.hysteresis = min 127 (u8At body (i + 7)) ∧
            some x.driveLow = Level.ofCode (u8At body (i + 8)) ∧
            some x.driveHigh = Level.ofCode (u8At body (i + 9)) ∧
            some x.smokeLow = SmokeAction.ofCode (u8At body (i + 10)) ∧
            some x.smokeHigh = SmokeAction.ofCode (u8At body (i + 11)) ∧
            x.substitute = (u8At body (i + 12) == 1) ∧ x.substituteValue = min 4095 (u16At body (i + 13))) ∧
        s.SameExcept t [.sequencer, .store, .adoption, .attention, .acks]) ∧
    (s.HandsOver 3 body → s.QuiesceOpenForVisit 3 →
      let p : PowerProfile := ⟨u8At body 0, min 1023 (u16At body 1), min 256 (u16At body 3), min 256 (u16At body 5),
        min 4095 (u16At body 7)⟩
      let old := s.power.profile
      ∃ t, exec (.adoptPowerProfile order) s = .next t ∧ t.power = { s.power with profile := p } ∧
        (s.power.state ≠ .bridging ∨
            p.ceiling = old.ceiling ∧ p.attenuation = old.attenuation ∧ p.dim = old.dim →
          s.SameExcept t [.power, .store, .adoption, .attention, .acks]) ∧
        (s.power.state = .bridging →
          p.ceiling ≠ old.ceiling ∨ p.attenuation ≠ old.attenuation ∨ p.dim ≠ old.dim → t.PowerPublished) ∧
        s.SameExcept t [.power, .drive, .cadence, .smoke, .lamps, .sound, .store, .events, .eventSeq, .attention,
          .adoption, .acks]) ∧
    (s.HandsOver 4 body → s.QuiesceOpenForVisit 4 →
      ∃ (t : State) (mode : SourceMode), exec .adoptCadenceProfile s = .next t ∧
        SourceMode.ofCode (u8At body 0) = some mode ∧
        let p : CadenceProfile := ⟨mode, max 1 (min 50 (u8At body 1)), max 1 (min 8 (u8At body 2)),
          max 1 (u16At body 3)⟩
        let c := s.cadence
        let source : ChuffSource := match mode with
          | .cam => .cam
          | .synthetic => .synthetic
          | .auto => if c.cam = .live then .cam else .synthetic
        t.cadence.profile = p ∧ t.cadence.source = source ∧
        (source = c.source → source = .cam ∨ p.constant = c.profile.constant →
          t.cadence = { c with profile := p } ∧ s.SameExcept t [.cadence, .store, .adoption, .attention, .acks]) ∧
        (source = .cam → c.source = .synthetic →
          t.cadence = { c with profile := p, source := source, interval := none, chuffTimer := .stopped }) ∧
        (source = .synthetic → c.source = .cam ∨ p.constant ≠ c.profile.constant →
          t.cadence.interval =
            if c.heldV = 0 then none else some (max 20 (min 5000 (p.constant * 256 / c.heldV)))) ∧
        s.SameExcept t [.cadence, .sound, .smoke, .store, .events, .eventSeq, .attention, .adoption, .acks]) ∧
    (s.HandsOver 7 body → s.QuiesceOpenForVisit 7 →
      ∃ t, exec .adoptSoundProfile s = .next t ∧ t.sound = { s.sound with chuffLoad := u8At body 0 == 1 } ∧
        s.SameExcept t [.sound, .store, .adoption, .attention, .acks]) ∧
    (s.HandsOver 8 body → s.QuiesceOpenForVisit 8 →
      ∃ t, exec .adoptRadioProfile s = .next t ∧
        let r := s.radio
        let p := t.radio.profile
        p.primary = max 1 (min 9999 (u16At body 0)) ∧ p.consist = min 9999 (u16At body 2) ∧
        p.consistReversed = (u8At body 4 == 1) ∧ some p.speed = Routing.ofCode (u8At body 5) ∧
        p.halt = (if u8At body 6 = 0 ∨ u8At body 6 = 1 then .apply else .both) ∧
        some p.function = Routing.ofCode (u8At body 7) ∧ some p.functionGroup = Routing.ofCode (u8At body 8) ∧
        some p.cue = Routing.ofCode (u8At body 9) ∧ some p.volume = Routing.ofCode (u8At body 10) ∧
        p.user = (if u8At body 11 = 0 then .ignore else .forward) ∧ p.silenceTimeout = u8At body 12 ∧
        some p.silenceAction = Level.ofSilenceCode (u8At body 13) ∧ p.clearTarget = (u8At body 14 == 1) ∧
        (r.silence = .disarmed → 0 < p.silenceTimeout → r.heard = true →
          t.radio = { r with
            profile := p, silence := .listening,
            silenceTimer := .running (millis s.time + hundredMillis p.silenceTimeout) }) ∧
        (r.silence = .disarmed → p.silenceTimeout = 0 ∨ r.heard = false → t.radio = { r with profile := p }) ∧
        (r.silence = .listening → 0 < p.silenceTimeout → t.radio = { r with profile := p }) ∧
        (r.silence = .listening → p.silenceTimeout = 0 →
          t.radio = { r with profile := p, silence := .disarmed, silenceTimer := .stopped }) ∧
        (r.silence = .silent → 0 < p.silenceTimeout → t.radio = { r with profile := p }) ∧
        (r.silence = .silent → p.silenceAction ≠ r.profile.silenceAction ∨ p.silenceTimeout = 0 →
          t.drive.level = t.protectionLevel) ∧
        (r.silence = .silent → p.silenceTimeout = 0 →
          t.radio = { r with profile := p, silence := .disarmed, elapsedTimer := .stopped } ∧
            (s.drive.profile.momentum ≠ .off →
              t.events = (s.event .radioRestored 2#8 (BitVec.ofNat 16 r.elapsed)).events)) ∧
        (r.silence ≠ .silent → s.SameExcept t [.radio, .store, .adoption, .attention, .acks]) ∧
        s.SameExcept t [.radio, .drive, .cadence, .smoke, .lamps, .sound, .store, .events, .eventSeq, .attention,
          .adoption, .acks])

/-- R89 to R92, R96, R97, R100, R104, R105, R108, R112, R116, R118, R128, R133, R152, R153: the hand-overs to the smoke unit, the
lamps, the sound engine and the function table: records and enables are taken, a fill may end DRY, activity is worked
out anew with its edges, the mount field acts on the bank, and only the masked flags are written, the sound engine
taking the edges of those that change. That a lowered Hmax acts at once, that an old puff timer runs on under an interval
of 0 and starts afresh as the interval leaves 0, what a bank that leaves MOUNTING, READY or FAULTY keeps, that a MOUNT
handed over outside RUN leaves the bank ABSENT, that an OFF edge stops only a HELD cue of a READY bank, and what run a
ONE_SHOT record keeps are the model's readings (log entries 15, 17, 25, 30, 32, 34, 45, 58). -/
def Obligations.HandOversToEffectsAndFunctions : Prop :=
  ∀ (s : State) (body : List Byte),
    let puff (n : Nat) := Timer.running (millis s.time + hundredMillis n)
    let edges (t : State) : Prop := ∀ k : Fin 8,
      t.lamps.lamps[k].active = t.lampWanted k ∧
        (t.lampWanted k = true → s.lamps.lamps[k].active = false →
          t.lamps.lamps[k].phase = .a ∧ t.lamps.lamps[k].count = 0) ∧
        (t.lampWanted k = false ∨ s.lamps.lamps[k].active = true →
          t.lamps.lamps[k].phase = s.lamps.lamps[k].phase ∧ t.lamps.lamps[k].count = s.lamps.lamps[k].count)
    (s.HandsOver 5 body → s.QuiesceOpenForVisit 5 →
      let u := s.smoke
      let p : SmokeProfile := ⟨max 100 (min 300 (u16At body 0)), max 1 (min 64 (u8At body 2)), u8At body 3,
        max 1 (u8At body 4), min 80 (u8At body 5), u8At body 6, u8At body 7, max 10 (min 250 (u8At body 8)),
        u8At body 9, u8At body 10, u16At body 11⟩
      ∃ t, exec .adoptSmokeProfile s = .next t ∧
        t.smoke = { u with
          profile := p, heater := min u.heater p.heaterMax, computed := min u.computed p.heaterMax,
          heaterPwm := min u.heaterPwm (min u.heater p.heaterMax),
          puffTimer := if u.profile.puffInterval = 0 ∧ p.puffInterval ≠ 0 ∧ u.state = .idling
            then puff p.puffInterval else u.puffTimer,
          budget := if p.capacity = 0 then u.budget else min u.budget (p.capacity * 256),
          fan := t.fanDuty, fanPwm := min u.fanPwm t.fanDuty } ∧
        s.SameExcept t [.smoke, .store, .adoption, .attention, .acks]) ∧
    (s.HandsOver 6 body → s.QuiesceOpenForVisit 6 →
      ∃ t, exec .adoptLampProfile s = .next t ∧
        (∀ k : Fin 8,
          let r := t.lamps.profile[k]
          let old := s.lamps.profile[k]
          let x := s.lamps.lamps[k]
          let y := t.lamps.lamps[k]
          let i := 8 * k.val
          let kept := r.mode = old.mode ∧ r.run = old.run ∧ r.countA = old.countA ∧ r.countB = old.countB
          some r.mode = LampMode.ofCode (u8At body i) ∧ r.brightness = u8At body (i + 1) ∧
            some r.gate = Gate.ofCode (u8At body (i + 2)) ∧ r.stopDim = u8At body (i + 3) ∧
            r.countA = max 1 (u8At body (i + 4)) ∧ r.countB = max 1 (u8At body (i + 5)) ∧
            (r.mode ≠ .oneShot → some r.run = LampRun.ofCode (u8At body (i + 6))) ∧
            (r.mode = .oneShot →
              r.run = (LampRun.ofCode (u8At body (i + 6))).getD (.unlisted (u8At body (i + 6)))) ∧ r.partner = u8At body (i + 7) ∧
            (r.mode = .alternate → r.partner < 8 ∧ r.partner ≠ k.val) ∧
            (kept → y.phase = x.phase ∧ y.count = x.count) ∧ (¬ kept → y.phase = .a ∧ y.count = 0) ∧
            y.active = x.active ∧ y.level = t.lamps.levelOf k ∧ y.duty = t.lampDuty y.level ∧
            y.pwm = min x.pwm y.duty) ∧
        t.lamps.factor = s.lamps.factor ∧ t.lamps.lfsr = s.lamps.lfsr ∧
        s.SameExcept t [.lamps, .store, .adoption, .attention, .acks]) ∧
    (s.HandsOver 9 body → s.QuiesceOpenForVisit 9 →
      ∃ t, exec .adoptFunctionMap s = .next t ∧
        (∀ n : Fin 32, t.functions.map[n] =
          ⟨body.getD (3 * n.val) 0#8, u8At body (3 * n.val + 1) == 1, min 63 (u8At body (3 * n.val + 2))⟩) ∧
        t.functions.flags = s.functions.flags ∧ edges t ∧ t.smoke.enabled = t.smokeWanted ∧
        s.SameExcept t [.functions, .lamps, .smoke, .store, .adoption, .attention, .acks]) ∧
    (s.HandsOver 11 body → s.QuiesceOpenForVisit 11 →
      ∃ t, exec .adoptSmokeDirective s = .next t ∧
        let u := s.smoke
        let fills := u8At body 1 = 1
        let wet := fills ∧ u.state = .dry ∧ ∀ k : SlotIx, u.alarmDry[k] = false
        let enters : SmokeState := if u.held then .held else .warming
        some t.smoke.directive.enable = SmokeEnable.ofCode (u8At body 0) ∧ t.smoke.enabled = t.smokeWanted ∧
        t.smoke.budget = (if fills then u.profile.capacity * 256 else u.budget) ∧
        (wet → t.smoke.state = if t.smoke.enabled then enters else .off) ∧
        (¬ wet → u.enabled = t.smoke.enabled → t.smoke.state = u.state) ∧
        (¬ wet → u.enabled = false → t.smoke.enabled = true →
          t.smoke.state = if u.state = .off then enters else u.state) ∧
        (¬ wet → u.enabled = true → t.smoke.enabled = false →
          t.smoke.state = if u.state.heating then .off else u.state) ∧
        (t.smoke.state = .warming → u.state ≠ .warming →
          t.smoke.heater = 0 ∧ t.smoke.staleTimer = .running (millis s.time + 5000000) ∧
            t.smoke.cooldownTimer = .stopped) ∧
        (t.smoke.state = .off → u.state.heating = true →
          t.smoke.heater = 0 ∧ t.smoke.cooldownTimer = (if u.profile.cooldown = 0 then .stopped
            else .running (millis s.time + seconds u.profile.cooldown))) ∧
        s.SameExcept t [.smoke, .store, .adoption, .attention, .acks]) ∧
    (s.HandsOver 12 body → s.QuiesceOpenForVisit 12 →
      ∃ t, exec .adoptLampDirective s = .next t ∧
        (∀ k : Fin 8, some t.lamps.directive[k] = Activity.ofCode (u8At body k.val)) ∧ edges t ∧
        t.lamps.profile = s.lamps.profile ∧ s.SameExcept t [.lamps, .store, .adoption, .attention, .acks]) ∧
    (s.HandsOver 13 body → s.QuiesceOpenForVisit 13 →
      ∃ t, exec .adoptSoundDirective s = .next t ∧
        let e := s.sound
        let mount : Bool := u8At body 0 == 1
        let d : SoundDirective := ⟨mount, u8At body 1⟩
        (mount = true → s.part ≠ .run → e.bank = .absent →
          t.sound = { e with directive := d, volume := u8At body 1 }) ∧
        (mount = true → s.part ≠ .run → e.bank = .faulty →
          t.sound = { e with
            directive := d, volume := u8At body 1, bank := .absent, fault := .none, progress := 0,
            header := none, cues := [], clips := [] }) ∧
        (mount = true → s.part = .run → e.bank = .absent ∨ e.bank = .faulty →
          t.sound = { e with
            directive := d, volume := u8At body 1, bank := .mounting, fault := .none, progress := 0,
            header := none, cues := [], clips := [] }) ∧
        (mount = true → e.bank = .mounting ∨ e.bank = .ready →
          t.sound = { e with directive := d, volume := u8At body 1 }) ∧
        (mount = false → e.bank = .absent → t.sound = { e with directive := d, volume := u8At body 1 }) ∧
        (mount = false → e.bank = .mounting →
          t.sound = { e with
            directive := d, volume := u8At body 1, bank := .absent, progress := 0, header := none, cues := [],
            clips := [] }) ∧
        (mount = false → e.bank = .ready →
          t.sound.bank = .absent ∧ t.sound.cues = [] ∧ t.sound.clips = [] ∧ t.sound.order = [] ∧
            t.sound.volume = u8At body 1 ∧ ∀ v : Fin 6, t.sound.voices[v].state = .free) ∧
        (mount = false → e.bank = .faulty →
          t.sound = { e with
            directive := d, volume := u8At body 1, bank := .absent, fault := .none, header := none }) ∧
        s.SameExcept t [.sound, .store, .adoption, .attention, .acks]) ∧
    (s.HandsOver 14 body → s.QuiesceOpenForVisit 14 →
      ∃ t, exec .adoptFunctionDirective s = .next t ∧
        let mask (n : Nat) : Bool := (u32At body 0).testBit n
        let states (n : Nat) : Bool := (u32At body 4).testBit n
        let moved := ∃ n : Fin 32, mask n.val = true ∧ states n.val ≠ s.functions.flags[n].on
        (∀ n : Fin 32, t.functions.flags[n] =
          if mask n.val then ⟨states n.val, .host⟩ else s.functions.flags[n]) ∧
        t.functions.map = s.functions.map ∧
        (moved → edges t ∧ t.smoke.enabled = t.smokeWanted ∧
          let u := s.functionEdges fun n => if mask n.val then some (states n.val) else none
          t.sound = u.sound ∧ t.events = u.events ∧ t.eventSeq = u.eventSeq) ∧
        (¬ moved → s.SameExcept t [.functions, .store, .adoption, .attention, .acks]) ∧
        s.SameExcept t [.functions, .lamps, .smoke, .sound, .store, .events, .eventSeq, .attention, .adoption, .acks])

/-! ### The event list (section 11.2) -/

/-- R172, R173: an event raised while its kind and subject stand in a FILLED record is a repeat of it; another fills the
lowest FREE record with the next seq, unless it is no LOCKOUT and 20 such records stand, or the seq still stands
FILLED, or none is FREE: then it is dropped, and LIST_FULL is raised. In STARTING and RESETTING nothing is taken. -/
def Obligations.EventsRepeatFillOrDrop : Prop :=
  ∀ (s : State) (k : EventKind) (subject : Byte) (detail : Half), s.EventListSound →
    let t := s.event k subject detail
    let seq := s.eventSeq + 1#16
    let same (i : Fin 24) : Prop :=
      s.events[i].filled = true ∧ s.events[i].kind = some k ∧ s.events[i].subject = subject
    let room := k = .lockout ∨ s.events.toList.countP (fun e => e.filled && e.kind != some .lockout) < 20
    let taken := ∃ i : Fin 24, s.events[i].filled = true ∧ s.events[i].seq = seq
    (s.part = .starting ∨ s.part = .resetting → t = s) ∧
    (s.part.active = true →
      (∀ i : Fin 24, same i →
        t.events[i] = { s.events[i] with
          repeats := min (s.events[i].repeats + 1) 255, last := s.uptime, detail := detail } ∧
        (∀ j : Fin 24, j ≠ i → t.events[j] = s.events[j]) ∧ t.eventSeq = s.eventSeq ∧
        t.attention = (s.raise .event).attention) ∧
      ((∀ i : Fin 24, ¬ same i) → room → ¬ taken → ∀ i : Fin 24, s.events[i].filled = false →
        (∀ j : Fin 24, j < i → s.events[j].filled = true) →
        t.events[i] = ⟨true, some k, subject, 1, seq, detail, s.uptime, s.uptime⟩ ∧
        (∀ j : Fin 24, j ≠ i → t.events[j] = s.events[j]) ∧ t.eventSeq = seq ∧
        t.attention = (s.raise .event).attention) ∧
      ((∀ i : Fin 24, ¬ same i) → ¬ room ∨ taken ∨ (∀ i : Fin 24, s.events[i].filled = true) →
        t.events = s.events ∧ t.eventSeq = s.eventSeq ∧ t.attention = (s.raise .listFull).attention)) ∧
    s.SameExcept t [.events, .eventSeq, .attention]

/-! ### The outputs, the queue, and what every step keeps -/

/-- R19, R23, R94, R112, R175: BRIDGE_PWM_PERIOD_START puts the applied duties on the bridges, which are 0 wherever R19
holds them there and whose mode a bridge's three lines show; OUTPUT_PWM_PERIOD_START puts the heater, fan and lamp
duties on their outputs. -/
def Obligations.PeriodStartsLatchTheDuties : Prop :=
  ∀ s : State,
    (∃ t, exec .bridgePwmPeriodStart s = .next t ∧
      (∀ c : Channel, t.drive.channels.get c = { s.drive.channels.get c with pwm := s.appliedDuty c } ∧
        (s.bridgeMode = .drive → t.bridgePins c = ⟨true, false, (s.drive.channels.get c).duty⟩) ∧
        (s.bridgeMode = .coast → t.bridgePins c = ⟨false, false, 0⟩ ∧
          (s.part ≠ .starting → s.appliedDuty c = 0)) ∧
        (s.bridgeMode = .brake → t.bridgePins c = ⟨true, true, 0⟩ ∧ s.appliedDuty c = 0)) ∧
      s.SameExcept t [.drive]) ∧
    (∃ t, exec .outputPwmPeriodStart s = .next t ∧ t.heaterPin = s.smoke.heater ∧ t.fanPin = s.smoke.fan ∧
      (∀ k : Fin 8, t.lampPin k = s.lamps.lamps[k].duty) ∧
      t.smoke = { s.smoke with heaterPwm := s.smoke.heater, fanPwm := s.smoke.fan } ∧
      s.SameExcept t [.smoke, .lamps])

/-- A step takes the command at the front of the queue and runs it on the state with the queue's rest; on an empty queue
the block idles (the model's choice, log entry 2). -/
def Obligations.StepTakesTheQueueHead : Prop :=
  ∀ (c : Instr) (s : State) (rest : List Instr),
    (s.pending = c :: rest → step s = exec c { s with pending := rest }) ∧ (s.pending = [] → step s = .next s)

/-- Every step keeps the store and the flash in canonical form, the model's way of holding them (log entries 10 and
39). -/
def Obligations.StepKeepsMemoryCanonical : Prop :=
  ∀ s t : State, s.MemoryCanonical → step s = .next t → t.MemoryCanonical

/-- R115, R122, R125, R143, R147, R162, R172: every step keeps the lists sound: no two FILLED event records of one kind
and subject or of one seq, and at most 20 below FAULT; at most 8 recent senders, distinct; no two FILLED inbound
records of one seq; at most 4 nudges, distinct; no two busy voices of one cue, the start order holding exactly the
busy voices. -/
def Obligations.StepKeepsTheListsSound : Prop :=
  ∀ s t : State,
    s.EventListSound ∧ s.SendersSound ∧ s.InboundSound ∧ s.NudgesSound ∧ s.VoicesSound → step s = .next t →
      t.EventListSound ∧ t.SendersSound ∧ t.InboundSound ∧ t.NudgesSound ∧ t.VoicesSound

/-- R8, R9, R12, R14, R16, R18, R19, R83: every step keeps the drive consistent: R is 0 where the rules hold it, the
stepping direction and its timer point from R to T, C and D are formed of R and the trim, no bridge is driven above
the applied duty, and the chuff source is the settled one. -/
def Obligations.StepKeepsTheDriveConsistent : Prop :=
  ∀ s t : State,
    s.RampHeld ∧ s.RampFollows ∧ s.DutyFormed ∧ s.BridgeLatched ∧ s.SourceSettled → step s = .next t →
      t.RampHeld ∧ t.RampFollows ∧ t.DutyFormed ∧ t.BridgeLatched ∧ t.SourceSettled

/-- R92, R107, R171: every step keeps ATTN at the level its sources and the configuration give, the heater off outside
the heating states and under a hold, and the LFSR away from 0. -/
def Obligations.StepKeepsAttentionAndHeaterGuarded : Prop :=
  ∀ s t : State,
    s.AttnExact ∧ s.HeaterGuarded ∧ s.lamps.lfsr ≠ 0#16 → step s = .next t →
      t.AttnExact ∧ t.HeaterGuarded ∧ t.lamps.lfsr ≠ 0#16

/-- What every step keeps holds right after reset. -/
def Obligations.ResetMeetsTheInvariants : Prop :=
  State.reset.MemoryCanonical ∧ State.reset.EventListSound ∧ State.reset.SendersSound ∧
    State.reset.InboundSound ∧ State.reset.NudgesSound ∧ State.reset.VoicesSound ∧ State.reset.RampHeld ∧
    State.reset.RampFollows ∧ State.reset.DutyFormed ∧ State.reset.BridgeLatched ∧ State.reset.SourceSettled ∧
    State.reset.AttnExact ∧ State.reset.HeaterGuarded ∧ State.reset.lamps.lfsr ≠ 0#16
end

