-- ==== Sys2Proof/Laws/State.lean ====
section
/-! SUPPORT. One lemma for each field under each named update of State, true by rfl, so that no proof unfolds
a record update. -/

namespace Sys2Proof.Machine

variable (s : State)

section
variable (x : Nat)
@[simp] theorem State.withTime_time : (s.withTime x).time = x := rfl
@[simp] theorem State.withTime_part : (s.withTime x).part = s.part := rfl
@[simp] theorem State.withTime_resetMark : (s.withTime x).resetMark = s.resetMark := rfl
@[simp] theorem State.withTime_deadline : (s.withTime x).deadline = s.deadline := rfl
@[simp] theorem State.withTime_acks : (s.withTime x).acks = s.acks := rfl
@[simp] theorem State.withTime_command : (s.withTime x).command = s.command := rfl
@[simp] theorem State.withTime_commandResult : (s.withTime x).commandResult = s.commandResult := rfl
@[simp] theorem State.withTime_port : (s.withTime x).port = s.port := rfl
@[simp] theorem State.withTime_store : (s.withTime x).store = s.store := rfl
@[simp] theorem State.withTime_cueSlots : (s.withTime x).cueSlots = s.cueSlots := rfl
@[simp] theorem State.withTime_events : (s.withTime x).events = s.events := rfl
@[simp] theorem State.withTime_eventSeq : (s.withTime x).eventSeq = s.eventSeq := rfl
@[simp] theorem State.withTime_inbound : (s.withTime x).inbound = s.inbound := rfl
@[simp] theorem State.withTime_attention : (s.withTime x).attention = s.attention := rfl
@[simp] theorem State.withTime_adoption : (s.withTime x).adoption = s.adoption := rfl
@[simp] theorem State.withTime_drive : (s.withTime x).drive = s.drive := rfl
@[simp] theorem State.withTime_sequencer : (s.withTime x).sequencer = s.sequencer := rfl
@[simp] theorem State.withTime_power : (s.withTime x).power = s.power := rfl
@[simp] theorem State.withTime_cadence : (s.withTime x).cadence = s.cadence := rfl
@[simp] theorem State.withTime_smoke : (s.withTime x).smoke = s.smoke := rfl
@[simp] theorem State.withTime_lamps : (s.withTime x).lamps = s.lamps := rfl
@[simp] theorem State.withTime_sound : (s.withTime x).sound = s.sound := rfl
@[simp] theorem State.withTime_radio : (s.withTime x).radio = s.radio := rfl
@[simp] theorem State.withTime_functions : (s.withTime x).functions = s.functions := rfl
@[simp] theorem State.withTime_flash : (s.withTime x).flash = s.flash := rfl
@[simp] theorem State.withTime_draws : (s.withTime x).draws = s.draws := rfl
@[simp] theorem State.withTime_pending : (s.withTime x).pending = s.pending := rfl
end

section
variable (x : PartState)
@[simp] theorem State.withPart_time : (s.withPart x).time = s.time := rfl
@[simp] theorem State.withPart_part : (s.withPart x).part = x := rfl
@[simp] theorem State.withPart_resetMark : (s.withPart x).resetMark = s.resetMark := rfl
@[simp] theorem State.withPart_deadline : (s.withPart x).deadline = s.deadline := rfl
@[simp] theorem State.withPart_acks : (s.withPart x).acks = s.acks := rfl
@[simp] theorem State.withPart_command : (s.withPart x).command = s.command := rfl
@[simp] theorem State.withPart_commandResult : (s.withPart x).commandResult = s.commandResult := rfl
@[simp] theorem State.withPart_port : (s.withPart x).port = s.port := rfl
@[simp] theorem State.withPart_store : (s.withPart x).store = s.store := rfl
@[simp] theorem State.withPart_cueSlots : (s.withPart x).cueSlots = s.cueSlots := rfl
@[simp] theorem State.withPart_events : (s.withPart x).events = s.events := rfl
@[simp] theorem State.withPart_eventSeq : (s.withPart x).eventSeq = s.eventSeq := rfl
@[simp] theorem State.withPart_inbound : (s.withPart x).inbound = s.inbound := rfl
@[simp] theorem State.withPart_attention : (s.withPart x).attention = s.attention := rfl
@[simp] theorem State.withPart_adoption : (s.withPart x).adoption = s.adoption := rfl
@[simp] theorem State.withPart_drive : (s.withPart x).drive = s.drive := rfl
@[simp] theorem State.withPart_sequencer : (s.withPart x).sequencer = s.sequencer := rfl
@[simp] theorem State.withPart_power : (s.withPart x).power = s.power := rfl
@[simp] theorem State.withPart_cadence : (s.withPart x).cadence = s.cadence := rfl
@[simp] theorem State.withPart_smoke : (s.withPart x).smoke = s.smoke := rfl
@[simp] theorem State.withPart_lamps : (s.withPart x).lamps = s.lamps := rfl
@[simp] theorem State.withPart_sound : (s.withPart x).sound = s.sound := rfl
@[simp] theorem State.withPart_radio : (s.withPart x).radio = s.radio := rfl
@[simp] theorem State.withPart_functions : (s.withPart x).functions = s.functions := rfl
@[simp] theorem State.withPart_flash : (s.withPart x).flash = s.flash := rfl
@[simp] theorem State.withPart_draws : (s.withPart x).draws = s.draws := rfl
@[simp] theorem State.withPart_pending : (s.withPart x).pending = s.pending := rfl
end

section
variable (x : Bool)
@[simp] theorem State.withResetMark_time : (s.withResetMark x).time = s.time := rfl
@[simp] theorem State.withResetMark_part : (s.withResetMark x).part = s.part := rfl
@[simp] theorem State.withResetMark_resetMark : (s.withResetMark x).resetMark = x := rfl
@[simp] theorem State.withResetMark_deadline : (s.withResetMark x).deadline = s.deadline := rfl
@[simp] theorem State.withResetMark_acks : (s.withResetMark x).acks = s.acks := rfl
@[simp] theorem State.withResetMark_command : (s.withResetMark x).command = s.command := rfl
@[simp] theorem State.withResetMark_commandResult : (s.withResetMark x).commandResult = s.commandResult := rfl
@[simp] theorem State.withResetMark_port : (s.withResetMark x).port = s.port := rfl
@[simp] theorem State.withResetMark_store : (s.withResetMark x).store = s.store := rfl
@[simp] theorem State.withResetMark_cueSlots : (s.withResetMark x).cueSlots = s.cueSlots := rfl
@[simp] theorem State.withResetMark_events : (s.withResetMark x).events = s.events := rfl
@[simp] theorem State.withResetMark_eventSeq : (s.withResetMark x).eventSeq = s.eventSeq := rfl
@[simp] theorem State.withResetMark_inbound : (s.withResetMark x).inbound = s.inbound := rfl
@[simp] theorem State.withResetMark_attention : (s.withResetMark x).attention = s.attention := rfl
@[simp] theorem State.withResetMark_adoption : (s.withResetMark x).adoption = s.adoption := rfl
@[simp] theorem State.withResetMark_drive : (s.withResetMark x).drive = s.drive := rfl
@[simp] theorem State.withResetMark_sequencer : (s.withResetMark x).sequencer = s.sequencer := rfl
@[simp] theorem State.withResetMark_power : (s.withResetMark x).power = s.power := rfl
@[simp] theorem State.withResetMark_cadence : (s.withResetMark x).cadence = s.cadence := rfl
@[simp] theorem State.withResetMark_smoke : (s.withResetMark x).smoke = s.smoke := rfl
@[simp] theorem State.withResetMark_lamps : (s.withResetMark x).lamps = s.lamps := rfl
@[simp] theorem State.withResetMark_sound : (s.withResetMark x).sound = s.sound := rfl
@[simp] theorem State.withResetMark_radio : (s.withResetMark x).radio = s.radio := rfl
@[simp] theorem State.withResetMark_functions : (s.withResetMark x).functions = s.functions := rfl
@[simp] theorem State.withResetMark_flash : (s.withResetMark x).flash = s.flash := rfl
@[simp] theorem State.withResetMark_draws : (s.withResetMark x).draws = s.draws := rfl
@[simp] theorem State.withResetMark_pending : (s.withResetMark x).pending = s.pending := rfl
end

section
variable (x : Timer)
@[simp] theorem State.withDeadline_time : (s.withDeadline x).time = s.time := rfl
@[simp] theorem State.withDeadline_part : (s.withDeadline x).part = s.part := rfl
@[simp] theorem State.withDeadline_resetMark : (s.withDeadline x).resetMark = s.resetMark := rfl
@[simp] theorem State.withDeadline_deadline : (s.withDeadline x).deadline = x := rfl
@[simp] theorem State.withDeadline_acks : (s.withDeadline x).acks = s.acks := rfl
@[simp] theorem State.withDeadline_command : (s.withDeadline x).command = s.command := rfl
@[simp] theorem State.withDeadline_commandResult : (s.withDeadline x).commandResult = s.commandResult := rfl
@[simp] theorem State.withDeadline_port : (s.withDeadline x).port = s.port := rfl
@[simp] theorem State.withDeadline_store : (s.withDeadline x).store = s.store := rfl
@[simp] theorem State.withDeadline_cueSlots : (s.withDeadline x).cueSlots = s.cueSlots := rfl
@[simp] theorem State.withDeadline_events : (s.withDeadline x).events = s.events := rfl
@[simp] theorem State.withDeadline_eventSeq : (s.withDeadline x).eventSeq = s.eventSeq := rfl
@[simp] theorem State.withDeadline_inbound : (s.withDeadline x).inbound = s.inbound := rfl
@[simp] theorem State.withDeadline_attention : (s.withDeadline x).attention = s.attention := rfl
@[simp] theorem State.withDeadline_adoption : (s.withDeadline x).adoption = s.adoption := rfl
@[simp] theorem State.withDeadline_drive : (s.withDeadline x).drive = s.drive := rfl
@[simp] theorem State.withDeadline_sequencer : (s.withDeadline x).sequencer = s.sequencer := rfl
@[simp] theorem State.withDeadline_power : (s.withDeadline x).power = s.power := rfl
@[simp] theorem State.withDeadline_cadence : (s.withDeadline x).cadence = s.cadence := rfl
@[simp] theorem State.withDeadline_smoke : (s.withDeadline x).smoke = s.smoke := rfl
@[simp] theorem State.withDeadline_lamps : (s.withDeadline x).lamps = s.lamps := rfl
@[simp] theorem State.withDeadline_sound : (s.withDeadline x).sound = s.sound := rfl
@[simp] theorem State.withDeadline_radio : (s.withDeadline x).radio = s.radio := rfl
@[simp] theorem State.withDeadline_functions : (s.withDeadline x).functions = s.functions := rfl
@[simp] theorem State.withDeadline_flash : (s.withDeadline x).flash = s.flash := rfl
@[simp] theorem State.withDeadline_draws : (s.withDeadline x).draws = s.draws := rfl
@[simp] theorem State.withDeadline_pending : (s.withDeadline x).pending = s.pending := rfl
end

section
variable (x : Acks)
@[simp] theorem State.withAcks_time : (s.withAcks x).time = s.time := rfl
@[simp] theorem State.withAcks_part : (s.withAcks x).part = s.part := rfl
@[simp] theorem State.withAcks_resetMark : (s.withAcks x).resetMark = s.resetMark := rfl
@[simp] theorem State.withAcks_deadline : (s.withAcks x).deadline = s.deadline := rfl
@[simp] theorem State.withAcks_acks : (s.withAcks x).acks = x := rfl
@[simp] theorem State.withAcks_command : (s.withAcks x).command = s.command := rfl
@[simp] theorem State.withAcks_commandResult : (s.withAcks x).commandResult = s.commandResult := rfl
@[simp] theorem State.withAcks_port : (s.withAcks x).port = s.port := rfl
@[simp] theorem State.withAcks_store : (s.withAcks x).store = s.store := rfl
@[simp] theorem State.withAcks_cueSlots : (s.withAcks x).cueSlots = s.cueSlots := rfl
@[simp] theorem State.withAcks_events : (s.withAcks x).events = s.events := rfl
@[simp] theorem State.withAcks_eventSeq : (s.withAcks x).eventSeq = s.eventSeq := rfl
@[simp] theorem State.withAcks_inbound : (s.withAcks x).inbound = s.inbound := rfl
@[simp] theorem State.withAcks_attention : (s.withAcks x).attention = s.attention := rfl
@[simp] theorem State.withAcks_adoption : (s.withAcks x).adoption = s.adoption := rfl
@[simp] theorem State.withAcks_drive : (s.withAcks x).drive = s.drive := rfl
@[simp] theorem State.withAcks_sequencer : (s.withAcks x).sequencer = s.sequencer := rfl
@[simp] theorem State.withAcks_power : (s.withAcks x).power = s.power := rfl
@[simp] theorem State.withAcks_cadence : (s.withAcks x).cadence = s.cadence := rfl
@[simp] theorem State.withAcks_smoke : (s.withAcks x).smoke = s.smoke := rfl
@[simp] theorem State.withAcks_lamps : (s.withAcks x).lamps = s.lamps := rfl
@[simp] theorem State.withAcks_sound : (s.withAcks x).sound = s.sound := rfl
@[simp] theorem State.withAcks_radio : (s.withAcks x).radio = s.radio := rfl
@[simp] theorem State.withAcks_functions : (s.withAcks x).functions = s.functions := rfl
@[simp] theorem State.withAcks_flash : (s.withAcks x).flash = s.flash := rfl
@[simp] theorem State.withAcks_draws : (s.withAcks x).draws = s.draws := rfl
@[simp] theorem State.withAcks_pending : (s.withAcks x).pending = s.pending := rfl
end

section
variable (x : Byte)
@[simp] theorem State.withCommand_time : (s.withCommand x).time = s.time := rfl
@[simp] theorem State.withCommand_part : (s.withCommand x).part = s.part := rfl
@[simp] theorem State.withCommand_resetMark : (s.withCommand x).resetMark = s.resetMark := rfl
@[simp] theorem State.withCommand_deadline : (s.withCommand x).deadline = s.deadline := rfl
@[simp] theorem State.withCommand_acks : (s.withCommand x).acks = s.acks := rfl
@[simp] theorem State.withCommand_command : (s.withCommand x).command = x := rfl
@[simp] theorem State.withCommand_commandResult : (s.withCommand x).commandResult = s.commandResult := rfl
@[simp] theorem State.withCommand_port : (s.withCommand x).port = s.port := rfl
@[simp] theorem State.withCommand_store : (s.withCommand x).store = s.store := rfl
@[simp] theorem State.withCommand_cueSlots : (s.withCommand x).cueSlots = s.cueSlots := rfl
@[simp] theorem State.withCommand_events : (s.withCommand x).events = s.events := rfl
@[simp] theorem State.withCommand_eventSeq : (s.withCommand x).eventSeq = s.eventSeq := rfl
@[simp] theorem State.withCommand_inbound : (s.withCommand x).inbound = s.inbound := rfl
@[simp] theorem State.withCommand_attention : (s.withCommand x).attention = s.attention := rfl
@[simp] theorem State.withCommand_adoption : (s.withCommand x).adoption = s.adoption := rfl
@[simp] theorem State.withCommand_drive : (s.withCommand x).drive = s.drive := rfl
@[simp] theorem State.withCommand_sequencer : (s.withCommand x).sequencer = s.sequencer := rfl
@[simp] theorem State.withCommand_power : (s.withCommand x).power = s.power := rfl
@[simp] theorem State.withCommand_cadence : (s.withCommand x).cadence = s.cadence := rfl
@[simp] theorem State.withCommand_smoke : (s.withCommand x).smoke = s.smoke := rfl
@[simp] theorem State.withCommand_lamps : (s.withCommand x).lamps = s.lamps := rfl
@[simp] theorem State.withCommand_sound : (s.withCommand x).sound = s.sound := rfl
@[simp] theorem State.withCommand_radio : (s.withCommand x).radio = s.radio := rfl
@[simp] theorem State.withCommand_functions : (s.withCommand x).functions = s.functions := rfl
@[simp] theorem State.withCommand_flash : (s.withCommand x).flash = s.flash := rfl
@[simp] theorem State.withCommand_draws : (s.withCommand x).draws = s.draws := rfl
@[simp] theorem State.withCommand_pending : (s.withCommand x).pending = s.pending := rfl
end

section
variable (x : CommandResult)
@[simp] theorem State.withCommandResult_time : (s.withCommandResult x).time = s.time := rfl
@[simp] theorem State.withCommandResult_part : (s.withCommandResult x).part = s.part := rfl
@[simp] theorem State.withCommandResult_resetMark : (s.withCommandResult x).resetMark = s.resetMark := rfl
@[simp] theorem State.withCommandResult_deadline : (s.withCommandResult x).deadline = s.deadline := rfl
@[simp] theorem State.withCommandResult_acks : (s.withCommandResult x).acks = s.acks := rfl
@[simp] theorem State.withCommandResult_command : (s.withCommandResult x).command = s.command := rfl
@[simp] theorem State.withCommandResult_commandResult : (s.withCommandResult x).commandResult = x := rfl
@[simp] theorem State.withCommandResult_port : (s.withCommandResult x).port = s.port := rfl
@[simp] theorem State.withCommandResult_store : (s.withCommandResult x).store = s.store := rfl
@[simp] theorem State.withCommandResult_cueSlots : (s.withCommandResult x).cueSlots = s.cueSlots := rfl
@[simp] theorem State.withCommandResult_events : (s.withCommandResult x).events = s.events := rfl
@[simp] theorem State.withCommandResult_eventSeq : (s.withCommandResult x).eventSeq = s.eventSeq := rfl
@[simp] theorem State.withCommandResult_inbound : (s.withCommandResult x).inbound = s.inbound := rfl
@[simp] theorem State.withCommandResult_attention : (s.withCommandResult x).attention = s.attention := rfl
@[simp] theorem State.withCommandResult_adoption : (s.withCommandResult x).adoption = s.adoption := rfl
@[simp] theorem State.withCommandResult_drive : (s.withCommandResult x).drive = s.drive := rfl
@[simp] theorem State.withCommandResult_sequencer : (s.withCommandResult x).sequencer = s.sequencer := rfl
@[simp] theorem State.withCommandResult_power : (s.withCommandResult x).power = s.power := rfl
@[simp] theorem State.withCommandResult_cadence : (s.withCommandResult x).cadence = s.cadence := rfl
@[simp] theorem State.withCommandResult_smoke : (s.withCommandResult x).smoke = s.smoke := rfl
@[simp] theorem State.withCommandResult_lamps : (s.withCommandResult x).lamps = s.lamps := rfl
@[simp] theorem State.withCommandResult_sound : (s.withCommandResult x).sound = s.sound := rfl
@[simp] theorem State.withCommandResult_radio : (s.withCommandResult x).radio = s.radio := rfl
@[simp] theorem State.withCommandResult_functions : (s.withCommandResult x).functions = s.functions := rfl
@[simp] theorem State.withCommandResult_flash : (s.withCommandResult x).flash = s.flash := rfl
@[simp] theorem State.withCommandResult_draws : (s.withCommandResult x).draws = s.draws := rfl
@[simp] theorem State.withCommandResult_pending : (s.withCommandResult x).pending = s.pending := rfl
end

section
variable (x : Port)
@[simp] theorem State.withPort_time : (s.withPort x).time = s.time := rfl
@[simp] theorem State.withPort_part : (s.withPort x).part = s.part := rfl
@[simp] theorem State.withPort_resetMark : (s.withPort x).resetMark = s.resetMark := rfl
@[simp] theorem State.withPort_deadline : (s.withPort x).deadline = s.deadline := rfl
@[simp] theorem State.withPort_acks : (s.withPort x).acks = s.acks := rfl
@[simp] theorem State.withPort_command : (s.withPort x).command = s.command := rfl
@[simp] theorem State.withPort_commandResult : (s.withPort x).commandResult = s.commandResult := rfl
@[simp] theorem State.withPort_port : (s.withPort x).port = x := rfl
@[simp] theorem State.withPort_store : (s.withPort x).store = s.store := rfl
@[simp] theorem State.withPort_cueSlots : (s.withPort x).cueSlots = s.cueSlots := rfl
@[simp] theorem State.withPort_events : (s.withPort x).events = s.events := rfl
@[simp] theorem State.withPort_eventSeq : (s.withPort x).eventSeq = s.eventSeq := rfl
@[simp] theorem State.withPort_inbound : (s.withPort x).inbound = s.inbound := rfl
@[simp] theorem State.withPort_attention : (s.withPort x).attention = s.attention := rfl
@[simp] theorem State.withPort_adoption : (s.withPort x).adoption = s.adoption := rfl
@[simp] theorem State.withPort_drive : (s.withPort x).drive = s.drive := rfl
@[simp] theorem State.withPort_sequencer : (s.withPort x).sequencer = s.sequencer := rfl
@[simp] theorem State.withPort_power : (s.withPort x).power = s.power := rfl
@[simp] theorem State.withPort_cadence : (s.withPort x).cadence = s.cadence := rfl
@[simp] theorem State.withPort_smoke : (s.withPort x).smoke = s.smoke := rfl
@[simp] theorem State.withPort_lamps : (s.withPort x).lamps = s.lamps := rfl
@[simp] theorem State.withPort_sound : (s.withPort x).sound = s.sound := rfl
@[simp] theorem State.withPort_radio : (s.withPort x).radio = s.radio := rfl
@[simp] theorem State.withPort_functions : (s.withPort x).functions = s.functions := rfl
@[simp] theorem State.withPort_flash : (s.withPort x).flash = s.flash := rfl
@[simp] theorem State.withPort_draws : (s.withPort x).draws = s.draws := rfl
@[simp] theorem State.withPort_pending : (s.withPort x).pending = s.pending := rfl
end

section
variable (x : Memory)
@[simp] theorem State.withStore_time : (s.withStore x).time = s.time := rfl
@[simp] theorem State.withStore_part : (s.withStore x).part = s.part := rfl
@[simp] theorem State.withStore_resetMark : (s.withStore x).resetMark = s.resetMark := rfl
@[simp] theorem State.withStore_deadline : (s.withStore x).deadline = s.deadline := rfl
@[simp] theorem State.withStore_acks : (s.withStore x).acks = s.acks := rfl
@[simp] theorem State.withStore_command : (s.withStore x).command = s.command := rfl
@[simp] theorem State.withStore_commandResult : (s.withStore x).commandResult = s.commandResult := rfl
@[simp] theorem State.withStore_port : (s.withStore x).port = s.port := rfl
@[simp] theorem State.withStore_store : (s.withStore x).store = x := rfl
@[simp] theorem State.withStore_cueSlots : (s.withStore x).cueSlots = s.cueSlots := rfl
@[simp] theorem State.withStore_events : (s.withStore x).events = s.events := rfl
@[simp] theorem State.withStore_eventSeq : (s.withStore x).eventSeq = s.eventSeq := rfl
@[simp] theorem State.withStore_inbound : (s.withStore x).inbound = s.inbound := rfl
@[simp] theorem State.withStore_attention : (s.withStore x).attention = s.attention := rfl
@[simp] theorem State.withStore_adoption : (s.withStore x).adoption = s.adoption := rfl
@[simp] theorem State.withStore_drive : (s.withStore x).drive = s.drive := rfl
@[simp] theorem State.withStore_sequencer : (s.withStore x).sequencer = s.sequencer := rfl
@[simp] theorem State.withStore_power : (s.withStore x).power = s.power := rfl
@[simp] theorem State.withStore_cadence : (s.withStore x).cadence = s.cadence := rfl
@[simp] theorem State.withStore_smoke : (s.withStore x).smoke = s.smoke := rfl
@[simp] theorem State.withStore_lamps : (s.withStore x).lamps = s.lamps := rfl
@[simp] theorem State.withStore_sound : (s.withStore x).sound = s.sound := rfl
@[simp] theorem State.withStore_radio : (s.withStore x).radio = s.radio := rfl
@[simp] theorem State.withStore_functions : (s.withStore x).functions = s.functions := rfl
@[simp] theorem State.withStore_flash : (s.withStore x).flash = s.flash := rfl
@[simp] theorem State.withStore_draws : (s.withStore x).draws = s.draws := rfl
@[simp] theorem State.withStore_pending : (s.withStore x).pending = s.pending := rfl
end

section
variable (x : Vector CueSlot 8)
@[simp] theorem State.withCueSlots_time : (s.withCueSlots x).time = s.time := rfl
@[simp] theorem State.withCueSlots_part : (s.withCueSlots x).part = s.part := rfl
@[simp] theorem State.withCueSlots_resetMark : (s.withCueSlots x).resetMark = s.resetMark := rfl
@[simp] theorem State.withCueSlots_deadline : (s.withCueSlots x).deadline = s.deadline := rfl
@[simp] theorem State.withCueSlots_acks : (s.withCueSlots x).acks = s.acks := rfl
@[simp] theorem State.withCueSlots_command : (s.withCueSlots x).command = s.command := rfl
@[simp] theorem State.withCueSlots_commandResult : (s.withCueSlots x).commandResult = s.commandResult := rfl
@[simp] theorem State.withCueSlots_port : (s.withCueSlots x).port = s.port := rfl
@[simp] theorem State.withCueSlots_store : (s.withCueSlots x).store = s.store := rfl
@[simp] theorem State.withCueSlots_cueSlots : (s.withCueSlots x).cueSlots = x := rfl
@[simp] theorem State.withCueSlots_events : (s.withCueSlots x).events = s.events := rfl
@[simp] theorem State.withCueSlots_eventSeq : (s.withCueSlots x).eventSeq = s.eventSeq := rfl
@[simp] theorem State.withCueSlots_inbound : (s.withCueSlots x).inbound = s.inbound := rfl
@[simp] theorem State.withCueSlots_attention : (s.withCueSlots x).attention = s.attention := rfl
@[simp] theorem State.withCueSlots_adoption : (s.withCueSlots x).adoption = s.adoption := rfl
@[simp] theorem State.withCueSlots_drive : (s.withCueSlots x).drive = s.drive := rfl
@[simp] theorem State.withCueSlots_sequencer : (s.withCueSlots x).sequencer = s.sequencer := rfl
@[simp] theorem State.withCueSlots_power : (s.withCueSlots x).power = s.power := rfl
@[simp] theorem State.withCueSlots_cadence : (s.withCueSlots x).cadence = s.cadence := rfl
@[simp] theorem State.withCueSlots_smoke : (s.withCueSlots x).smoke = s.smoke := rfl
@[simp] theorem State.withCueSlots_lamps : (s.withCueSlots x).lamps = s.lamps := rfl
@[simp] theorem State.withCueSlots_sound : (s.withCueSlots x).sound = s.sound := rfl
@[simp] theorem State.withCueSlots_radio : (s.withCueSlots x).radio = s.radio := rfl
@[simp] theorem State.withCueSlots_functions : (s.withCueSlots x).functions = s.functions := rfl
@[simp] theorem State.withCueSlots_flash : (s.withCueSlots x).flash = s.flash := rfl
@[simp] theorem State.withCueSlots_draws : (s.withCueSlots x).draws = s.draws := rfl
@[simp] theorem State.withCueSlots_pending : (s.withCueSlots x).pending = s.pending := rfl
end

section
variable (x : Vector EventRecord 24)
@[simp] theorem State.withEvents_time : (s.withEvents x).time = s.time := rfl
@[simp] theorem State.withEvents_part : (s.withEvents x).part = s.part := rfl
@[simp] theorem State.withEvents_resetMark : (s.withEvents x).resetMark = s.resetMark := rfl
@[simp] theorem State.withEvents_deadline : (s.withEvents x).deadline = s.deadline := rfl
@[simp] theorem State.withEvents_acks : (s.withEvents x).acks = s.acks := rfl
@[simp] theorem State.withEvents_command : (s.withEvents x).command = s.command := rfl
@[simp] theorem State.withEvents_commandResult : (s.withEvents x).commandResult = s.commandResult := rfl
@[simp] theorem State.withEvents_port : (s.withEvents x).port = s.port := rfl
@[simp] theorem State.withEvents_store : (s.withEvents x).store = s.store := rfl
@[simp] theorem State.withEvents_cueSlots : (s.withEvents x).cueSlots = s.cueSlots := rfl
@[simp] theorem State.withEvents_events : (s.withEvents x).events = x := rfl
@[simp] theorem State.withEvents_eventSeq : (s.withEvents x).eventSeq = s.eventSeq := rfl
@[simp] theorem State.withEvents_inbound : (s.withEvents x).inbound = s.inbound := rfl
@[simp] theorem State.withEvents_attention : (s.withEvents x).attention = s.attention := rfl
@[simp] theorem State.withEvents_adoption : (s.withEvents x).adoption = s.adoption := rfl
@[simp] theorem State.withEvents_drive : (s.withEvents x).drive = s.drive := rfl
@[simp] theorem State.withEvents_sequencer : (s.withEvents x).sequencer = s.sequencer := rfl
@[simp] theorem State.withEvents_power : (s.withEvents x).power = s.power := rfl
@[simp] theorem State.withEvents_cadence : (s.withEvents x).cadence = s.cadence := rfl
@[simp] theorem State.withEvents_smoke : (s.withEvents x).smoke = s.smoke := rfl
@[simp] theorem State.withEvents_lamps : (s.withEvents x).lamps = s.lamps := rfl
@[simp] theorem State.withEvents_sound : (s.withEvents x).sound = s.sound := rfl
@[simp] theorem State.withEvents_radio : (s.withEvents x).radio = s.radio := rfl
@[simp] theorem State.withEvents_functions : (s.withEvents x).functions = s.functions := rfl
@[simp] theorem State.withEvents_flash : (s.withEvents x).flash = s.flash := rfl
@[simp] theorem State.withEvents_draws : (s.withEvents x).draws = s.draws := rfl
@[simp] theorem State.withEvents_pending : (s.withEvents x).pending = s.pending := rfl
end

section
variable (x : Half)
@[simp] theorem State.withEventSeq_time : (s.withEventSeq x).time = s.time := rfl
@[simp] theorem State.withEventSeq_part : (s.withEventSeq x).part = s.part := rfl
@[simp] theorem State.withEventSeq_resetMark : (s.withEventSeq x).resetMark = s.resetMark := rfl
@[simp] theorem State.withEventSeq_deadline : (s.withEventSeq x).deadline = s.deadline := rfl
@[simp] theorem State.withEventSeq_acks : (s.withEventSeq x).acks = s.acks := rfl
@[simp] theorem State.withEventSeq_command : (s.withEventSeq x).command = s.command := rfl
@[simp] theorem State.withEventSeq_commandResult : (s.withEventSeq x).commandResult = s.commandResult := rfl
@[simp] theorem State.withEventSeq_port : (s.withEventSeq x).port = s.port := rfl
@[simp] theorem State.withEventSeq_store : (s.withEventSeq x).store = s.store := rfl
@[simp] theorem State.withEventSeq_cueSlots : (s.withEventSeq x).cueSlots = s.cueSlots := rfl
@[simp] theorem State.withEventSeq_events : (s.withEventSeq x).events = s.events := rfl
@[simp] theorem State.withEventSeq_eventSeq : (s.withEventSeq x).eventSeq = x := rfl
@[simp] theorem State.withEventSeq_inbound : (s.withEventSeq x).inbound = s.inbound := rfl
@[simp] theorem State.withEventSeq_attention : (s.withEventSeq x).attention = s.attention := rfl
@[simp] theorem State.withEventSeq_adoption : (s.withEventSeq x).adoption = s.adoption := rfl
@[simp] theorem State.withEventSeq_drive : (s.withEventSeq x).drive = s.drive := rfl
@[simp] theorem State.withEventSeq_sequencer : (s.withEventSeq x).sequencer = s.sequencer := rfl
@[simp] theorem State.withEventSeq_power : (s.withEventSeq x).power = s.power := rfl
@[simp] theorem State.withEventSeq_cadence : (s.withEventSeq x).cadence = s.cadence := rfl
@[simp] theorem State.withEventSeq_smoke : (s.withEventSeq x).smoke = s.smoke := rfl
@[simp] theorem State.withEventSeq_lamps : (s.withEventSeq x).lamps = s.lamps := rfl
@[simp] theorem State.withEventSeq_sound : (s.withEventSeq x).sound = s.sound := rfl
@[simp] theorem State.withEventSeq_radio : (s.withEventSeq x).radio = s.radio := rfl
@[simp] theorem State.withEventSeq_functions : (s.withEventSeq x).functions = s.functions := rfl
@[simp] theorem State.withEventSeq_flash : (s.withEventSeq x).flash = s.flash := rfl
@[simp] theorem State.withEventSeq_draws : (s.withEventSeq x).draws = s.draws := rfl
@[simp] theorem State.withEventSeq_pending : (s.withEventSeq x).pending = s.pending := rfl
end

section
variable (x : Vector InboundRecord 8)
@[simp] theorem State.withInbound_time : (s.withInbound x).time = s.time := rfl
@[simp] theorem State.withInbound_part : (s.withInbound x).part = s.part := rfl
@[simp] theorem State.withInbound_resetMark : (s.withInbound x).resetMark = s.resetMark := rfl
@[simp] theorem State.withInbound_deadline : (s.withInbound x).deadline = s.deadline := rfl
@[simp] theorem State.withInbound_acks : (s.withInbound x).acks = s.acks := rfl
@[simp] theorem State.withInbound_command : (s.withInbound x).command = s.command := rfl
@[simp] theorem State.withInbound_commandResult : (s.withInbound x).commandResult = s.commandResult := rfl
@[simp] theorem State.withInbound_port : (s.withInbound x).port = s.port := rfl
@[simp] theorem State.withInbound_store : (s.withInbound x).store = s.store := rfl
@[simp] theorem State.withInbound_cueSlots : (s.withInbound x).cueSlots = s.cueSlots := rfl
@[simp] theorem State.withInbound_events : (s.withInbound x).events = s.events := rfl
@[simp] theorem State.withInbound_eventSeq : (s.withInbound x).eventSeq = s.eventSeq := rfl
@[simp] theorem State.withInbound_inbound : (s.withInbound x).inbound = x := rfl
@[simp] theorem State.withInbound_attention : (s.withInbound x).attention = s.attention := rfl
@[simp] theorem State.withInbound_adoption : (s.withInbound x).adoption = s.adoption := rfl
@[simp] theorem State.withInbound_drive : (s.withInbound x).drive = s.drive := rfl
@[simp] theorem State.withInbound_sequencer : (s.withInbound x).sequencer = s.sequencer := rfl
@[simp] theorem State.withInbound_power : (s.withInbound x).power = s.power := rfl
@[simp] theorem State.withInbound_cadence : (s.withInbound x).cadence = s.cadence := rfl
@[simp] theorem State.withInbound_smoke : (s.withInbound x).smoke = s.smoke := rfl
@[simp] theorem State.withInbound_lamps : (s.withInbound x).lamps = s.lamps := rfl
@[simp] theorem State.withInbound_sound : (s.withInbound x).sound = s.sound := rfl
@[simp] theorem State.withInbound_radio : (s.withInbound x).radio = s.radio := rfl
@[simp] theorem State.withInbound_functions : (s.withInbound x).functions = s.functions := rfl
@[simp] theorem State.withInbound_flash : (s.withInbound x).flash = s.flash := rfl
@[simp] theorem State.withInbound_draws : (s.withInbound x).draws = s.draws := rfl
@[simp] theorem State.withInbound_pending : (s.withInbound x).pending = s.pending := rfl
end

section
variable (x : Attention)
@[simp] theorem State.withAttention_time : (s.withAttention x).time = s.time := rfl
@[simp] theorem State.withAttention_part : (s.withAttention x).part = s.part := rfl
@[simp] theorem State.withAttention_resetMark : (s.withAttention x).resetMark = s.resetMark := rfl
@[simp] theorem State.withAttention_deadline : (s.withAttention x).deadline = s.deadline := rfl
@[simp] theorem State.withAttention_acks : (s.withAttention x).acks = s.acks := rfl
@[simp] theorem State.withAttention_command : (s.withAttention x).command = s.command := rfl
@[simp] theorem State.withAttention_commandResult : (s.withAttention x).commandResult = s.commandResult := rfl
@[simp] theorem State.withAttention_port : (s.withAttention x).port = s.port := rfl
@[simp] theorem State.withAttention_store : (s.withAttention x).store = s.store := rfl
@[simp] theorem State.withAttention_cueSlots : (s.withAttention x).cueSlots = s.cueSlots := rfl
@[simp] theorem State.withAttention_events : (s.withAttention x).events = s.events := rfl
@[simp] theorem State.withAttention_eventSeq : (s.withAttention x).eventSeq = s.eventSeq := rfl
@[simp] theorem State.withAttention_inbound : (s.withAttention x).inbound = s.inbound := rfl
@[simp] theorem State.withAttention_attention : (s.withAttention x).attention = x := rfl
@[simp] theorem State.withAttention_adoption : (s.withAttention x).adoption = s.adoption := rfl
@[simp] theorem State.withAttention_drive : (s.withAttention x).drive = s.drive := rfl
@[simp] theorem State.withAttention_sequencer : (s.withAttention x).sequencer = s.sequencer := rfl
@[simp] theorem State.withAttention_power : (s.withAttention x).power = s.power := rfl
@[simp] theorem State.withAttention_cadence : (s.withAttention x).cadence = s.cadence := rfl
@[simp] theorem State.withAttention_smoke : (s.withAttention x).smoke = s.smoke := rfl
@[simp] theorem State.withAttention_lamps : (s.withAttention x).lamps = s.lamps := rfl
@[simp] theorem State.withAttention_sound : (s.withAttention x).sound = s.sound := rfl
@[simp] theorem State.withAttention_radio : (s.withAttention x).radio = s.radio := rfl
@[simp] theorem State.withAttention_functions : (s.withAttention x).functions = s.functions := rfl
@[simp] theorem State.withAttention_flash : (s.withAttention x).flash = s.flash := rfl
@[simp] theorem State.withAttention_draws : (s.withAttention x).draws = s.draws := rfl
@[simp] theorem State.withAttention_pending : (s.withAttention x).pending = s.pending := rfl
end

section
variable (x : Adoption)
@[simp] theorem State.withAdoption_time : (s.withAdoption x).time = s.time := rfl
@[simp] theorem State.withAdoption_part : (s.withAdoption x).part = s.part := rfl
@[simp] theorem State.withAdoption_resetMark : (s.withAdoption x).resetMark = s.resetMark := rfl
@[simp] theorem State.withAdoption_deadline : (s.withAdoption x).deadline = s.deadline := rfl
@[simp] theorem State.withAdoption_acks : (s.withAdoption x).acks = s.acks := rfl
@[simp] theorem State.withAdoption_command : (s.withAdoption x).command = s.command := rfl
@[simp] theorem State.withAdoption_commandResult : (s.withAdoption x).commandResult = s.commandResult := rfl
@[simp] theorem State.withAdoption_port : (s.withAdoption x).port = s.port := rfl
@[simp] theorem State.withAdoption_store : (s.withAdoption x).store = s.store := rfl
@[simp] theorem State.withAdoption_cueSlots : (s.withAdoption x).cueSlots = s.cueSlots := rfl
@[simp] theorem State.withAdoption_events : (s.withAdoption x).events = s.events := rfl
@[simp] theorem State.withAdoption_eventSeq : (s.withAdoption x).eventSeq = s.eventSeq := rfl
@[simp] theorem State.withAdoption_inbound : (s.withAdoption x).inbound = s.inbound := rfl
@[simp] theorem State.withAdoption_attention : (s.withAdoption x).attention = s.attention := rfl
@[simp] theorem State.withAdoption_adoption : (s.withAdoption x).adoption = x := rfl
@[simp] theorem State.withAdoption_drive : (s.withAdoption x).drive = s.drive := rfl
@[simp] theorem State.withAdoption_sequencer : (s.withAdoption x).sequencer = s.sequencer := rfl
@[simp] theorem State.withAdoption_power : (s.withAdoption x).power = s.power := rfl
@[simp] theorem State.withAdoption_cadence : (s.withAdoption x).cadence = s.cadence := rfl
@[simp] theorem State.withAdoption_smoke : (s.withAdoption x).smoke = s.smoke := rfl
@[simp] theorem State.withAdoption_lamps : (s.withAdoption x).lamps = s.lamps := rfl
@[simp] theorem State.withAdoption_sound : (s.withAdoption x).sound = s.sound := rfl
@[simp] theorem State.withAdoption_radio : (s.withAdoption x).radio = s.radio := rfl
@[simp] theorem State.withAdoption_functions : (s.withAdoption x).functions = s.functions := rfl
@[simp] theorem State.withAdoption_flash : (s.withAdoption x).flash = s.flash := rfl
@[simp] theorem State.withAdoption_draws : (s.withAdoption x).draws = s.draws := rfl
@[simp] theorem State.withAdoption_pending : (s.withAdoption x).pending = s.pending := rfl
end

section
variable (x : Drive)
@[simp] theorem State.withDrive_time : (s.withDrive x).time = s.time := rfl
@[simp] theorem State.withDrive_part : (s.withDrive x).part = s.part := rfl
@[simp] theorem State.withDrive_resetMark : (s.withDrive x).resetMark = s.resetMark := rfl
@[simp] theorem State.withDrive_deadline : (s.withDrive x).deadline = s.deadline := rfl
@[simp] theorem State.withDrive_acks : (s.withDrive x).acks = s.acks := rfl
@[simp] theorem State.withDrive_command : (s.withDrive x).command = s.command := rfl
@[simp] theorem State.withDrive_commandResult : (s.withDrive x).commandResult = s.commandResult := rfl
@[simp] theorem State.withDrive_port : (s.withDrive x).port = s.port := rfl
@[simp] theorem State.withDrive_store : (s.withDrive x).store = s.store := rfl
@[simp] theorem State.withDrive_cueSlots : (s.withDrive x).cueSlots = s.cueSlots := rfl
@[simp] theorem State.withDrive_events : (s.withDrive x).events = s.events := rfl
@[simp] theorem State.withDrive_eventSeq : (s.withDrive x).eventSeq = s.eventSeq := rfl
@[simp] theorem State.withDrive_inbound : (s.withDrive x).inbound = s.inbound := rfl
@[simp] theorem State.withDrive_attention : (s.withDrive x).attention = s.attention := rfl
@[simp] theorem State.withDrive_adoption : (s.withDrive x).adoption = s.adoption := rfl
@[simp] theorem State.withDrive_drive : (s.withDrive x).drive = x := rfl
@[simp] theorem State.withDrive_sequencer : (s.withDrive x).sequencer = s.sequencer := rfl
@[simp] theorem State.withDrive_power : (s.withDrive x).power = s.power := rfl
@[simp] theorem State.withDrive_cadence : (s.withDrive x).cadence = s.cadence := rfl
@[simp] theorem State.withDrive_smoke : (s.withDrive x).smoke = s.smoke := rfl
@[simp] theorem State.withDrive_lamps : (s.withDrive x).lamps = s.lamps := rfl
@[simp] theorem State.withDrive_sound : (s.withDrive x).sound = s.sound := rfl
@[simp] theorem State.withDrive_radio : (s.withDrive x).radio = s.radio := rfl
@[simp] theorem State.withDrive_functions : (s.withDrive x).functions = s.functions := rfl
@[simp] theorem State.withDrive_flash : (s.withDrive x).flash = s.flash := rfl
@[simp] theorem State.withDrive_draws : (s.withDrive x).draws = s.draws := rfl
@[simp] theorem State.withDrive_pending : (s.withDrive x).pending = s.pending := rfl
end

section
variable (x : Sequencer)
@[simp] theorem State.withSequencer_time : (s.withSequencer x).time = s.time := rfl
@[simp] theorem State.withSequencer_part : (s.withSequencer x).part = s.part := rfl
@[simp] theorem State.withSequencer_resetMark : (s.withSequencer x).resetMark = s.resetMark := rfl
@[simp] theorem State.withSequencer_deadline : (s.withSequencer x).deadline = s.deadline := rfl
@[simp] theorem State.withSequencer_acks : (s.withSequencer x).acks = s.acks := rfl
@[simp] theorem State.withSequencer_command : (s.withSequencer x).command = s.command := rfl
@[simp] theorem State.withSequencer_commandResult : (s.withSequencer x).commandResult = s.commandResult := rfl
@[simp] theorem State.withSequencer_port : (s.withSequencer x).port = s.port := rfl
@[simp] theorem State.withSequencer_store : (s.withSequencer x).store = s.store := rfl
@[simp] theorem State.withSequencer_cueSlots : (s.withSequencer x).cueSlots = s.cueSlots := rfl
@[simp] theorem State.withSequencer_events : (s.withSequencer x).events = s.events := rfl
@[simp] theorem State.withSequencer_eventSeq : (s.withSequencer x).eventSeq = s.eventSeq := rfl
@[simp] theorem State.withSequencer_inbound : (s.withSequencer x).inbound = s.inbound := rfl
@[simp] theorem State.withSequencer_attention : (s.withSequencer x).attention = s.attention := rfl
@[simp] theorem State.withSequencer_adoption : (s.withSequencer x).adoption = s.adoption := rfl
@[simp] theorem State.withSequencer_drive : (s.withSequencer x).drive = s.drive := rfl
@[simp] theorem State.withSequencer_sequencer : (s.withSequencer x).sequencer = x := rfl
@[simp] theorem State.withSequencer_power : (s.withSequencer x).power = s.power := rfl
@[simp] theorem State.withSequencer_cadence : (s.withSequencer x).cadence = s.cadence := rfl
@[simp] theorem State.withSequencer_smoke : (s.withSequencer x).smoke = s.smoke := rfl
@[simp] theorem State.withSequencer_lamps : (s.withSequencer x).lamps = s.lamps := rfl
@[simp] theorem State.withSequencer_sound : (s.withSequencer x).sound = s.sound := rfl
@[simp] theorem State.withSequencer_radio : (s.withSequencer x).radio = s.radio := rfl
@[simp] theorem State.withSequencer_functions : (s.withSequencer x).functions = s.functions := rfl
@[simp] theorem State.withSequencer_flash : (s.withSequencer x).flash = s.flash := rfl
@[simp] theorem State.withSequencer_draws : (s.withSequencer x).draws = s.draws := rfl
@[simp] theorem State.withSequencer_pending : (s.withSequencer x).pending = s.pending := rfl
end

section
variable (x : Power)
@[simp] theorem State.withPower_time : (s.withPower x).time = s.time := rfl
@[simp] theorem State.withPower_part : (s.withPower x).part = s.part := rfl
@[simp] theorem State.withPower_resetMark : (s.withPower x).resetMark = s.resetMark := rfl
@[simp] theorem State.withPower_deadline : (s.withPower x).deadline = s.deadline := rfl
@[simp] theorem State.withPower_acks : (s.withPower x).acks = s.acks := rfl
@[simp] theorem State.withPower_command : (s.withPower x).command = s.command := rfl
@[simp] theorem State.withPower_commandResult : (s.withPower x).commandResult = s.commandResult := rfl
@[simp] theorem State.withPower_port : (s.withPower x).port = s.port := rfl
@[simp] theorem State.withPower_store : (s.withPower x).store = s.store := rfl
@[simp] theorem State.withPower_cueSlots : (s.withPower x).cueSlots = s.cueSlots := rfl
@[simp] theorem State.withPower_events : (s.withPower x).events = s.events := rfl
@[simp] theorem State.withPower_eventSeq : (s.withPower x).eventSeq = s.eventSeq := rfl
@[simp] theorem State.withPower_inbound : (s.withPower x).inbound = s.inbound := rfl
@[simp] theorem State.withPower_attention : (s.withPower x).attention = s.attention := rfl
@[simp] theorem State.withPower_adoption : (s.withPower x).adoption = s.adoption := rfl
@[simp] theorem State.withPower_drive : (s.withPower x).drive = s.drive := rfl
@[simp] theorem State.withPower_sequencer : (s.withPower x).sequencer = s.sequencer := rfl
@[simp] theorem State.withPower_power : (s.withPower x).power = x := rfl
@[simp] theorem State.withPower_cadence : (s.withPower x).cadence = s.cadence := rfl
@[simp] theorem State.withPower_smoke : (s.withPower x).smoke = s.smoke := rfl
@[simp] theorem State.withPower_lamps : (s.withPower x).lamps = s.lamps := rfl
@[simp] theorem State.withPower_sound : (s.withPower x).sound = s.sound := rfl
@[simp] theorem State.withPower_radio : (s.withPower x).radio = s.radio := rfl
@[simp] theorem State.withPower_functions : (s.withPower x).functions = s.functions := rfl
@[simp] theorem State.withPower_flash : (s.withPower x).flash = s.flash := rfl
@[simp] theorem State.withPower_draws : (s.withPower x).draws = s.draws := rfl
@[simp] theorem State.withPower_pending : (s.withPower x).pending = s.pending := rfl
end

section
variable (x : Cadence)
@[simp] theorem State.withCadence_time : (s.withCadence x).time = s.time := rfl
@[simp] theorem State.withCadence_part : (s.withCadence x).part = s.part := rfl
@[simp] theorem State.withCadence_resetMark : (s.withCadence x).resetMark = s.resetMark := rfl
@[simp] theorem State.withCadence_deadline : (s.withCadence x).deadline = s.deadline := rfl
@[simp] theorem State.withCadence_acks : (s.withCadence x).acks = s.acks := rfl
@[simp] theorem State.withCadence_command : (s.withCadence x).command = s.command := rfl
@[simp] theorem State.withCadence_commandResult : (s.withCadence x).commandResult = s.commandResult := rfl
@[simp] theorem State.withCadence_port : (s.withCadence x).port = s.port := rfl
@[simp] theorem State.withCadence_store : (s.withCadence x).store = s.store := rfl
@[simp] theorem State.withCadence_cueSlots : (s.withCadence x).cueSlots = s.cueSlots := rfl
@[simp] theorem State.withCadence_events : (s.withCadence x).events = s.events := rfl
@[simp] theorem State.withCadence_eventSeq : (s.withCadence x).eventSeq = s.eventSeq := rfl
@[simp] theorem State.withCadence_inbound : (s.withCadence x).inbound = s.inbound := rfl
@[simp] theorem State.withCadence_attention : (s.withCadence x).attention = s.attention := rfl
@[simp] theorem State.withCadence_adoption : (s.withCadence x).adoption = s.adoption := rfl
@[simp] theorem State.withCadence_drive : (s.withCadence x).drive = s.drive := rfl
@[simp] theorem State.withCadence_sequencer : (s.withCadence x).sequencer = s.sequencer := rfl
@[simp] theorem State.withCadence_power : (s.withCadence x).power = s.power := rfl
@[simp] theorem State.withCadence_cadence : (s.withCadence x).cadence = x := rfl
@[simp] theorem State.withCadence_smoke : (s.withCadence x).smoke = s.smoke := rfl
@[simp] theorem State.withCadence_lamps : (s.withCadence x).lamps = s.lamps := rfl
@[simp] theorem State.withCadence_sound : (s.withCadence x).sound = s.sound := rfl
@[simp] theorem State.withCadence_radio : (s.withCadence x).radio = s.radio := rfl
@[simp] theorem State.withCadence_functions : (s.withCadence x).functions = s.functions := rfl
@[simp] theorem State.withCadence_flash : (s.withCadence x).flash = s.flash := rfl
@[simp] theorem State.withCadence_draws : (s.withCadence x).draws = s.draws := rfl
@[simp] theorem State.withCadence_pending : (s.withCadence x).pending = s.pending := rfl
end

section
variable (x : Smoke)
@[simp] theorem State.withSmoke_time : (s.withSmoke x).time = s.time := rfl
@[simp] theorem State.withSmoke_part : (s.withSmoke x).part = s.part := rfl
@[simp] theorem State.withSmoke_resetMark : (s.withSmoke x).resetMark = s.resetMark := rfl
@[simp] theorem State.withSmoke_deadline : (s.withSmoke x).deadline = s.deadline := rfl
@[simp] theorem State.withSmoke_acks : (s.withSmoke x).acks = s.acks := rfl
@[simp] theorem State.withSmoke_command : (s.withSmoke x).command = s.command := rfl
@[simp] theorem State.withSmoke_commandResult : (s.withSmoke x).commandResult = s.commandResult := rfl
@[simp] theorem State.withSmoke_port : (s.withSmoke x).port = s.port := rfl
@[simp] theorem State.withSmoke_store : (s.withSmoke x).store = s.store := rfl
@[simp] theorem State.withSmoke_cueSlots : (s.withSmoke x).cueSlots = s.cueSlots := rfl
@[simp] theorem State.withSmoke_events : (s.withSmoke x).events = s.events := rfl
@[simp] theorem State.withSmoke_eventSeq : (s.withSmoke x).eventSeq = s.eventSeq := rfl
@[simp] theorem State.withSmoke_inbound : (s.withSmoke x).inbound = s.inbound := rfl
@[simp] theorem State.withSmoke_attention : (s.withSmoke x).attention = s.attention := rfl
@[simp] theorem State.withSmoke_adoption : (s.withSmoke x).adoption = s.adoption := rfl
@[simp] theorem State.withSmoke_drive : (s.withSmoke x).drive = s.drive := rfl
@[simp] theorem State.withSmoke_sequencer : (s.withSmoke x).sequencer = s.sequencer := rfl
@[simp] theorem State.withSmoke_power : (s.withSmoke x).power = s.power := rfl
@[simp] theorem State.withSmoke_cadence : (s.withSmoke x).cadence = s.cadence := rfl
@[simp] theorem State.withSmoke_smoke : (s.withSmoke x).smoke = x := rfl
@[simp] theorem State.withSmoke_lamps : (s.withSmoke x).lamps = s.lamps := rfl
@[simp] theorem State.withSmoke_sound : (s.withSmoke x).sound = s.sound := rfl
@[simp] theorem State.withSmoke_radio : (s.withSmoke x).radio = s.radio := rfl
@[simp] theorem State.withSmoke_functions : (s.withSmoke x).functions = s.functions := rfl
@[simp] theorem State.withSmoke_flash : (s.withSmoke x).flash = s.flash := rfl
@[simp] theorem State.withSmoke_draws : (s.withSmoke x).draws = s.draws := rfl
@[simp] theorem State.withSmoke_pending : (s.withSmoke x).pending = s.pending := rfl
end

section
variable (x : Lamps)
@[simp] theorem State.withLamps_time : (s.withLamps x).time = s.time := rfl
@[simp] theorem State.withLamps_part : (s.withLamps x).part = s.part := rfl
@[simp] theorem State.withLamps_resetMark : (s.withLamps x).resetMark = s.resetMark := rfl
@[simp] theorem State.withLamps_deadline : (s.withLamps x).deadline = s.deadline := rfl
@[simp] theorem State.withLamps_acks : (s.withLamps x).acks = s.acks := rfl
@[simp] theorem State.withLamps_command : (s.withLamps x).command = s.command := rfl
@[simp] theorem State.withLamps_commandResult : (s.withLamps x).commandResult = s.commandResult := rfl
@[simp] theorem State.withLamps_port : (s.withLamps x).port = s.port := rfl
@[simp] theorem State.withLamps_store : (s.withLamps x).store = s.store := rfl
@[simp] theorem State.withLamps_cueSlots : (s.withLamps x).cueSlots = s.cueSlots := rfl
@[simp] theorem State.withLamps_events : (s.withLamps x).events = s.events := rfl
@[simp] theorem State.withLamps_eventSeq : (s.withLamps x).eventSeq = s.eventSeq := rfl
@[simp] theorem State.withLamps_inbound : (s.withLamps x).inbound = s.inbound := rfl
@[simp] theorem State.withLamps_attention : (s.withLamps x).attention = s.attention := rfl
@[simp] theorem State.withLamps_adoption : (s.withLamps x).adoption = s.adoption := rfl
@[simp] theorem State.withLamps_drive : (s.withLamps x).drive = s.drive := rfl
@[simp] theorem State.withLamps_sequencer : (s.withLamps x).sequencer = s.sequencer := rfl
@[simp] theorem State.withLamps_power : (s.withLamps x).power = s.power := rfl
@[simp] theorem State.withLamps_cadence : (s.withLamps x).cadence = s.cadence := rfl
@[simp] theorem State.withLamps_smoke : (s.withLamps x).smoke = s.smoke := rfl
@[simp] theorem State.withLamps_lamps : (s.withLamps x).lamps = x := rfl
@[simp] theorem State.withLamps_sound : (s.withLamps x).sound = s.sound := rfl
@[simp] theorem State.withLamps_radio : (s.withLamps x).radio = s.radio := rfl
@[simp] theorem State.withLamps_functions : (s.withLamps x).functions = s.functions := rfl
@[simp] theorem State.withLamps_flash : (s.withLamps x).flash = s.flash := rfl
@[simp] theorem State.withLamps_draws : (s.withLamps x).draws = s.draws := rfl
@[simp] theorem State.withLamps_pending : (s.withLamps x).pending = s.pending := rfl
end

section
variable (x : Sound)
@[simp] theorem State.withSound_time : (s.withSound x).time = s.time := rfl
@[simp] theorem State.withSound_part : (s.withSound x).part = s.part := rfl
@[simp] theorem State.withSound_resetMark : (s.withSound x).resetMark = s.resetMark := rfl
@[simp] theorem State.withSound_deadline : (s.withSound x).deadline = s.deadline := rfl
@[simp] theorem State.withSound_acks : (s.withSound x).acks = s.acks := rfl
@[simp] theorem State.withSound_command : (s.withSound x).command = s.command := rfl
@[simp] theorem State.withSound_commandResult : (s.withSound x).commandResult = s.commandResult := rfl
@[simp] theorem State.withSound_port : (s.withSound x).port = s.port := rfl
@[simp] theorem State.withSound_store : (s.withSound x).store = s.store := rfl
@[simp] theorem State.withSound_cueSlots : (s.withSound x).cueSlots = s.cueSlots := rfl
@[simp] theorem State.withSound_events : (s.withSound x).events = s.events := rfl
@[simp] theorem State.withSound_eventSeq : (s.withSound x).eventSeq = s.eventSeq := rfl
@[simp] theorem State.withSound_inbound : (s.withSound x).inbound = s.inbound := rfl
@[simp] theorem State.withSound_attention : (s.withSound x).attention = s.attention := rfl
@[simp] theorem State.withSound_adoption : (s.withSound x).adoption = s.adoption := rfl
@[simp] theorem State.withSound_drive : (s.withSound x).drive = s.drive := rfl
@[simp] theorem State.withSound_sequencer : (s.withSound x).sequencer = s.sequencer := rfl
@[simp] theorem State.withSound_power : (s.withSound x).power = s.power := rfl
@[simp] theorem State.withSound_cadence : (s.withSound x).cadence = s.cadence := rfl
@[simp] theorem State.withSound_smoke : (s.withSound x).smoke = s.smoke := rfl
@[simp] theorem State.withSound_lamps : (s.withSound x).lamps = s.lamps := rfl
@[simp] theorem State.withSound_sound : (s.withSound x).sound = x := rfl
@[simp] theorem State.withSound_radio : (s.withSound x).radio = s.radio := rfl
@[simp] theorem State.withSound_functions : (s.withSound x).functions = s.functions := rfl
@[simp] theorem State.withSound_flash : (s.withSound x).flash = s.flash := rfl
@[simp] theorem State.withSound_draws : (s.withSound x).draws = s.draws := rfl
@[simp] theorem State.withSound_pending : (s.withSound x).pending = s.pending := rfl
end

section
variable (x : Radio)
@[simp] theorem State.withRadio_time : (s.withRadio x).time = s.time := rfl
@[simp] theorem State.withRadio_part : (s.withRadio x).part = s.part := rfl
@[simp] theorem State.withRadio_resetMark : (s.withRadio x).resetMark = s.resetMark := rfl
@[simp] theorem State.withRadio_deadline : (s.withRadio x).deadline = s.deadline := rfl
@[simp] theorem State.withRadio_acks : (s.withRadio x).acks = s.acks := rfl
@[simp] theorem State.withRadio_command : (s.withRadio x).command = s.command := rfl
@[simp] theorem State.withRadio_commandResult : (s.withRadio x).commandResult = s.commandResult := rfl
@[simp] theorem State.withRadio_port : (s.withRadio x).port = s.port := rfl
@[simp] theorem State.withRadio_store : (s.withRadio x).store = s.store := rfl
@[simp] theorem State.withRadio_cueSlots : (s.withRadio x).cueSlots = s.cueSlots := rfl
@[simp] theorem State.withRadio_events : (s.withRadio x).events = s.events := rfl
@[simp] theorem State.withRadio_eventSeq : (s.withRadio x).eventSeq = s.eventSeq := rfl
@[simp] theorem State.withRadio_inbound : (s.withRadio x).inbound = s.inbound := rfl
@[simp] theorem State.withRadio_attention : (s.withRadio x).attention = s.attention := rfl
@[simp] theorem State.withRadio_adoption : (s.withRadio x).adoption = s.adoption := rfl
@[simp] theorem State.withRadio_drive : (s.withRadio x).drive = s.drive := rfl
@[simp] theorem State.withRadio_sequencer : (s.withRadio x).sequencer = s.sequencer := rfl
@[simp] theorem State.withRadio_power : (s.withRadio x).power = s.power := rfl
@[simp] theorem State.withRadio_cadence : (s.withRadio x).cadence = s.cadence := rfl
@[simp] theorem State.withRadio_smoke : (s.withRadio x).smoke = s.smoke := rfl
@[simp] theorem State.withRadio_lamps : (s.withRadio x).lamps = s.lamps := rfl
@[simp] theorem State.withRadio_sound : (s.withRadio x).sound = s.sound := rfl
@[simp] theorem State.withRadio_radio : (s.withRadio x).radio = x := rfl
@[simp] theorem State.withRadio_functions : (s.withRadio x).functions = s.functions := rfl
@[simp] theorem State.withRadio_flash : (s.withRadio x).flash = s.flash := rfl
@[simp] theorem State.withRadio_draws : (s.withRadio x).draws = s.draws := rfl
@[simp] theorem State.withRadio_pending : (s.withRadio x).pending = s.pending := rfl
end

section
variable (x : Functions)
@[simp] theorem State.withFunctions_time : (s.withFunctions x).time = s.time := rfl
@[simp] theorem State.withFunctions_part : (s.withFunctions x).part = s.part := rfl
@[simp] theorem State.withFunctions_resetMark : (s.withFunctions x).resetMark = s.resetMark := rfl
@[simp] theorem State.withFunctions_deadline : (s.withFunctions x).deadline = s.deadline := rfl
@[simp] theorem State.withFunctions_acks : (s.withFunctions x).acks = s.acks := rfl
@[simp] theorem State.withFunctions_command : (s.withFunctions x).command = s.command := rfl
@[simp] theorem State.withFunctions_commandResult : (s.withFunctions x).commandResult = s.commandResult := rfl
@[simp] theorem State.withFunctions_port : (s.withFunctions x).port = s.port := rfl
@[simp] theorem State.withFunctions_store : (s.withFunctions x).store = s.store := rfl
@[simp] theorem State.withFunctions_cueSlots : (s.withFunctions x).cueSlots = s.cueSlots := rfl
@[simp] theorem State.withFunctions_events : (s.withFunctions x).events = s.events := rfl
@[simp] theorem State.withFunctions_eventSeq : (s.withFunctions x).eventSeq = s.eventSeq := rfl
@[simp] theorem State.withFunctions_inbound : (s.withFunctions x).inbound = s.inbound := rfl
@[simp] theorem State.withFunctions_attention : (s.withFunctions x).attention = s.attention := rfl
@[simp] theorem State.withFunctions_adoption : (s.withFunctions x).adoption = s.adoption := rfl
@[simp] theorem State.withFunctions_drive : (s.withFunctions x).drive = s.drive := rfl
@[simp] theorem State.withFunctions_sequencer : (s.withFunctions x).sequencer = s.sequencer := rfl
@[simp] theorem State.withFunctions_power : (s.withFunctions x).power = s.power := rfl
@[simp] theorem State.withFunctions_cadence : (s.withFunctions x).cadence = s.cadence := rfl
@[simp] theorem State.withFunctions_smoke : (s.withFunctions x).smoke = s.smoke := rfl
@[simp] theorem State.withFunctions_lamps : (s.withFunctions x).lamps = s.lamps := rfl
@[simp] theorem State.withFunctions_sound : (s.withFunctions x).sound = s.sound := rfl
@[simp] theorem State.withFunctions_radio : (s.withFunctions x).radio = s.radio := rfl
@[simp] theorem State.withFunctions_functions : (s.withFunctions x).functions = x := rfl
@[simp] theorem State.withFunctions_flash : (s.withFunctions x).flash = s.flash := rfl
@[simp] theorem State.withFunctions_draws : (s.withFunctions x).draws = s.draws := rfl
@[simp] theorem State.withFunctions_pending : (s.withFunctions x).pending = s.pending := rfl
end

section
variable (x : Memory)
@[simp] theorem State.withFlash_time : (s.withFlash x).time = s.time := rfl
@[simp] theorem State.withFlash_part : (s.withFlash x).part = s.part := rfl
@[simp] theorem State.withFlash_resetMark : (s.withFlash x).resetMark = s.resetMark := rfl
@[simp] theorem State.withFlash_deadline : (s.withFlash x).deadline = s.deadline := rfl
@[simp] theorem State.withFlash_acks : (s.withFlash x).acks = s.acks := rfl
@[simp] theorem State.withFlash_command : (s.withFlash x).command = s.command := rfl
@[simp] theorem State.withFlash_commandResult : (s.withFlash x).commandResult = s.commandResult := rfl
@[simp] theorem State.withFlash_port : (s.withFlash x).port = s.port := rfl
@[simp] theorem State.withFlash_store : (s.withFlash x).store = s.store := rfl
@[simp] theorem State.withFlash_cueSlots : (s.withFlash x).cueSlots = s.cueSlots := rfl
@[simp] theorem State.withFlash_events : (s.withFlash x).events = s.events := rfl
@[simp] theorem State.withFlash_eventSeq : (s.withFlash x).eventSeq = s.eventSeq := rfl
@[simp] theorem State.withFlash_inbound : (s.withFlash x).inbound = s.inbound := rfl
@[simp] theorem State.withFlash_attention : (s.withFlash x).attention = s.attention := rfl
@[simp] theorem State.withFlash_adoption : (s.withFlash x).adoption = s.adoption := rfl
@[simp] theorem State.withFlash_drive : (s.withFlash x).drive = s.drive := rfl
@[simp] theorem State.withFlash_sequencer : (s.withFlash x).sequencer = s.sequencer := rfl
@[simp] theorem State.withFlash_power : (s.withFlash x).power = s.power := rfl
@[simp] theorem State.withFlash_cadence : (s.withFlash x).cadence = s.cadence := rfl
@[simp] theorem State.withFlash_smoke : (s.withFlash x).smoke = s.smoke := rfl
@[simp] theorem State.withFlash_lamps : (s.withFlash x).lamps = s.lamps := rfl
@[simp] theorem State.withFlash_sound : (s.withFlash x).sound = s.sound := rfl
@[simp] theorem State.withFlash_radio : (s.withFlash x).radio = s.radio := rfl
@[simp] theorem State.withFlash_functions : (s.withFlash x).functions = s.functions := rfl
@[simp] theorem State.withFlash_flash : (s.withFlash x).flash = x := rfl
@[simp] theorem State.withFlash_draws : (s.withFlash x).draws = s.draws := rfl
@[simp] theorem State.withFlash_pending : (s.withFlash x).pending = s.pending := rfl
end

section
variable (x : Nat)
@[simp] theorem State.withDraws_time : (s.withDraws x).time = s.time := rfl
@[simp] theorem State.withDraws_part : (s.withDraws x).part = s.part := rfl
@[simp] theorem State.withDraws_resetMark : (s.withDraws x).resetMark = s.resetMark := rfl
@[simp] theorem State.withDraws_deadline : (s.withDraws x).deadline = s.deadline := rfl
@[simp] theorem State.withDraws_acks : (s.withDraws x).acks = s.acks := rfl
@[simp] theorem State.withDraws_command : (s.withDraws x).command = s.command := rfl
@[simp] theorem State.withDraws_commandResult : (s.withDraws x).commandResult = s.commandResult := rfl
@[simp] theorem State.withDraws_port : (s.withDraws x).port = s.port := rfl
@[simp] theorem State.withDraws_store : (s.withDraws x).store = s.store := rfl
@[simp] theorem State.withDraws_cueSlots : (s.withDraws x).cueSlots = s.cueSlots := rfl
@[simp] theorem State.withDraws_events : (s.withDraws x).events = s.events := rfl
@[simp] theorem State.withDraws_eventSeq : (s.withDraws x).eventSeq = s.eventSeq := rfl
@[simp] theorem State.withDraws_inbound : (s.withDraws x).inbound = s.inbound := rfl
@[simp] theorem State.withDraws_attention : (s.withDraws x).attention = s.attention := rfl
@[simp] theorem State.withDraws_adoption : (s.withDraws x).adoption = s.adoption := rfl
@[simp] theorem State.withDraws_drive : (s.withDraws x).drive = s.drive := rfl
@[simp] theorem State.withDraws_sequencer : (s.withDraws x).sequencer = s.sequencer := rfl
@[simp] theorem State.withDraws_power : (s.withDraws x).power = s.power := rfl
@[simp] theorem State.withDraws_cadence : (s.withDraws x).cadence = s.cadence := rfl
@[simp] theorem State.withDraws_smoke : (s.withDraws x).smoke = s.smoke := rfl
@[simp] theorem State.withDraws_lamps : (s.withDraws x).lamps = s.lamps := rfl
@[simp] theorem State.withDraws_sound : (s.withDraws x).sound = s.sound := rfl
@[simp] theorem State.withDraws_radio : (s.withDraws x).radio = s.radio := rfl
@[simp] theorem State.withDraws_functions : (s.withDraws x).functions = s.functions := rfl
@[simp] theorem State.withDraws_flash : (s.withDraws x).flash = s.flash := rfl
@[simp] theorem State.withDraws_draws : (s.withDraws x).draws = x := rfl
@[simp] theorem State.withDraws_pending : (s.withDraws x).pending = s.pending := rfl
end

section
variable (x : List Instr)
@[simp] theorem State.withPending_time : (s.withPending x).time = s.time := rfl
@[simp] theorem State.withPending_part : (s.withPending x).part = s.part := rfl
@[simp] theorem State.withPending_resetMark : (s.withPending x).resetMark = s.resetMark := rfl
@[simp] theorem State.withPending_deadline : (s.withPending x).deadline = s.deadline := rfl
@[simp] theorem State.withPending_acks : (s.withPending x).acks = s.acks := rfl
@[simp] theorem State.withPending_command : (s.withPending x).command = s.command := rfl
@[simp] theorem State.withPending_commandResult : (s.withPending x).commandResult = s.commandResult := rfl
@[simp] theorem State.withPending_port : (s.withPending x).port = s.port := rfl
@[simp] theorem State.withPending_store : (s.withPending x).store = s.store := rfl
@[simp] theorem State.withPending_cueSlots : (s.withPending x).cueSlots = s.cueSlots := rfl
@[simp] theorem State.withPending_events : (s.withPending x).events = s.events := rfl
@[simp] theorem State.withPending_eventSeq : (s.withPending x).eventSeq = s.eventSeq := rfl
@[simp] theorem State.withPending_inbound : (s.withPending x).inbound = s.inbound := rfl
@[simp] theorem State.withPending_attention : (s.withPending x).attention = s.attention := rfl
@[simp] theorem State.withPending_adoption : (s.withPending x).adoption = s.adoption := rfl
@[simp] theorem State.withPending_drive : (s.withPending x).drive = s.drive := rfl
@[simp] theorem State.withPending_sequencer : (s.withPending x).sequencer = s.sequencer := rfl
@[simp] theorem State.withPending_power : (s.withPending x).power = s.power := rfl
@[simp] theorem State.withPending_cadence : (s.withPending x).cadence = s.cadence := rfl
@[simp] theorem State.withPending_smoke : (s.withPending x).smoke = s.smoke := rfl
@[simp] theorem State.withPending_lamps : (s.withPending x).lamps = s.lamps := rfl
@[simp] theorem State.withPending_sound : (s.withPending x).sound = s.sound := rfl
@[simp] theorem State.withPending_radio : (s.withPending x).radio = s.radio := rfl
@[simp] theorem State.withPending_functions : (s.withPending x).functions = s.functions := rfl
@[simp] theorem State.withPending_flash : (s.withPending x).flash = s.flash := rfl
@[simp] theorem State.withPending_draws : (s.withPending x).draws = s.draws := rfl
@[simp] theorem State.withPending_pending : (s.withPending x).pending = x := rfl
end

end Sys2Proof.Machine
end

