-- ==== Sys2Proof/Laws/Memory.lean ====
section
/-! SUPPORT. The laws of the store's memory: what a read finds after a write, and that every memory operation keeps
the canonical form. -/

namespace Sys2Proof.Machine

/-! ### Reading after writing -/

theorem Memory.lookup_filter_of_true (m : Memory) (p : Host.Cell → Bool) (a : Nat)
    (h : ∀ b : Byte, p (a, b) = true) : (m.filter p).lookup a = m.lookup a := by
  induction m with
  | nil => rfl
  | cons c m ih =>
    obtain ⟨x, b⟩ := c
    by_cases hx : a = x
    · subst hx
      simp [h]
    · have hb : (a == x) = false := by simpa using hx
      by_cases hp : p (x, b) = true <;> simp [hp, List.lookup_cons, hb, ih]

theorem Memory.lookup_filter_of_false (m : Memory) (p : Host.Cell → Bool) (a : Nat)
    (h : ∀ b : Byte, p (a, b) = false) : (m.filter p).lookup a = none := by
  induction m with
  | nil => rfl
  | cons c m ih =>
    obtain ⟨x, b⟩ := c
    by_cases hx : a = x
    · subst hx
      simp [h, ih]
    · have hb : (a == x) = false := by simpa using hx
      by_cases hp : p (x, b) = true <;> simp [hp, List.lookup_cons, hb, ih]

theorem Memory.lookup_cells_outside (blank : Byte) (bs : List Byte) (a n : Nat)
    (h : n < a ∨ a + bs.length ≤ n) : (Memory.cells blank a bs).lookup n = none := by
  induction bs generalizing a with
  | nil => rfl
  | cons b bs ih =>
    simp only [List.length_cons] at h
    have ih' := ih (a + 1) (by omega)
    have hb : (n == a) = false := by simp; omega
    by_cases hbl : b = blank <;> simp [Memory.cells, hbl, List.lookup_cons, hb, ih']

theorem Memory.lookup_cells_inside (blank : Byte) (bs : List Byte) (a i : Nat) (h : i < bs.length) :
    ((Memory.cells blank a bs).lookup (a + i)).getD blank = bs.getD i 0#8 := by
  induction bs generalizing a i with
  | nil => simp at h
  | cons b bs ih =>
    cases i with
    | zero =>
      by_cases hbl : b = blank
      · subst hbl
        simp [Memory.cells, Memory.lookup_cells_outside]
      · simp [Memory.cells, hbl]
    | succ i =>
      have ih' := ih (a + 1) i (by simpa using h)
      rw [show a + 1 + i = a + (i + 1) by omega] at ih'
      have hb : (a + (i + 1) == a) = false := by simp
      by_cases hbl : b = blank <;> simp [Memory.cells, hbl, List.lookup_cons, hb] <;> simpa using ih'

theorem Memory.lookup_append (xs ys : Memory) (a : Nat) :
    (xs ++ ys).lookup a = (xs.lookup a).or (ys.lookup a) := by
  induction xs with
  | nil => rfl
  | cons c xs ih =>
    obtain ⟨x, b⟩ := c
    by_cases hx : a = x
    · subst hx
      simp
    · have hb : (a == x) = false := by simpa using hx
      simp [List.lookup_cons, hb, ih]

/-- A byte outside the run written reads as before. -/
theorem Memory.read_write_outside (blank : Byte) (m : Memory) (a n : Nat) (bs : List Byte)
    (h : n < a ∨ a + bs.length ≤ n) : (m.write blank a bs).read blank n = m.read blank n := by
  unfold Memory.read Memory.write
  rw [Memory.lookup_append, Memory.lookup_append, Memory.lookup_cells_outside blank bs a n h]
  by_cases hn : n < a
  · rw [Memory.lookup_filter_of_true _ _ _ (by simpa using hn),
      Memory.lookup_filter_of_false _ _ _ (by intro b; simp; omega)]
    simp
  · rw [Memory.lookup_filter_of_false _ _ _ (by intro b; simp; omega),
      Memory.lookup_filter_of_true _ _ _ (by intro b; simp; omega)]
    simp

/-- A byte of the run written reads as it was written. -/
theorem Memory.read_write_inside (blank : Byte) (m : Memory) (a i : Nat) (bs : List Byte) (h : i < bs.length) :
    (m.write blank a bs).read blank (a + i) = bs.getD i 0#8 := by
  unfold Memory.read Memory.write
  rw [Memory.lookup_append, Memory.lookup_append,
    Memory.lookup_filter_of_false _ _ _ (by intro b; simp),
    Memory.lookup_filter_of_false _ _ _ (by intro b; simp; omega)]
  simpa using Memory.lookup_cells_inside blank bs a i h

/-! ### The canonical form -/

theorem Memory.cells_wellFormed (blank : Byte) (bs : List Byte) (a : Nat) :
    (∀ c ∈ Memory.cells blank a bs, a ≤ c.1 ∧ c.1 < a + bs.length) ∧
      Memory.WellFormed blank (Memory.cells blank a bs) := by
  induction bs generalizing a with
  | nil => simp [Memory.cells, Memory.WellFormed]
  | cons b bs ih =>
    obtain ⟨hr, hp, hn⟩ := ih (a + 1)
    have hr' : ∀ c ∈ Memory.cells blank (a + 1) bs, a ≤ c.1 ∧ c.1 < a + (b :: bs).length := by
      intro c hc
      have := hr c hc
      simp only [List.length_cons]
      omega
    by_cases hbl : b = blank
    · simp only [Memory.cells, hbl, if_true]
      exact ⟨by simpa [hbl] using hr', hp, hn⟩
    · simp only [Memory.cells, hbl, if_false]
      refine ⟨?_, List.pairwise_cons.mpr ⟨?_, hp⟩, ?_⟩
      · intro c hc
        rcases List.mem_cons.mp hc with rfl | hc
        · simp
        · exact hr' c hc
      · intro c hc
        have := hr c hc
        simp only
        omega
      · intro c hc
        rcases List.mem_cons.mp hc with rfl | hc
        · exact hbl
        · exact hn c hc

/-- Leaving entries out keeps the canonical form. -/
theorem Memory.filter_wellFormed (blank : Byte) (m : Memory) (p : Host.Cell → Bool)
    (h : Memory.WellFormed blank m) : Memory.WellFormed blank (m.filter p) :=
  ⟨h.1.filter p, fun c hc => h.2 c (List.mem_filter.mp hc).1⟩

/-- A write keeps the canonical form. -/
theorem Memory.write_wellFormed (blank : Byte) (m : Memory) (a : Nat) (bs : List Byte)
    (h : Memory.WellFormed blank m) : Memory.WellFormed blank (m.write blank a bs) := by
  obtain ⟨hr, hp, hn⟩ := Memory.cells_wellFormed blank bs a
  have h₁ := Memory.filter_wellFormed blank m (fun c => c.1 < a) h
  have h₂ := Memory.filter_wellFormed blank m (fun c => a + bs.length ≤ c.1) h
  unfold Memory.write
  refine ⟨?_, ?_⟩
  · refine List.pairwise_append.mpr ⟨List.pairwise_append.mpr ⟨h₁.1, hp, ?_⟩, h₂.1, ?_⟩
    · intro x hx y hy
      have hx := (List.mem_filter.mp hx).2
      have hy := hr y hy
      simp at hx
      omega
    · intro x hx y hy
      have hy := (List.mem_filter.mp hy).2
      simp at hy
      rcases List.mem_append.mp hx with hx | hx
      · have hx := (List.mem_filter.mp hx).2
        simp at hx
        omega
      · have hx := hr x hx
        omega
  · intro c hc
    rcases List.mem_append.mp hc with hc | hc
    · rcases List.mem_append.mp hc with hc | hc
      · exact h₁.2 c hc
      · exact hn c hc
    · exact h₂.2 c hc

/-- The store of a soft reset keeps the canonical form. -/
theorem resetStore_wellFormed (m : Memory) (h : Memory.WellFormed 0#8 m) : Memory.WellFormed 0#8 (resetStore m) :=
  Memory.filter_wellFormed 0#8 m _ h

/-- Right after reset the store and the flash have the canonical form. -/
theorem reset_memory_wellFormed :
    Memory.WellFormed 0#8 State.reset.store ∧ Memory.WellFormed 0xFF#8 State.reset.flash := by
  simp [State.reset, Memory.WellFormed]

/-! ### The store -/

theorem State.storeAt_writeStore_outside (s : State) (a n : Nat) (bs : List Byte)
    (h : n < a ∨ a + bs.length ≤ n) : (s.writeStore a bs).storeAt n = s.storeAt n :=
  Memory.read_write_outside 0#8 s.store a n bs h

theorem State.storeAt_writeStore_inside (s : State) (a i : Nat) (bs : List Byte) (h : i < bs.length) :
    (s.writeStore a bs).storeAt (a + i) = bs.getD i 0#8 :=
  Memory.read_write_inside 0#8 s.store a i bs h

/-- What a writing of a readings group does to the store: the fields stand from `offset` on, the write count has
risen by 1, and every other byte is as it was. -/
theorem State.storeAt_writeGroup (s : State) (base offset : Nat) (fields : List Byte) (n : Nat) :
    (s.writeGroup base offset fields).storeAt n =
      if n = base then s.storeAt base + 1#8
      else if base + offset ≤ n ∧ n < base + offset + fields.length then fields.getD (n - (base + offset)) 0#8
      else s.storeAt n := by
  unfold State.writeGroup
  by_cases hb : n = base
  · subst hb
    simpa using State.storeAt_writeStore_inside (s.writeStore (n + offset) fields) n 0 [s.storeAt n + 1#8] (by simp)
  · rw [State.storeAt_writeStore_outside _ _ _ _ (by simp; omega), if_neg hb]
    split
    · rename_i hn
      have := State.storeAt_writeStore_inside s (base + offset) (n - (base + offset)) fields (by omega)
      rwa [show base + offset + (n - (base + offset)) = n by omega] at this
    · exact State.storeAt_writeStore_outside s _ _ _ (by omega)

end Sys2Proof.Machine
end

