-- ==== Sys2Proof/Laws/Frame.lean ====
section
/-! SUPPORT. The laws of frames: an update of one field changes that component alone, and frames chain. -/

namespace Sys2Proof.Machine

-- One proof at a time: proofs that wait for one another would each hold a thread.
set_option Elab.async false

theorem State.sameExcept_refl (s : State) (l : List Component) : s.SameExcept s l := by
  intro c _
  cases c <;> simp [Component.same]

/-- Agreement on a component chains. -/
theorem Component.same_trans {s t u : State} {c : Component} (h : c.same s t) (k : c.same t u) : c.same s u := by
  cases c <;> simp_all [Component.same]

theorem State.sameExcept_trans {s t u : State} {l : List Component} (h : s.SameExcept t l)
    (k : t.SameExcept u l) : s.SameExcept u l :=
  fun c hc => Component.same_trans (h c hc) (k c hc)

/-- A frame that names more components says less. -/
theorem State.sameExcept_mono {s t : State} {l m : List Component} (h : s.SameExcept t l)
    (sub : ∀ c ∈ l, c ∈ m) : s.SameExcept t m :=
  fun c hc => h c fun hl => hc (sub c hl)

section
variable (s : State)

theorem State.sameExcept_withTime (x) : s.SameExcept (s.withTime x) [.time] := by
  intro c hc
  cases c <;> simp_all [Component.same, State.storeAt]

theorem State.sameExcept_withPart (x) : s.SameExcept (s.withPart x) [.part] := by
  intro c hc
  cases c <;> simp_all [Component.same, State.storeAt]

theorem State.sameExcept_withResetMark (x) : s.SameExcept (s.withResetMark x) [.resetMark] := by
  intro c hc
  cases c <;> simp_all [Component.same, State.storeAt]

theorem State.sameExcept_withDeadline (x) : s.SameExcept (s.withDeadline x) [.deadline] := by
  intro c hc
  cases c <;> simp_all [Component.same, State.storeAt]

theorem State.sameExcept_withAcks (x) : s.SameExcept (s.withAcks x) [.acks] := by
  intro c hc
  cases c <;> simp_all [Component.same, State.storeAt]

theorem State.sameExcept_withCommand (x) : s.SameExcept (s.withCommand x) [.command] := by
  intro c hc
  cases c <;> simp_all [Component.same, State.storeAt]

theorem State.sameExcept_withCommandResult (x) : s.SameExcept (s.withCommandResult x) [.commandResult] := by
  intro c hc
  cases c <;> simp_all [Component.same, State.storeAt]

theorem State.sameExcept_withPort (x) : s.SameExcept (s.withPort x) [.port] := by
  intro c hc
  cases c <;> simp_all [Component.same, State.storeAt]

theorem State.sameExcept_withStore (x) : s.SameExcept (s.withStore x) [.store] := by
  intro c hc
  cases c <;> simp_all [Component.same]

theorem State.sameExcept_withCueSlots (x) : s.SameExcept (s.withCueSlots x) [.cueSlots] := by
  intro c hc
  cases c <;> simp_all [Component.same, State.storeAt]

theorem State.sameExcept_withEvents (x) : s.SameExcept (s.withEvents x) [.events] := by
  intro c hc
  cases c <;> simp_all [Component.same, State.storeAt]

theorem State.sameExcept_withEventSeq (x) : s.SameExcept (s.withEventSeq x) [.eventSeq] := by
  intro c hc
  cases c <;> simp_all [Component.same, State.storeAt]

theorem State.sameExcept_withInbound (x) : s.SameExcept (s.withInbound x) [.inbound] := by
  intro c hc
  cases c <;> simp_all [Component.same, State.storeAt]

theorem State.sameExcept_withAttention (x) : s.SameExcept (s.withAttention x) [.attention] := by
  intro c hc
  cases c <;> simp_all [Component.same, State.storeAt]

theorem State.sameExcept_withAdoption (x) : s.SameExcept (s.withAdoption x) [.adoption] := by
  intro c hc
  cases c <;> simp_all [Component.same, State.storeAt]

theorem State.sameExcept_withDrive (x) : s.SameExcept (s.withDrive x) [.drive] := by
  intro c hc
  cases c <;> simp_all [Component.same, State.storeAt]

theorem State.sameExcept_withSequencer (x) : s.SameExcept (s.withSequencer x) [.sequencer] := by
  intro c hc
  cases c <;> simp_all [Component.same, State.storeAt]

theorem State.sameExcept_withPower (x) : s.SameExcept (s.withPower x) [.power] := by
  intro c hc
  cases c <;> simp_all [Component.same, State.storeAt]

theorem State.sameExcept_withCadence (x) : s.SameExcept (s.withCadence x) [.cadence] := by
  intro c hc
  cases c <;> simp_all [Component.same, State.storeAt]

theorem State.sameExcept_withSmoke (x) : s.SameExcept (s.withSmoke x) [.smoke] := by
  intro c hc
  cases c <;> simp_all [Component.same, State.storeAt]

theorem State.sameExcept_withLamps (x) : s.SameExcept (s.withLamps x) [.lamps] := by
  intro c hc
  cases c <;> simp_all [Component.same, State.storeAt]

theorem State.sameExcept_withSound (x) : s.SameExcept (s.withSound x) [.sound] := by
  intro c hc
  cases c <;> simp_all [Component.same, State.storeAt]

theorem State.sameExcept_withRadio (x) : s.SameExcept (s.withRadio x) [.radio] := by
  intro c hc
  cases c <;> simp_all [Component.same, State.storeAt]

theorem State.sameExcept_withFunctions (x) : s.SameExcept (s.withFunctions x) [.functions] := by
  intro c hc
  cases c <;> simp_all [Component.same, State.storeAt]

theorem State.sameExcept_withFlash (x) : s.SameExcept (s.withFlash x) [.flash] := by
  intro c hc
  cases c <;> simp_all [Component.same, State.storeAt]

theorem State.sameExcept_withDraws (x) : s.SameExcept (s.withDraws x) [.draws] := by
  intro c hc
  cases c <;> simp_all [Component.same, State.storeAt]

theorem State.sameExcept_withPending (x) : s.SameExcept (s.withPending x) [.pending] := by
  intro c hc
  cases c <;> simp_all [Component.same, State.storeAt]

@[simp] theorem State.storeAt_withTime (x) (a : Nat) : (s.withTime x).storeAt a = s.storeAt a := rfl
@[simp] theorem State.storeAt_withPart (x) (a : Nat) : (s.withPart x).storeAt a = s.storeAt a := rfl
@[simp] theorem State.storeAt_withResetMark (x) (a : Nat) : (s.withResetMark x).storeAt a = s.storeAt a := rfl
@[simp] theorem State.storeAt_withDeadline (x) (a : Nat) : (s.withDeadline x).storeAt a = s.storeAt a := rfl
@[simp] theorem State.storeAt_withAcks (x) (a : Nat) : (s.withAcks x).storeAt a = s.storeAt a := rfl
@[simp] theorem State.storeAt_withCommand (x) (a : Nat) : (s.withCommand x).storeAt a = s.storeAt a := rfl
@[simp] theorem State.storeAt_withCommandResult (x) (a : Nat) : (s.withCommandResult x).storeAt a = s.storeAt a := rfl
@[simp] theorem State.storeAt_withPort (x) (a : Nat) : (s.withPort x).storeAt a = s.storeAt a := rfl
@[simp] theorem State.storeAt_withCueSlots (x) (a : Nat) : (s.withCueSlots x).storeAt a = s.storeAt a := rfl
@[simp] theorem State.storeAt_withEvents (x) (a : Nat) : (s.withEvents x).storeAt a = s.storeAt a := rfl
@[simp] theorem State.storeAt_withEventSeq (x) (a : Nat) : (s.withEventSeq x).storeAt a = s.storeAt a := rfl
@[simp] theorem State.storeAt_withInbound (x) (a : Nat) : (s.withInbound x).storeAt a = s.storeAt a := rfl
@[simp] theorem State.storeAt_withAttention (x) (a : Nat) : (s.withAttention x).storeAt a = s.storeAt a := rfl
@[simp] theorem State.storeAt_withAdoption (x) (a : Nat) : (s.withAdoption x).storeAt a = s.storeAt a := rfl
@[simp] theorem State.storeAt_withDrive (x) (a : Nat) : (s.withDrive x).storeAt a = s.storeAt a := rfl
@[simp] theorem State.storeAt_withSequencer (x) (a : Nat) : (s.withSequencer x).storeAt a = s.storeAt a := rfl
@[simp] theorem State.storeAt_withPower (x) (a : Nat) : (s.withPower x).storeAt a = s.storeAt a := rfl
@[simp] theorem State.storeAt_withCadence (x) (a : Nat) : (s.withCadence x).storeAt a = s.storeAt a := rfl
@[simp] theorem State.storeAt_withSmoke (x) (a : Nat) : (s.withSmoke x).storeAt a = s.storeAt a := rfl
@[simp] theorem State.storeAt_withLamps (x) (a : Nat) : (s.withLamps x).storeAt a = s.storeAt a := rfl
@[simp] theorem State.storeAt_withSound (x) (a : Nat) : (s.withSound x).storeAt a = s.storeAt a := rfl
@[simp] theorem State.storeAt_withRadio (x) (a : Nat) : (s.withRadio x).storeAt a = s.storeAt a := rfl
@[simp] theorem State.storeAt_withFunctions (x) (a : Nat) : (s.withFunctions x).storeAt a = s.storeAt a := rfl
@[simp] theorem State.storeAt_withFlash (x) (a : Nat) : (s.withFlash x).storeAt a = s.storeAt a := rfl
@[simp] theorem State.storeAt_withDraws (x) (a : Nat) : (s.withDraws x).storeAt a = s.storeAt a := rfl
@[simp] theorem State.storeAt_withPending (x) (a : Nat) : (s.withPending x).storeAt a = s.storeAt a := rfl
end

theorem State.sameExcept_writeStore (s : State) (a : Nat) (bs : List Byte) :
    s.SameExcept (s.writeStore a bs) [.store] :=
  s.sameExcept_withStore _

/-- A writing of a readings group changes the store alone, and there the group alone (R160). -/
theorem State.sameExcept_writeGroup (s : State) (base offset : Nat) (fields : List Byte) :
    s.SameExcept (s.writeGroup base offset fields) [.store] :=
  State.sameExcept_trans (s.sameExcept_writeStore _ _) (State.sameExcept_writeStore _ _ _)

/-- R160 in the terms of `GroupWritten`. -/
theorem State.groupWritten_writeGroup (s : State) (base : Nat) (fields : List Byte) :
    s.GroupWritten (s.writeGroup base 1 fields) base fields := by
  refine ⟨by simp [State.storeAt_writeGroup], fun i hi => ?_, fun a ha => ?_⟩
  · rw [State.storeAt_writeGroup, if_neg (by omega), if_pos (by omega)]
    congr 1
    omega
  · rw [State.storeAt_writeGroup, if_neg (by omega), if_neg (by omega)]

end Sys2Proof.Machine
end

