-- ==== Sys2Proof/Laws/Operations.lean ====
section
/-! SUPPORT. What each shared operation can do, said once, so that a proof cites it and does not unfold it. -/

namespace Sys2Proof.Machine

/-! ### Conventions -/

/-- clamp as a maximum of a minimum, for a range that is not empty. -/
theorem clampNat_eq (x lo hi : Nat) (h : lo ≤ hi) : clampNat x lo hi = max lo (min hi x) := by
  unfold clampNat
  split
  · omega
  · split <;> omega

theorem clampInt_eq (x lo hi : Int) (h : lo ≤ hi) : clampInt x lo hi = max lo (min hi x) := by
  unfold clampInt
  split
  · omega
  · split <;> omega

/-- Each step of `arrange` puts the elements in some order: none is lost and none comes twice. -/
theorem arrange_perm {α : Type} (xs : List α) (k : Nat) : (arrange xs k).Perm xs := by
  induction xs generalizing k with
  | nil => exact .refl _
  | cons x xs ih =>
    have h := ih (k / (xs.length + 1))
    refine (List.perm_insertIdx x _ ?_).trans (h.cons x)
    have := h.length_eq
    have : k % (xs.length + 1) < xs.length + 1 := Nat.mod_lt k (by omega)
    omega

/-! ### Bytes, least significant first -/

@[simp] theorem le16_value (n : Nat) : u16At (le16 n) 0 = n % 65536 := by
  simp [u16At, u8At, le16]
  omega

@[simp] theorem le24_value (n : Nat) : u16At (le24 n) 0 + 65536 * u8At (le24 n) 2 = n % 16777216 := by
  simp [u16At, u8At, le24, le16]
  omega

@[simp] theorem le32_value (n : Nat) : u32At (le32 n) 0 = n % 4294967296 := by
  simp [u32At, u16At, u8At, le32, le16]
  omega

/-- Bit `i` of a mask is the list's element `i`. -/
theorem testBit_maskOf (bs : List Bool) (i : Nat) : (maskOf bs).testBit i = bs.getD i false := by
  induction bs generalizing i with
  | nil => simp [maskOf]
  | cons b bs ih =>
    have half : (maskOf (b :: bs)) / 2 = maskOf bs := by
      cases b <;> simp [maskOf]
      omega
    cases i with
    | zero => cases b <;> simp [maskOf, Nat.testBit_zero]
    | succ i => rw [Nat.testBit_succ, half, ih]; rfl

/-! ### Vectors and channels -/

@[simp] theorem vecMap_get {α β : Type} {n : Nat} (f : α → β) (v : Vector α n) (i : Fin n) :
    (vecMap f v)[i] = f v[i] := by
  simp [vecMap]

@[simp] theorem vecTab_get {α : Type} (n : Nat) (f : Fin n → α) (i : Fin n) : (vecTab n f)[i] = f i := by
  simp [vecTab]

theorem vecModify_get {α : Type} {n : Nat} (v : Vector α n) (i j : Fin n) (f : α → α) :
    (vecModify v i f)[j] = if j = i then f v[i] else v[j] := by
  by_cases h : j = i
  · subst h
    simp [vecModify]
  · have : i.val ≠ j.val := fun e => h (Fin.ext e.symm)
    simp [vecModify, h, Vector.getElem_set_ne, this]

@[simp] theorem PerChannel.get_map {α β : Type} (f : Channel → α → β) (p : PerChannel α) (c : Channel) :
    (p.map f).get c = f c (p.get c) := by
  cases c <;> rfl

theorem PerChannel.get_set {α : Type} (p : PerChannel α) (c d : Channel) (x : α) :
    (p.set c x).get d = if d = c then x else p.get d := by
  cases c <;> cases d <;> rfl

theorem PerChannel.ext_get {α : Type} {p q : PerChannel α} (h : ∀ c : Channel, p.get c = q.get c) : p = q := by
  cases p
  cases q
  congr
  · exact h .a
  · exact h .b

/-! ### Timers -/

@[simp] theorem State.startTimer_isRunning (s : State) (n : Nat) : (s.startTimer n).isRunning = true := rfl

@[simp] theorem Timer.stopped_isRunning : Timer.stopped.isRunning = false := rfl

theorem State.startUnlessZero_isRunning (s : State) (n : Nat) :
    (s.startUnlessZero n).isRunning = true ↔ n ≠ 0 := by
  unfold State.startUnlessZero
  split <;> simp_all

@[simp] theorem State.hasExpired_stopped (s : State) : s.hasExpired .stopped = false := rfl

@[simp] theorem State.hasExpired_running (s : State) (due : Nat) :
    s.hasExpired (.running due) = decide (due < millis (s.time + 1)) := rfl

/-- A timer started with a millisecond or more does not expire by the interval it had before. -/
theorem State.hasExpired_startTimer (s : State) (n : Nat) (h : millis 1 ≤ n) :
    s.hasExpired (s.startTimer n) = false := by
  have : ¬ millis s.time + n < millis (s.time + 1) := by
    simp only [millis] at *
    omega
  exact decide_eq_false this

/-! ### The SHORT lines at a change of drive state (R43) -/

theorem State.sameExcept_seeShorts (s : State) (c : Option Channel) : s.SameExcept (s.seeShorts c) [.drive] :=
  s.sameExcept_withDrive _

/-- The line whose trip brings the change is shown asserted. -/
theorem State.seeShorts_asserting (s : State) :
    (s.seeShorts (some .a)).drive.shortA = true ∧ (s.seeShorts (some .b)).drive.shortB = true := ⟨rfl, rfl⟩

/-- A line is shown asserted only by its trip, or where it was last seen asserted. -/
theorem State.seeShorts_only (s : State) (c : Option Channel) :
    ((s.seeShorts c).drive.shortA = true → c = some .a ∨ s.drive.shortA = true) ∧
    ((s.seeShorts c).drive.shortB = true → c = some .b ∨ s.drive.shortB = true) := by
  rcases c with - | - | - <;> simp_all [State.seeShorts]

/-! ### The forcing of the drive (R41) -/

@[simp] theorem State.coastForced_forced (s : State) : s.coastForced.drive.forced = true := rfl

@[simp] theorem State.endForce_forced (s : State) : s.endForce.drive.forced = false := rfl

theorem State.sameExcept_coastForced (s : State) : s.SameExcept s.coastForced [.drive] :=
  State.sameExcept_trans (s.sameExcept_withDrive _) (State.sameExcept_withDrive _ _)

theorem State.sameExcept_endForce (s : State) : s.SameExcept s.endForce [.drive] := s.sameExcept_withDrive _

/-- A forced drive applies no duty. -/
theorem State.appliedDuty_forced (s : State) (c : Channel) (h : s.drive.forced = true) : s.appliedDuty c = 0 := by
  simp [State.appliedDuty, State.zeroDuty, h]

/-- The bridges of a forced drive coast; a HALTED one is never forced. -/
theorem State.bridgeMode_forced (s : State) (h : s.drive.forced = true) (hs : s.drive.state ≠ .halted) :
    s.bridgeMode = .coast := by
  simp [State.bridgeMode, h, hs]

/-! ### The hold causes of the smoke unit (R92) -/

/-- A hold cause is in force where the power supervisor's or some slot's is. -/
theorem Smoke.held_iff (u : Smoke) : u.held = true ↔ u.powerHold = true ∨ ∃ k : SlotIx, u.alarmHold[k] = true := by
  simp only [Smoke.held, Bool.or_eq_true, List.any_eq_true, id, exists_eq_right, Vector.mem_toList_iff,
    Vector.mem_iff_getElem]
  exact or_congr .rfl ⟨fun ⟨i, h, e⟩ => ⟨⟨i, h⟩, e⟩, fun ⟨k, e⟩ => ⟨k.val, k.isLt, e⟩⟩

theorem State.sameExcept_writeSmokeReadings (s : State) : s.SameExcept s.writeSmokeReadings [.store] :=
  State.sameExcept_trans (s.sameExcept_writeGroup _ _ _) (State.sameExcept_writeGroup _ _ _ _)

/-- Once the record is set, a change of smoke state touches the unit and its readings alone. -/
theorem State.sameExcept_smokeMoved (s : State) (old : SmokeState) : s.SameExcept (s.smokeMoved old) [.smoke, .store] := by
  have h : s.SameExcept s.rereadFan [.smoke, .store] := State.sameExcept_mono (s.sameExcept_withSmoke _) (by simp)
  simp only [State.smokeMoved]
  split
  · exact h
  · exact State.sameExcept_trans h (State.sameExcept_mono (State.sameExcept_writeSmokeReadings _) (by simp))

/-- A change of the hold causes touches the smoke unit and its readings alone. -/
theorem State.sameExcept_setHolds (s : State) (power : Bool) (alarms : Vector Bool 12) :
    s.SameExcept (s.setHolds power alarms) [.smoke, .store] := by
  have m (t : State) (u : Smoke) : t.SameExcept (t.withSmoke u) [.smoke, .store] :=
    State.sameExcept_mono (t.sameExcept_withSmoke u) (by simp)
  refine State.sameExcept_trans (m s { s.smoke with powerHold := power, alarmHold := alarms })
    (State.sameExcept_trans ?_ (State.sameExcept_smokeMoved _ s.smoke.state))
  repeat' split
  all_goals first | exact State.sameExcept_refl _ _ | exact m _ _

/-! ### A READ that goes on (R157) -/

theorem State.sameExcept_readOn (s : State) (n : Nat) : s.SameExcept (s.readOn n) [.port] := s.sameExcept_withPort _

@[simp] theorem State.readOn_zero (s : State) : s.readOn 0 = s := by
  simp only [State.readOn, BitVec.add_zero]
  rfl

/-- Reading on by `m` bytes and then by `n` is reading on by both. -/
theorem State.readOn_readOn (s : State) (m n : Nat) : (s.readOn m).readOn n = s.readOn (m + n) := by
  simp only [State.readOn, BitVec.ofNat_add, ← BitVec.add_assoc]
  rfl

/-! ### Attention (R170, R171) -/

@[simp] theorem State.evaluateAttn_pending (s : State) : s.evaluateAttn.attention.pending = s.attention.pending := rfl

/-- After an evaluation ATTN has the level its sources and the configuration give. -/
theorem State.evaluateAttn_exact (s : State) : s.evaluateAttn.AttnExact := rfl

theorem State.sameExcept_evaluateAttn (s : State) : s.SameExcept s.evaluateAttn [.attention] :=
  s.sameExcept_withAttention _

@[simp] theorem State.setPending_pending (s : State) (n : Fin 12) (b : Bool) :
    (s.setPending n b).attention.pending = s.attention.pending.set n b := rfl

theorem State.setPending_exact (s : State) (n : Fin 12) (b : Bool) : (s.setPending n b).AttnExact := rfl

theorem State.sameExcept_setPending (s : State) (n : Fin 12) (b : Bool) :
    s.SameExcept (s.setPending n b) [.attention] :=
  State.sameExcept_trans (s.sameExcept_withAttention _) (State.sameExcept_evaluateAttn _)

/-- A raise changes the attention unit alone. -/
theorem State.sameExcept_raise (s : State) (a : AttnSource) : s.SameExcept (s.raise a) [.attention] := by
  unfold State.raise
  split
  · exact s.sameExcept_setPending _ _
  · exact s.sameExcept_refl _

/-- A raise keeps ATTN at its level. -/
theorem State.raise_exact (s : State) (a : AttnSource) (h : s.AttnExact) : (s.raise a).AttnExact := by
  unfold State.raise
  split
  · exact s.setPending_exact _ _
  · exact h

theorem State.sameExcept_takeAttn (s : State) (v : Byte) : s.SameExcept (s.takeAttn v) [.attention] := by
  unfold State.takeAttn
  split
  · exact s.sameExcept_setPending _ _
  · exact s.sameExcept_refl _

/-! ### Events (R172) -/

/-- What a raised event can do: nothing outside the active part states; a repeat; a fill; or a drop. -/
theorem State.event_cases (s : State) (k : EventKind) (subject : Byte) (detail : Half) :
    (s.part.active = false ∧ s.event k subject detail = s) ∨
    (∃ i, s.part.active = true ∧ s.findRepeat k subject = some i ∧ s.event k subject detail =
      (s.withEvents (s.events.set i (s.repeatedRecord s.events[i] detail))).raise .event) ∨
    (∃ i, s.part.active = true ∧ s.findRepeat k subject = none ∧ s.eventRoom k = some i ∧
      s.event k subject detail =
        ((s.withEvents (s.events.set i (s.filledRecord k subject detail))).withEventSeq s.nextEventSeq).raise
          .event) ∨
    (s.part.active = true ∧ s.findRepeat k subject = none ∧ s.eventRoom k = none ∧
      s.event k subject detail = s.raise .listFull) := by
  unfold State.event
  cases h : s.part.active
  · exact .inl ⟨rfl, rfl⟩
  · cases f : s.findRepeat k subject with
    | some i => exact .inr (.inl ⟨i, rfl, rfl, rfl⟩)
    | none =>
      cases r : s.eventRoom k with
      | some i => exact .inr (.inr (.inl ⟨i, rfl, rfl, rfl, rfl⟩))
      | none => exact .inr (.inr (.inr ⟨rfl, rfl, rfl, rfl⟩))

/-- An event changes the event list, its counter and the attention unit alone. -/
theorem State.sameExcept_event (s : State) (k : EventKind) (subject : Byte) (detail : Half) :
    s.SameExcept (s.event k subject detail) [.events, .eventSeq, .attention] := by
  rcases s.event_cases k subject detail with ⟨-, h⟩ | ⟨i, -, -, h⟩ | ⟨i, -, -, -, h⟩ | ⟨-, -, -, h⟩ <;> rw [h]
  · exact s.sameExcept_refl _
  · exact State.sameExcept_trans (State.sameExcept_mono (s.sameExcept_withEvents _) (by simp))
      (State.sameExcept_mono (State.sameExcept_raise _ _) (by simp))
  · exact State.sameExcept_trans (State.sameExcept_mono (s.sameExcept_withEvents _) (by simp))
      (State.sameExcept_trans (State.sameExcept_mono (State.sameExcept_withEventSeq _ _) (by simp))
        (State.sameExcept_mono (State.sameExcept_raise _ _) (by simp)))
  · exact State.sameExcept_mono (s.sameExcept_raise _) (by simp)

/-- An event keeps ATTN at its level. -/
theorem State.event_exact (s : State) (k : EventKind) (subject : Byte) (detail : Half) (h : s.AttnExact) :
    (s.event k subject detail).AttnExact := by
  rcases s.event_cases k subject detail with ⟨-, e⟩ | ⟨i, -, -, e⟩ | ⟨i, -, -, -, e⟩ | ⟨-, -, -, e⟩ <;> rw [e]
  · exact h
  · exact State.raise_exact _ _ h
  · exact State.raise_exact _ _ h
  · exact State.raise_exact _ _ h

/-! ### Requests and the end of a quiesce (R166, R167) -/

/-- What a COMMAND row can do: nothing without its request; the request taken; or refused. -/
theorem State.takeCommand_cases (s : State) (code : Nat → Bool) (taken : PartState → Bool) (act : State → State) :
    (code s.command.toNat = false ∧ s.takeCommand code taken act = s) ∨
    (code s.command.toNat = true ∧ taken s.part = true ∧
      s.takeCommand code taken act = act ((s.withCommandResult .accepted).withCommand 0#8)) ∨
    (code s.command.toNat = true ∧ taken s.part = false ∧
      s.takeCommand code taken act = (s.withCommandResult .refused).withCommand 0#8) := by
  unfold State.takeCommand
  cases code s.command.toNat <;> cases taken s.part <;> simp

/-- What a settling of the quiesce can do: nothing outside QUIESCING; the acknowledgements brought up to date; or,
with the last of them, the end of the quiesce. -/
theorem State.settleQuiesce_cases (s : State) :
    (s.part ≠ .quiescing ∧ s.settleQuiesce = s) ∨
    (s.part = .quiescing ∧ s.acksNow.all = false ∧ s.settleQuiesce = s.withAcks s.acksNow) ∨
    (s.part = .quiescing ∧ s.acksNow.all = true ∧ s.settleQuiesce = (s.withAcks s.acksNow).endQuiesce) := by
  unfold State.settleQuiesce
  by_cases h : s.part = .quiescing
  · cases ha : s.acksNow.all <;> simp [h, ha]
  · simp [h]

/-- A quiesce that is not finished goes on: only the acknowledgements change. -/
theorem State.settleQuiesce_open (s : State) (h : s.QuiesceUnfinished) :
    s.SameExcept s.settleQuiesce [.acks] ∧ (s.part ≠ .quiescing → s.settleQuiesce = s) := by
  rcases s.settleQuiesce_cases with ⟨hp, e⟩ | ⟨hp, -, e⟩ | ⟨hp, ha, -⟩
  · exact ⟨by rw [e]; exact s.sameExcept_refl _, fun _ => e⟩
  · exact ⟨by rw [e]; exact s.sameExcept_withAcks _, fun hn => absurd hp hn⟩
  · simp [h hp] at ha

theorem State.endQuiesce_cases (s : State) :
    (s.resetMark = true ∧ s.endQuiesce = s.softReset) ∨ (s.resetMark = false ∧ s.endQuiesce = s.enterQuiet) := by
  unfold State.endQuiesce
  cases s.resetMark <;> simp

/-! ### The end of a visit (R163, R164) -/

/-- What an ADOPT row can do: nothing without a visit to its section; the adopted byte written after a verdict that
stands; a torn copy discarded; the copy handed over and the verdict written, and the adopted byte too unless the row
waits once more. -/
theorem State.finishVisit_cases {α : Type} (s : State) (k : Fin 15) (read : List Byte → α × List Finding)
    (take : State → α → State) :
    ((∀ v, s.adoption.visit = some v → v.section_ ≠ k) ∧ s.finishVisit k read take = s) ∨
    ∃ v, s.adoption.visit = some v ∧ v.section_ = k ∧
      ((∃ d, v.verdict = some d ∧ s.finishVisit k read take = s.writeAdopted v d) ∨
        (v.verdict = none ∧ s.isTorn v = true ∧ s.finishVisit k read take = s.endVisit) ∨
        (v.verdict = none ∧ s.isTorn v = false ∧
          ∃ t d x, verdictOf (read (s.copiedBody v)).2 = d ∧ (read (s.copiedBody v)).1 = x ∧
            t = (s.handOver d x take).writeVerdict v d ∧
            s.finishVisit k read take = if t.pausesVisit k then t.settleQuiesce else t.writeAdopted v d)) := by
  unfold State.finishVisit
  cases hv : s.adoption.visit with
  | none => exact .inl ⟨by simp, rfl⟩
  | some v =>
    by_cases hk : v.section_ = k
    · refine .inr ⟨v, rfl, hk, ?_⟩
      cases hd : v.verdict with
      | some d => exact .inl ⟨d, rfl, by simp [hk, hd]⟩
      | none =>
        cases ht : s.isTorn v with
        | true => exact .inr (.inl ⟨rfl, rfl, by simp [hk, hd, ht]⟩)
        | false => exact .inr (.inr ⟨rfl, rfl, _, _, _, rfl, rfl, rfl, by simp [hk, hd, ht]⟩)
    · exact .inl ⟨by rintro w ⟨⟩; exact hk, by simp [hk]⟩

/-- The verdict is written beside the old adopted byte: the store and the unit's record of the visit change alone. -/
theorem State.sameExcept_writeVerdict (s : State) (v : Visit) (d : Verdict) :
    s.SameExcept (s.writeVerdict v d) [.store, .adoption] :=
  State.sameExcept_trans (State.sameExcept_mono (s.sameExcept_writeStore _ _) (by simp))
    (State.sameExcept_mono (State.sameExcept_withAdoption _ _) (by simp))

@[simp] theorem State.writeVerdict_adoption (s : State) (v : Visit) (d : Verdict) :
    (s.writeVerdict v d).adoption = { s.adoption with visit := some { v with verdict := some d } } := rfl

/-- The section of a row of the adoption unit is the one whose visit it ends. -/
@[simp] theorem endedSection_adoptCommand (order : Nat) (k : Fin 15) :
    endedSection (adoptCommand order k) = some k := by
  fin_cases k <;> rfl

/-! ### Validation (R164) -/

/-- A refusal is met where some field is refused. -/
theorem firstRefusal_eq_none (fs : List Finding) :
    firstRefusal fs = none ↔ ∀ f ∈ fs, f ≠ .unknownCode ∧ f ≠ .badPartner := by
  induction fs with
  | nil => simp [firstRefusal]
  | cons f fs ih => cases f <;> simp [firstRefusal, ih]

/-- A numeric field finds what its range says (R164, R177). -/
theorem numField_finding (v lo hi : Nat) : (numField v lo hi).2 = (FieldRule.number v lo hi).finding := by
  simp [numField, FieldRule.finding]

theorem intField_finding (v lo hi : Int) : (intField v lo hi).2 = (FieldRule.number v lo hi).finding := rfl

/-- A switch finds whether its code is 0 or 1. -/
theorem switchField_finding (v : Nat) : (switchField v).2 = (FieldRule.code v 2).finding := by
  rcases v with - | - | v
  · rfl
  · rfl
  · simp [switchField, switchOfCode, codeField, FieldRule.finding]

/-- A lamp's run refuses the section exactly where its code is unlisted and the mode is not ONE_SHOT. -/
theorem lampRunField_finding (mode : Option LampMode) (code : Nat) : (lampRunField mode code).2 =
    if mode = some .oneShot then .fine else (FieldRule.code code 2).finding := by
  rcases code with - | - | code
  · simp [lampRunField, LampRun.ofCode, FieldRule.finding]
  · simp [lampRunField, LampRun.ofCode, FieldRule.finding]
  · by_cases h : mode = some .oneShot <;> simp [lampRunField, LampRun.ofCode, FieldRule.finding, h]

end Sys2Proof.Machine
end

