-- ==== Sys2Proof/Tests/Slice0.lean ====
section
/-! SUPPORT. Tests: the ranges of the operands, the manual's worked examples, and, for each statement with
hypotheses, a state that meets them. Expected values come from the manual, unless a test's docstring names another
source. -/

namespace Sys2Proof.Tests

-- One proof at a time: proofs that wait for one another would each hold a thread.
set_option Elab.async false

open Sys2Proof Sys2Proof.Machine

/-! ### Helpers -/

/-- A machine in RUN, everything else as after reset. -/
def inRun : State := { State.reset with part := .run }

/-- A machine in QUIESCING that waits for a conversion. -/
def inQuiescing : State := { State.reset with part := .quiescing }

/-- The state a command leads to. -/
def after (c : Instr) (s : State) : State :=
  match exec c s with
  | .next t => t
  | _ => s

/-- `inRun` with a drive. -/
def driving (d : Drive) : State := { inRun with drive := d }

/-- `inRun` with a smoke unit. -/
def smoking (u : Smoke) : State := { inRun with smoke := u }

/-- `inRun` with a sound engine. -/
def sounding (e : Sound) : State := { inRun with sound := e }

/-- `inRun` with a receiver. -/
def receiving (r : Radio) : State := { inRun with radio := r }

/-- `inRun` with a sequencer. -/
def measuring (q : Sequencer) : State := { inRun with sequencer := q }

/-- `inRun` with the port inside a WRITE at an address. -/
def writingAt (a : BitVec 13) : State := { inRun with port := ⟨.writing, a, none, none⟩ }

/-- A frame with its CRC. -/
def frame (body : List Byte) : Frame :=
  let len := BitVec.ofNat 8 body.length
  let c := (crc16 (len :: body)).toNat
  ⟨len, body, [BitVec.ofNat 8 (c / 256), BitVec.ofNat 8 c]⟩

/-- A receiver in which a frame to the primary address 3 from sender 17 waits, with a profile. -/
def heard (p : RadioProfile) (command : Byte) (payload : List Byte) : State :=
  receiving { Radio.reset with
    profile := p, completed := some (frame ([0#8, 3#8, 17#8, 42#8, command] ++ payload)) }

/-- A slot's record ASSERTED at a side. -/
def assertedAt (side : Side) : Slot := { Slot.reset with alarm := .asserted, side := side, counter := 1 }

/-- A sequencer whose slot `k` is ASSERTED at a side. -/
def alarmed (k : SlotIx) (side : Side) : Sequencer :=
  { Sequencer.reset with slots := Sequencer.reset.slots.set k (assertedAt side) }

/-- A state in which the visit to section `k` has copied the whole body, revision 1, and is not yet answered. -/
def visiting (s : State) (k : Fin 15) (body : List Byte) : State :=
  { s with
    store := Memory.write 0#8 s.store (sectionBase k) [1#8]
    adoption := { s.adoption with visit := some ⟨k, 1#8, body, none⟩ } }

/-- A bank READY with the cues and clips given. -/
def bank (cues : List CueRecord) (clips : List ClipRecord) : Sound :=
  { Sound.reset with bank := .ready, cues := cues, clips := clips }

/-- A voice that plays clip `clip` of cue `cue`. -/
def playing (state : VoiceState) (cue : Nat) (part : Part) (clip position gain : Nat) : Voice :=
  ⟨state, cue, part, clip, position, gain, 320, false⟩

/-- A record of the event list, FILLED. -/
def filled (kind : EventKind) (subject : Byte) (seq : Half) : EventRecord :=
  ⟨true, some kind, subject, 1, seq, 0#16, 0#32, 0#32⟩

/-! ### The ranges of the operands -/

theorem test_wf_unknown_instruction : (Instr.hostUnknownInstruction 0x2C#8).WellFormed = false ∧
    (Instr.hostUnknownInstruction 0x2D#8).WellFormed = false := by decide
theorem test_wf_address_complete : (Instr.hostAddressComplete 0x33#8 0#16).WellFormed = false ∧
    (Instr.hostAddressComplete 0x2D#8 0#16).WellFormed = true := by decide
theorem test_wf_deadline : (Instr.quiesceDeadlineExpiry (24 * handOffOrders)).WellFormed = false := by decide
theorem test_wf_power_profile : (Instr.adoptPowerProfile 24).WellFormed = false := by decide
theorem test_wf_trip : (Instr.trip .a 2).WellFormed = false := by decide
theorem test_wf_scan : (Instr.scanTimerExpiry handOffOrders).WellFormed = false := by decide
theorem test_wf_deferred_pass : (Instr.deferredPassStart handOffOrders).WellFormed = false := by decide
theorem test_wf_conversion :
    (Instr.adcConversionComplete 0#12 (handOffOrders * handOffOrders)).WellFormed = false := by decide
theorem test_wf_outage : (Instr.outageTick 24).WellFormed = false := by decide
theorem test_wf_cam_edge : (Instr.camEdge 100).WellFormed = false ∧ (Instr.camEdge 99).WellFormed = true := by decide
theorem test_wf_radio : (Instr.radioSpeed 2).WellFormed = false ∧ (Instr.radioHalt 2).WellFormed = false ∧
    (Instr.radioFunction 2).WellFormed = false ∧ (Instr.radioFunctionGroup 2).WellFormed = false ∧
    (Instr.radioCue 2).WellFormed = false := by decide

/-- The opcode table gives no bits, so no word spells a command. -/
theorem test_no_word_decodes : decodeTableWord 8 0 = none ∧ inRun.withFetchWord 8 0 = inRun := by decide +kernel

/-! ### Chapters 1 and 2: the drive -/

/-- The falling table of chapter 1. -/
def fallingTable : SpeedTable := (SpeedTable.default.set 3 300).set 4 270

/-- The table of chapter 1 with points 8 and 9 at 400 and 440. -/
def exampleTable : SpeedTable := (SpeedTable.default.set 8 400).set 9 440

/-- Worked example of chapter 1, step conversions. -/
theorem test_step_conversions : stepToDu .default 67 = 569 ∧ stepToDu .default 120 = 1020 ∧
    stepToDu exampleTable 67 = 415 ∧ stepToDu fallingTable 27 = 289 := by decide +kernel

/-- Worked example of chapter 1, ramp steps: RUNNING at R = 6400 toward T = 6640. -/
def climbing (mode : Momentum) : State := driving { Drive.reset with
  state := .running, ramp := 6400, target := ⟨415, .fwd, .radio⟩, stepDir := .up, rampTimer := .running 20000
  profile := { DriveProfile.default with momentum := mode, accelStep := 48, accelInterval := 20 } }

theorem test_ramp_step_linear : (after .rampStep (climbing .linear)).drive.ramp = 6448 := by decide +kernel

theorem test_ramp_step_eased : (after .rampStep (climbing .eased)).drive.ramp = 6411 := by decide +kernel

/-- Worked example of chapter 1, the duty of one channel: the window waits for its last reading, which the conversion of
the next test delivers. -/
def windowOpen : State := driving { Drive.reset with
  state := .running, ramp := 6640, target := ⟨415, .fwd, .radio⟩, window := .sampling, windowId := 3
  limitTimer := .running 1000
  channels := ⟨{ ChannelState.reset with command := 368, integral := 200, requested := true }, .reset⟩
  profile := { DriveProfile.default with
    trim := ⟨⟨96, 5, true⟩, ⟨128, 0, false⟩⟩, kp := 24, ki := 8, integralLimit := 512, emfScale := 60
    emfPeriod := 10 } }

theorem test_duty_of_one_channel :
    let c := (after (.adcConversionComplete 1500#12 0) { windowOpen with
      sequencer := { Sequencer.reset with inFlight := some ⟨5, some 3⟩ } }).drive.channels.a
    c.lastEmf = 351 ∧ c.integral = 217 ∧ c.correction = 31 ∧ c.duty = 399 := by decide +kernel

/-- R17: a window open when Pe = 0 was adopted leaves the integral at 0, though Pe is above 0 again at its end. -/
theorem test_muted_window :
    let p := windowOpen.drive.profile
    let c := ((((windowOpen.takeDriveProfile { p with emfPeriod := 0 }).takeDriveProfile p).deliverEmf
      .a 3 1500).drive.channels.a)
    c.lastEmf = 351 ∧ c.integral = 0 ∧ c.correction = 0 := by decide +kernel

/-- Worked example of chapter 2, a reversal: HALT at R = 224 keeps the target's direction and the direction in force. -/
def reversingState : State := { driving { Drive.reset with
  state := .reversing, ramp := 224, target := ⟨68, .rev, .radio⟩, stepDir := .down
  rampTimer := .running 210000 } with command := 1#8 }

theorem test_command_halt : let d := (after .commandHalt reversingState).drive
    d.state = .halted ∧ d.ramp = 0 ∧ d.target = ⟨0, .rev, .radio⟩ ∧ d.direction = .fwd ∧ d.haltSource = .host := by
  decide +kernel

theorem test_halted_refuses_a_speed : let s := after .commandHalt reversingState
    (s.writeTarget 68 .rev .radio).drive.target = ⟨0, .rev, .radio⟩ ∧
      (s.writeTarget 0 .rev .radio).drive.direction = .rev := by decide +kernel

/-- Worked example of chapter 2, two trips: RUNNING at R = 800 with a trip count. -/
def shorted (count : Nat) : State := driving { Drive.reset with
  state := .running, ramp := 800, target := ⟨50, .fwd, .host⟩, tripCount := count
  profile := { DriveProfile.default with retryLimit := 1 } }

theorem test_first_trip : let t := after (.trip .a 0) (shorted 0)
    t.drive.state = .tripped ∧ t.drive.retryTimer = .running 500000 ∧
      t.events[(0 : Fin 24)] = { filled .trip 0#8 1#16 with detail := 1#16 } := by decide +kernel

theorem test_second_trip_locks : let t := after (.trip .b 0) (shorted 1)
    t.drive.state = .locked ∧ t.events[(0 : Fin 24)] = { filled .trip 1#8 1#16 with detail := 2#16 } ∧
      t.events[(1 : Fin 24)] = { filled .lockout 1#8 2#16 with detail := 2#16 } := by decide +kernel

/-! ### Chapters 3 and 4: measurement and power -/

/-- Worked example of chapter 3, the alarm of AUX0: the ten values. -/
def aux0 : SlotProfile :=
  { SlotProfile.withLimits 1000 3000 with faultCount := 2, hysteresis := 100, driveLow := .ease, driveHigh := .brake }

theorem test_alarm_over_ten_passes :
    ([2900, 3050, 2990, 3100, 950, 3200, 3300, 900, 1050, 1200].foldl
      (fun (x, seen) v => let y := x.evaluate aux0 v; (y, seen ++ [(y.counter, y.alarm, y.side)]))
      (Slot.reset, [])).2 =
    [(0, .clear, .none), (1, .counting, .high), (0, .clear, .none), (1, .counting, .high), (2, .counting, .low),
      (3, .asserted, .high), (4, .asserted, .high), (5, .asserted, .low), (0, .asserted, .low),
      (0, .clear, .none)] := by decide +kernel

/-- Worked example of chapter 4, the track gap: TRACK has become ASSERTED LOW. -/
def trackGap : State := { measuring (alarmed slotTrack .low) with
  power := { Power.reset with profile := ⟨15, 300, 128, 160, 2000⟩ } }

theorem test_track_gap_bridges : let t := trackGap.powerContributions 0
    t.power.state = .bridging ∧ t.power.bridge = 150 ∧ t.power.outageCount = 1#16 ∧ t.lamps.factor = 160 ∧
      t.events[(0 : Fin 24)] = { filled .powerBridging 0#8 1#16 with detail := 15#16 } := by decide +kernel

theorem test_last_outage_tick_spends : let s := { trackGap with power := { trackGap.power with
      state := .bridging, trackLost := true, bridge := 1, outage := 149, outageTimer := .running 0 } }
    let t := after (.outageTick 0) s
    t.power.state = .spent ∧ t.power.outage = 150 ∧
      t.events[(0 : Fin 24)] = { filled .powerSpent 1#8 1#16 with detail := 150#16 } := by decide +kernel

/-! ### Chapters 5 to 7: cadence, smoke, lamps -/

/-- Worked example of chapter 5: the edge of 2750 ms, 250 ms after the first. -/
def rolling (time : Nat) (last : Nat) : State := { inRun with
  time := time
  cadence := { Cadence.reset with
    cam := .live, lastEdge := some last, source := .cam, chuffs := 47#16, odometer := 10001#32, heldV := 100 } }

theorem test_cam_edge : let t := after (.camEdge 0) (rolling 2750 250000)
    t.cadence.period = 25000 ∧ t.cadence.speed = 60 ∧ t.cadence.chuffs = 48#16 ∧ t.cadence.odometer = 10002#32 := by
  decide +kernel

theorem test_cam_bounce : let t := after (.camEdge 0) (rolling 3002 300000)
    t.cadence.rejected = 1#16 ∧ t.cadence.chuffs = 47#16 := by decide +kernel

/-- R81: an edge taken first restarts the wheel-stopped timer, which then does not expire. -/
theorem test_edge_before_expiry :
    (after .wheelStoppedExpiry (after (.camEdge 0) (rolling 2750 250000))).cadence.cam = .live := by decide +kernel

/-- R85: an expiry moved to a later millisecond is not taken. -/
theorem test_moved_chuff : (after .syntheticChuffExpiry { inRun with
    cadence := { Cadence.reset with interval := some 512, chuffTimer := .running 1000 } }).cadence.chuffs = 0#16 := by
  decide +kernel

/-- Worked example of chapter 6: a HEAT value of 1560 is converted. -/
def heating (state : SmokeState) (capacity budget heater : Nat) : State :=
  { smoking { Smoke.reset with
      profile := { SmokeProfile.default with capacity := capacity }, state := state, enabled := true
      budget := budget, heater := heater, budgetTimer := .running 0, staleTimer := .running 0 } with
    sequencer := { Sequencer.reset with
      profile := { MeasureProfile.default with correction := false }, inFlight := some ⟨slotHeat, none⟩
      pass := some [] } }

theorem test_heat_value : let t := after (.adcConversionComplete 1560#12 0) (heating .warming 0 0 0)
    t.smoke.temperature = 152 ∧ t.smoke.heater = 192 ∧ t.smoke.state = .warming := by decide +kernel

theorem test_fluid_low : let t := after .budgetTick (heating .ready 1000 32000 200)
    t.smoke.budget = 31800 ∧
      t.events[(0 : Fin 24)] = { filled .fluidLow 0#8 1#16 with detail := 124#16 } := by decide +kernel

/-- Worked example of chapter 7: lamp 4 FLICKERs at 160, and lamp 5 is a BEACON with A = B = 4, one tick before its PHASE_B. -/
def lit : State := { inRun with
  drive := { Drive.reset with state := .running }
  lamps := { Lamps.reset with
    standing := false, tickTimer := .running 0
    profile := (LampProfile.default.set 4 ⟨.flicker, 160, .any, 255, 50, 50, .continuous, 0⟩).set 5
      ⟨.beacon, 100, .any, 255, 4, 4, .single, 0⟩
    lamps := (Lamps.reset.lamps.set 4 { Lamp.reset with active := true }).set 5
      { Lamp.reset with active := true, count := 3 } } }

theorem test_first_flicker_level : let t := after .effectTick lit
    t.lamps.lfsr = 0x5670#16 ∧ t.lamps.lamps[(4 : Fin 8)].level = 150 := by decide +kernel

theorem test_beacon_peak : (after .effectTick lit).lamps.lamps[(5 : Fin 8)].level = 100 := by decide +kernel

/-- R110: lamps 0 and 1 are a pair, and the owner's activation edge takes it out of PHASE_B: the follower goes dark at
once. -/
theorem test_follower_with_its_owner :
    let u := { lit.lamps with
      profile := (LampProfile.default.set 0 ⟨.alternate, 90, .any, 255, 50, 50, .continuous, 1⟩).set 1
        ⟨.alternate, 100, .any, 255, 50, 50, .continuous, 0⟩
      directive := (LampDirective.default.set 0 .forceOn).set 1 .forceOn
      lamps := (Lamps.reset.lamps.set 0 { Lamp.reset with phase := .b }).set 1
        { Lamp.reset with active := true, level := 100 } }
    let t := ({ lit with lamps := u } : State).workOutActivity
    t.lamps.lamps[(0 : Fin 8)].level = 90 ∧ t.lamps.lamps[(1 : Fin 8)].level = 0 := by decide +kernel

/-! ### Chapter 8: sound -/

/-- Worked example of chapter 8, chuff gain under load. -/
theorem test_chuff_gain : chuffGain 160 true 368 399 = 198 ∧ chuffGain 160 true 368 348 = 135 ∧
    chuffGain 160 true 368 300 = 80 ∧ chuffGain 160 true 0 0 = 160 := by decide +kernel

/-- The cues of chapter 8's arbiter example, with their priorities and kinds. -/
def arbiterCues : List CueRecord := (List.range 42).map fun i =>
  ⟨1, 0, 0, ([(5, 1), (12, 6), (20, 3), (8, 6), (30, 4), (14, 5), (40, 2), (41, 6)].lookup (i + 1)).getD 0, 200,
    if i + 1 = 20 then 2 else if i + 1 = 5 ∨ i + 1 = 30 then 1 else 0⟩

/-- Worked example of chapter 8: six busy voices, started in the order 0, 3, 1, 4, 5, 2. -/
def sixBusy : State := sounding { bank arbiterCues [⟨1000, 100⟩, ⟨1100, 100⟩, ⟨1200, 100⟩, ⟨1300, 100⟩] with
  voices := ⟨#[playing .looping 5 .loop 1 0 200, playing .leading 12 .start 1 0 200,
    playing .leading 20 .start 1 0 200, playing .looping 8 .loop 1 0 200, playing .looping 30 .loop 1 0 200,
    playing .tailing 14 .tail 1 0 200], rfl⟩
  order := [0, 3, 1, 4, 5, 2], ampEnabled := true }

theorem test_arbiter_steals : let t := (sixBusy.startCue 40 none .slot).1
    t.sound.voices[(3 : Fin 6)].cue = 40 ∧ t.sound.order = [0, 1, 4, 5, 2, 3] ∧ t.sound.steals = 1#16 := by
  decide +kernel

theorem test_arbiter_refuses : (sixBusy.startCue 41 none .radio).2 = .noVoice ∧
    (sixBusy.startCue 41 none .radio).1.sound.order = [0, 3, 1, 4, 5, 2] := by decide +kernel

/-- Worked example of chapter 8, two voices through the mixer: samples 100 and -50 at gains 200 and 255, M = 192. -/
def mixing : State := { sounding { bank [⟨1, 1, 0, 0, 200, 0⟩, ⟨2, 2, 0, 0, 255, 0⟩] [⟨1000, 100⟩, ⟨1100, 100⟩] with
  volume := 192, order := [0, 3], ampEnabled := true
  voices := (Sound.reset.voices.set 0 (playing .looping 1 .loop 1 7 200)).set 3 (playing .leading 2 .start 2 7 255) } with
  flash := [(1007, 100#8), (1107, 206#8)] }

theorem test_output_sample : let t := after .outputSample mixing
    t.sound.output = 5437 ∧ t.sound.voices[(0 : Fin 6)].position = 8 := by decide +kernel

/-- R130: 5437 is 0001 0101 0011 1101, sent first while LRCK is low. -/
theorem test_link_frame : (after .outputSample mixing).linkFrame.take 16 =
    [false, false, false, true, false, true, false, true, false, false, true, true, true, true, false, true].map
      fun b => ⟨false, b⟩ := by decide +kernel

/-- The check value of the CRC-32 with this generator, preset, bit order and inversion, over the digits 1 to 9
(general knowledge). -/
theorem test_crc32 : crc32 [0x31#8, 0x32#8, 0x33#8, 0x34#8, 0x35#8, 0x36#8, 0x37#8, 0x38#8, 0x39#8] = 0xCBF43926#32 := by
  decide +kernel

/-! ### Chapter 9: radio -/

/-- The check value of the CRC-16 with generator 0x8005, preset to ones, not reflected, over the digits 1 to 9
(general knowledge). -/
theorem test_crc16 : crc16 [0x31#8, 0x32#8, 0x33#8, 0x34#8, 0x35#8, 0x36#8, 0x37#8, 0x38#8, 0x39#8] = 0xAEE7#16 := by
  decide +kernel

/-- Worked example of chapter 9, the frame of 2000 ms: SPEED step 40 FWD. -/
theorem test_radio_speed : let t := after (.radioSpeed 0) (heard .default 0x10#8 [40#8, 0#8])
    t.drive.target = ⟨340, .fwd, .radio⟩ ∧ t.drive.state = .running ∧ t.radio.framesGood = 1#16 := by decide +kernel

/-- Worked example of chapter 9, the frame of 2040 ms: HALT by broadcast. -/
theorem test_radio_broadcast_halt :
    let t := after (.radioHalt 0) (receiving { Radio.reset with completed := some (frame [0#8, 0#8, 9#8, 8#8, 0x11#8]) })
    t.drive.state = .halted ∧ t.drive.haltSource = .radio := by decide +kernel

/-! ### Chapters 10 and 11: the store, the part states, the event list -/

/-- Worked example of chapter 10: a SMOKE_PROFILE with Kh = 80 is CLAMPED at field 2. -/
theorem test_adoption_clamps :
    let t := after .adoptSmokeProfile (visiting inRun 5 [200#8, 0#8, 80#8, 200#8, 60#8, 40#8, 48#8, 255#8, 60#8, 30#8,
      30#8, 0#8, 0#8])
    t.smoke.profile.gain = 64 ∧ t.storeByte 0x0231 = 1#8 ∧ t.storeByte 0x0232 = 2#8 ∧ t.storeByte 0x0233 = 2#8 := by
  decide +kernel

/-- Worked example of chapter 10: an ALTERNATE lamp 3 with partner 3 is REFUSED with code 2. -/
def badPartnerBody : List Byte := List.replicate 24 0#8 ++ [2#8, 0#8, 0#8, 0#8, 1#8, 1#8, 0#8, 3#8] ++
  List.replicate 32 0#8

theorem test_adoption_refuses : let t := after .adoptLampProfile (visiting inRun 6 badPartnerBody)
    t.storeByte 0x0252 = 3#8 ∧ t.storeByte 0x0253 = 2#8 ∧ t.lamps = inRun.lamps := by decide +kernel

/-- R164: of two takings of the queued row the first leaves the new verdict beside the old adopted byte, the second writes
the adopted byte. Section 14 holds revision 1, adopted byte 0 and a body of zeros. -/
theorem test_adoption_stops_at_the_verdict :
    let s := { visiting inRun 14 [] with pending := [.adoptFunctionDirective, .adoptFunctionDirective] }
    let twice (s : State) : State × State := match step s with
      | .next t => (t, match step t with | .next u => u | _ => t)
      | _ => (s, s)
    let (t, u) := twice s
    t.storeByte 0x0482 = 1#8 ∧ t.storeByte 0x0481 = 0#8 ∧ t.adoption.adopted[(14 : Fin 15)] = false ∧
      u.storeByte 0x0482 = 1#8 ∧ u.storeByte 0x0481 = 1#8 ∧ u.adoption.adopted[(14 : Fin 15)] = true ∧
      u.adoption.visit = none := by decide +kernel

/-- R109, R177: an unknown run code is not checked for a ONE_SHOT lamp, and refuses a BEACON. -/
theorem test_run_of_one_shot :
    (sectionFindings 6 ([4#8, 0#8, 0#8, 0#8, 1#8, 1#8, 7#8] ++ List.replicate 57 1#8))[6]? = some .fine ∧
    (sectionFindings 6 ([3#8, 0#8, 0#8, 0#8, 1#8, 1#8, 7#8] ++ List.replicate 57 1#8))[6]? = some .unknownCode := by
  decide +kernel

/-- Worked example of chapter 10: the nudges of the example. -/
theorem test_nudges : ([10#8, 10#8, 3#8, 16#8, 7#8, 8#8, 9#8].foldl State.offerNudge inRun).adoption.nudges =
    [10, 3, 7, 8] := by decide +kernel

/-- Worked example of chapter 11, step 2: 20 records below FAULT stand; TRIP is dropped and LOCKOUT fills record 20. -/
def crowded : State := { inRun with
  eventSeq := 20#16
  events := vecTab 24 fun i =>
    if i.val = 0 then filled .resetDone 2#8 1#16
    else if i.val < 20 then filled .cueRefused (BitVec.ofNat 8 i.val) (BitVec.ofNat 16 (i.val + 1)) else .zero }

theorem test_lockout_passes_the_cap :
    let t := (crowded.event .trip 0#8 1#16).event .lockout 0#8 1#16
    t.events[(20 : Fin 24)] = { filled .lockout 0#8 21#16 with detail := 1#16 } ∧ t.eventSeq = 21#16 ∧
      t.attention.pending[(1 : Fin 12)] = true := by decide +kernel

/-- Worked example of chapter 11, step 1: a repeat. -/
theorem test_event_repeats : (crowded.event .cueRefused 5#8 1#16).events[(5 : Fin 24)].repeats = 2 := by
  decide +kernel

/-- R168: a power-on reset, then the entry to RUN with RESET_DONE, subject 1. -/
theorem test_power_on : let t := after .storeInitialised (after .powerOnReset crowded)
    t.part = .run ∧ t.events[(0 : Fin 24)] = filled .resetDone 1#8 1#16 ∧ t.storeByte 0x01 = 0x4A#8 ∧
      t.sequencer.inFlight = some ⟨0, none⟩ := by decide +kernel

/-- R169: a reset in QUIET keeps the scratch and zeroes the readings groups. -/
theorem test_soft_reset : let t := after .commandReset { inRun with
      part := .quiet, command := 4#8, store := [(0x0801, 7#8), (0x1000, 9#8)] }
    t.part = .resetting ∧ t.storeByte 0x0801 = 0#8 ∧ t.storeByte 0x1000 = 9#8 := by decide +kernel

/-! ### Witnesses, chapters 1 and 2: states that meet the hypotheses of the statements, clause by clause -/

theorem witness_StepConversionInterpolates :
    (0 < 8 * (14 : Fin 15).val + 7 ∧ SpeedTable.default[(14 : Fin 15).val] ≤ SpeedTable.default[(14 : Fin 15).val + 1]) ∧
      0 < 8 * (3 : Fin 15).val + 0 ∧ fallingTable[(3 : Fin 15).val + 1] ≤ fallingTable[(3 : Fin 15).val] := by
  decide +kernel

theorem witness_CommandAndDutyArithmetic :
    (∃ t : Trim, t.enabled = false) ∧ 15 < 16 ∧ (∃ t : Trim, t.enabled = true ∧ 16 ≤ 16) ∧
      (∃ s : State, s.power.state ≠ .bridging) ∧ ∃ s : State, s.power.state = .bridging :=
  ⟨⟨⟨0, 0, false⟩, rfl⟩, by decide, ⟨⟨255, 63, true⟩, rfl, by decide⟩, ⟨inRun, by decide⟩,
    ⟨{ inRun with power := { Power.reset with state := .bridging } }, rfl⟩⟩

/-- A RUNNING drive that falls toward 0 by the EASED mode, its last step. -/
def easing : State := driving { Drive.reset with
  state := .running, ramp := 20, stepDir := .down, rampTimer := .running 0
  profile := { DriveProfile.default with momentum := .eased } }

theorem witness_RampStepMovesTowardTarget :
    (∃ s : State, s.drive.rampTimer.isRunning = true ∧ s.drive.profile.momentum = .linear ∧ s.QuiesceOpen ∧
      s.drive.ramp < s.effectiveTarget ∧ (after .rampStep s).drive.ramp < s.effectiveTarget) ∧
    (∃ s : State, s.drive.rampTimer.isRunning = true ∧ s.drive.profile.momentum = .eased ∧ s.QuiesceOpen ∧
      s.effectiveTarget < s.drive.ramp ∧ s.effectiveTarget < (after .rampStep s).drive.ramp) ∧
    ∃ s : State, s.drive.rampTimer.isRunning = true ∧ s.drive.profile.momentum ≠ .off ∧ s.part = .quiescing ∧
      s.QuiesceOpen ∧ s.drive.ramp ≠ 0 :=
  ⟨⟨climbing .linear, by decide +kernel⟩, ⟨easing, by decide +kernel⟩,
    ⟨{ easing with part := .quiescing }, by decide +kernel⟩⟩

theorem witness_RampReachingZeroEndsReversalOrRun :
    (∃ s : State, s.drive.rampTimer.isRunning = true ∧ s.drive.profile.momentum ≠ .off ∧ s.QuiesceOpen ∧
      rampStepFrom s.drive.profile s.drive.ramp s.effectiveTarget = 0 ∧ s.drive.state = .reversing) ∧
    ∃ s : State, s.drive.rampTimer.isRunning = true ∧ s.drive.profile.momentum ≠ .off ∧ s.QuiesceOpen ∧
      rampStepFrom s.drive.profile s.drive.ramp s.effectiveTarget = 0 ∧ s.drive.state = .running :=
  ⟨⟨{ reversingState with drive := { reversingState.drive with ramp := 16 } }, by decide +kernel⟩,
    ⟨{ easing with drive := { easing.drive with ramp := 1 } }, by decide +kernel⟩⟩

/-- A drive in a state, at R. -/
def driveIn (x : DriveState) (ramp : Nat) (mode : Momentum) : State :=
  driving { Drive.reset with state := x, ramp := ramp, profile := { DriveProfile.default with momentum := mode } }

theorem witness_TargetWriteByDriveState :
    (∃ s : State, s.drive.state = .halted) ∧ (∃ s : State, s.drive.state = .locked) ∧
    (∃ s : State, s.drive.state = .tripped) ∧ (∃ s : State, s.drive.state = .idle) ∧
    (∃ s : State, s.drive.state = .running ∧ s.drive.ramp = 0) ∧
    (∃ s : State, s.drive.state = .reversing ∧ s.drive.ramp ≠ 0 ∧ s.drive.profile.momentum ≠ .off) ∧
    ∃ s : State, s.drive.state = .running ∧ s.drive.ramp ≠ 0 ∧ s.drive.profile.momentum = .off ∧
      Direction.rev ≠ s.drive.direction :=
  ⟨⟨driveIn .halted 0 .linear, rfl⟩, ⟨driveIn .locked 0 .linear, rfl⟩, ⟨driveIn .tripped 0 .linear, rfl⟩,
    ⟨driveIn .idle 0 .linear, rfl⟩, ⟨driveIn .running 0 .linear, rfl, rfl⟩,
    ⟨driveIn .reversing 16 .linear, by decide +kernel⟩, ⟨driveIn .running 16 .off, by decide +kernel⟩⟩

theorem witness_HostHaltStopsTheDrive :
    (∃ s : State, s.command = 1#8 ∧ s.part = .run ∧ s.QuiesceOpen ∧ s.drive.state ≠ .halted ∧
      s.drive.state ≠ .locked) ∧
    ∃ s : State, s.command = 1#8 ∧ s.part = .quiescing ∧ s.QuiesceOpen ∧ s.drive.state = .halted :=
  ⟨⟨reversingState, by decide +kernel⟩,
    ⟨{ driveIn .halted 0 .linear with part := .quiescing, command := 1#8 }, by decide +kernel⟩⟩

theorem witness_TripStopsOrLocksTheDrive :
    (∃ s : State, s.drive.state = .running ∧ s.part ≠ .quiet ∧ s.part ≠ .resetting ∧ s.QuiesceOpen ∧
      s.drive.tripCount + 1 ≤ s.drive.profile.retryLimit) ∧
    (∃ s : State, s.drive.state = .running ∧ s.part ≠ .quiet ∧ s.part ≠ .resetting ∧ s.QuiesceOpen ∧
      s.drive.profile.retryLimit < s.drive.tripCount + 1) ∧
    ∃ s : State, s.drive.state = .halted ∧ s.part = .quiescing ∧ s.QuiesceUnfinished :=
  ⟨⟨shorted 0, by decide +kernel⟩, ⟨shorted 1, by decide +kernel⟩,
    ⟨{ driveIn .halted 0 .linear with part := .quiescing }, by decide +kernel⟩⟩

theorem witness_RetryAndForgiveTimers :
    (∃ s : State, s.drive.retryTimer.isRunning = true ∧ s.drive.state = .tripped ∧ s.drive.tripCount ≠ 0 ∧
      s.RampHeld ∧ s.RampFollows ∧ s.drive.profile.momentum ≠ .off ∧ s.drive.target.magnitude ≠ 0) ∧
    ∃ s : State, s.drive.forgiveTimer.isRunning = true :=
  ⟨⟨after (.trip .a 0) (shorted 0), by decide +kernel⟩,
    ⟨driving { Drive.reset with forgiveTimer := .running 0, tripCount := 1 }, rfl⟩⟩

/-- A REVERSING drive when slot 9 has become ASSERTED LOW, whose drive action is BRAKE. -/
def braked : State := { reversingState with
  sequencer := { alarmed 9 .low with profile := { MeasureProfile.default with
    slots := MeasureProfile.default.slots.set 9 { SlotProfile.withLimits 1000 3000 with driveLow := .brake } } } }

theorem witness_ProtectionLevelActsOnTheDrive :
    (∃ s : State, s.protectionLevel.holds = true ∧ s.drive.level.holds = false ∧ s.drive.state = .reversing) ∧
    ∃ s : State, s.drive.profile.momentum ≠ .off ∧ s.protectionLevel.holds = false :=
  ⟨⟨braked, by decide +kernel⟩, ⟨inRun, by decide +kernel⟩⟩

theorem witness_EmfWindowOpensSamplesAndTimesOut :
    (∃ s : State, s.drive.periodTimer.isRunning = true) ∧ (∃ s : State, s.drive.settleTimer.isRunning = true) ∧
    ∃ s : State, s.drive.limitTimer.isRunning = true :=
  ⟨⟨driving { Drive.reset with periodTimer := .running 0 }, rfl⟩,
    ⟨driving { Drive.reset with window := .settling, settleTimer := .running 0 }, rfl⟩, ⟨windowOpen, rfl⟩⟩

/-! ### Witnesses, chapters 3 and 4 -/

/-- A MEASURE_PROFILE that enables no slot but those of a list. -/
def onlySlots (ks : List SlotIx) : MeasureProfile := { MeasureProfile.default with
  slots := vecTab 12 fun k => { MeasureProfile.default.slots[k] with enabled := ks.contains k } }

/-- A free sequencer with a deferred pass. -/
def deferring (ks : List SlotIx) : Sequencer :=
  { Sequencer.reset with profile := onlySlots ks, passDeferred := true, scanTimer := .running 0 }

theorem witness_PassesAndRequestsBegin :
    (∃ s : State, s.sequencer.scanTimer.isRunning = true ∧ s.sequencer.inFlight ≠ none) ∧
    (∃ s : State, s.sequencer.scanTimer.isRunning = true ∧ s.sequencer.passDeferred = true ∧
      (s.sequencer.pass = none ∧ s.sequencer.requests = [] ∧ s.sequencer.inFlight = none) ∧
      s.QuiesceUnfinished ∧ ([3, 11] : List SlotIx).Pairwise (· < ·) ∧ ∀ j : SlotIx, j ∈ ([3, 11] : List SlotIx) ↔
        j ≠ 5 ∧ j ≠ 6 ∧ s.sequencer.profile.slots[j].enabled = true ∧
          s.sequencer.passCounter.toNat % s.sequencer.profile.slots[j].divisor = 0) ∧
    (∃ s : State, s.sequencer.passDeferred = true ∧ s.sequencer.scanTimer.isRunning = true ∧
      (s.sequencer.pass = none ∧ s.sequencer.requests = [] ∧ s.sequencer.inFlight = none) ∧
      s.QuiesceUnfinished ∧ s.sequencer.waiting = none ∧
      ∀ j : SlotIx, ¬ (j ≠ 5 ∧ j ≠ 6 ∧ s.sequencer.profile.slots[j].enabled = true)) ∧
    ∃ (s : State) (skipped ks : List SlotIx) (rs : List EmfRequest), s.sequencer.inFlight = none ∧
      s.sequencer.requests = ⟨3, skipped ++ slotEmfB :: ks⟩ :: rs ∧
      (∀ j ∈ skipped, s.sequencer.profile.slots[j].enabled = false) ∧
      s.sequencer.profile.slots[slotEmfB].enabled = true :=
  ⟨⟨measuring { Sequencer.reset with scanTimer := .running 0, inFlight := some ⟨3, none⟩ }, by decide +kernel⟩,
    ⟨measuring (deferring [3, 5, 11]), by decide +kernel⟩, ⟨measuring (deferring [5, 6]), by decide +kernel⟩,
    ⟨measuring { Sequencer.reset with profile := onlySlots [6], requests := [⟨3, [5, 6]⟩] }, [5], [], [],
      by decide +kernel⟩⟩

/-- A conversion of a slot in flight, the last of its pass. -/
def converting (k : SlotIx) : Sequencer := { Sequencer.reset with inFlight := some ⟨k, none⟩, pass := some [] }

/-- AUX0 in flight, its alarm about to assert LOW at the value 999: the low side contributes EASE and DRY. -/
def assertingAux (s : State) : State := { s with sequencer := { converting 9 with
  profile := { MeasureProfile.default with
    correction := false, slots := MeasureProfile.default.slots.set 9 { aux0 with faultCount := 0, smokeLow := .dry } } } }

/-- R49, R57, R58, R96: the alarm asserts, and its event, the level and the dry slot follow from it. -/
theorem test_conversion_moves_the_alarm : let t := after (.adcConversionComplete 999#12 0) (assertingAux inRun)
    t.events[(0 : Fin 24)] = { filled .alarmAssert 9#8 1#16 with detail := 1#16 } ∧ t.drive.level = .ease ∧
      t.smoke.state = .dry ∧ t.events[(1 : Fin 24)] = { filled .smokeDry 2#8 2#16 with detail := 9#16 } := by
  decide +kernel

theorem witness_ConversionFormsTheValueAndMovesTheAlarm :
    (∃ s : State, s.sequencer.inFlight = some ⟨0, none⟩ ∧ s.QuiesceOpenElsewhere) ∧
    (∃ s : State, s.sequencer.inFlight = some ⟨11, none⟩ ∧ s.part = .quiescing ∧ s.QuiesceOpenElsewhere) ∧
    ∃ s : State, s.sequencer.inFlight = some ⟨9, none⟩ ∧ s.QuiesceOpenElsewhere ∧ s.sequencer.waiting = none ∧
      s.part.active = true ∧ s.sequencer.profile.correction = false ∧
      s.smoke.alarmDry[(9 : SlotIx)] = false ∧
      (let p := s.sequencer.profile.slots[(9 : SlotIx)]
        let x : Slot := { s.sequencer.slots[(9 : SlotIx)] with raw := 999, value := 999, substituted := p.substitute }
        p.substitute = false ∧ contributionMoved x (x.evaluate p 999) = true ∧
          let u := (s.withSequencer { s.sequencer with
            slots := s.sequencer.slots.set 9 (x.evaluate p 999), inFlight := none }).alarmEvent 9 x
              (x.evaluate p 999) 999
          u.sequencer.smokeAction 9 = .dry ∧ u.events[(0 : Fin 24)].filled = true ∧
            u.events[(0 : Fin 24)].kind = some .alarmAssert) :=
  ⟨⟨measuring (converting 0), by decide +kernel⟩,
    ⟨{ inQuiescing with
      sequencer := converting 11
      sound := { sixBusy.sound with bank := .ready } }, by decide +kernel⟩,
    ⟨assertingAux inRun, by decide +kernel⟩⟩

/-- What `QuietConversionDelivers` asks of a state with the conversion of slot `k` in flight. -/
abbrev quietly (s : State) (raw : BitVec 12) (k : SlotIx) : Prop :=
  let q := s.sequencer
  let p := q.profile.slots[k]
  let value := conversionValue q.profile (q.offsetAfter k raw.toNat) k raw.toNat
  let x := { q.slots[k] with raw := raw.toNat, value := value, substituted := p.substitute }
  q.inFlight = some ⟨k, none⟩ ∧ q.waiting = none ∧ q.requests = [] ∧ s.QuiesceOpenElsewhere ∧
    contributionMoved x (x.evaluate p value) = false

theorem witness_QuietConversionDelivers :
    (∃ s : State, quietly s 1560#12 slotHeat ∧ s.smoke.state.heating = true ∧ s.sequencer.pass = some []) ∧
    (∃ s : State, quietly s 1560#12 slotHeat ∧ s.smoke.state = .ready) ∧
    (∃ s : State, quietly s 1560#12 slotHeat ∧ s.smoke.state.heating = false) ∧
    (∃ s : State, quietly s 1967#12 slotStore ∧ s.power.state = .supplied) ∧
    ∃ s : State, quietly s 4095#12 9 ∧ s.sequencer.pass = some [10, 11] :=
  ⟨⟨heating .warming 0 0 0, by decide +kernel⟩, ⟨heating .ready 0 0 0, by decide +kernel⟩,
    ⟨measuring (converting slotHeat), by decide +kernel⟩,
    ⟨measuring (converting slotStore), by decide +kernel⟩,
    ⟨measuring { converting 9 with pass := some [10, 11] }, by decide +kernel⟩⟩

theorem witness_EmfReadingIsDeliveredAndCompletesTheWindow :
    (∃ s : State, s.drive.window ≠ .sampling) ∧
    (∀ muted : Bool, ∃ s : State, s.drive.window = .sampling ∧ s.drive.windowId = 3 ∧
      (s.drive.channels.get .a).requested = true ∧ (s.drive.channels.get .b).requested = false ∧
      (s.drive.profile.trim.get .a).enabled = true ∧ 0 < s.drive.profile.emfPeriod ∧ s.drive.windowMuted = muted ∧
      ((s.deliverEmf .a 3 1500).drive.channels.get .a).command = (s.drive.channels.get .a).command ∧
      ((s.deliverEmf .a 3 1500).drive.channels.get .a).command ≠ 0) ∧
    ∀ k ∈ ([5, 6] : List SlotIx), ∃ s : State, s.sequencer.inFlight = some ⟨k, some 3⟩ ∧ s.sequencer.waiting = none ∧
      s.QuiesceOpenElsewhere ∧ s.drive.window = .sampling ∧ s.drive.windowId = 3 ∧
      (let p := s.sequencer.profile.slots[k]
        let x : Slot := { s.sequencer.slots[k] with raw := 1500, value := 1500, substituted := p.substitute }
        s.sequencer.offset = 0 ∧ p.substitute = false ∧ contributionMoved x (x.evaluate p 1500) = false) :=
  ⟨⟨inRun, by decide⟩, fun muted => ⟨{ windowOpen with drive := { windowOpen.drive with windowMuted := muted } }, by
    cases muted <;> decide +kernel⟩, fun k hk =>
      ⟨{ windowOpen with sequencer := { Sequencer.reset with inFlight := some ⟨k, some 3⟩ } }, by
        revert k
        decide +kernel⟩⟩

theorem witness_OutsideValueCountsAndAsserts :
    (999 < aux0.low ∧ Slot.reset.alarm ≠ .asserted) ∧ aux0.high < 3001 ∧ (assertedAt .low).alarm = .asserted := by
  decide

theorem witness_InsideValueClearsInTheBand :
    (aux0.low ≤ 1000 ∧ 1000 ≤ aux0.high ∧ (assertedAt .low).alarm = .asserted ∧
      ((1000 : Nat) : Int) < (aux0.low : Int) + aux0.hysteresis ∧
      (aux0.low : Int) + aux0.hysteresis ≤ (aux0.high : Int) - aux0.hysteresis) ∧
    ((aux0.low : Int) + aux0.hysteresis ≤ (1100 : Nat) ∧ ((1100 : Nat) : Int) ≤ (aux0.high : Int) - aux0.hysteresis) ∧
    (((assertedAt .low).evaluate aux0 1100).alarm = .clear ∧ aux0.faultCount ≤ 15 ∧
      ∀ w ∈ [999, 3001, 0], w < aux0.low ∨ aux0.high < w) := by
  decide +kernel

theorem witness_AlarmChangesRaiseEvents :
    ((assertedAt .high).alarm = .asserted ∧ (assertedAt .low).side ≠ (assertedAt .high).side) ∧
      (assertedAt .low).alarm = .asserted ∧ Slot.reset.alarm ≠ .asserted := by
  decide

theorem witness_PassEndTakesThePendingProfile :
    ∃ (s : State) (p : MeasureProfile), s.sequencer.waiting = some p ∧ p.slots[(0 : SlotIx)].enabled = true ∧
      p.slots[(11 : SlotIx)].enabled = false :=
  ⟨measuring { converting 0 with waiting := some (onlySlots [0]) }, onlySlots [0], by decide +kernel⟩

/-- A power supervisor in a state, with its inputs and a bridge time. -/
def powered (x : PowerState) (lost low : Bool) (bridgeTime : Nat) : Power :=
  { Power.reset with
    state := x, trackLost := lost, storeLow := low, profile := { PowerProfile.default with bridgeTime := bridgeTime } }

theorem witness_TrackAndStoreMoveThePowerState :
    (∃ s : State, s.RampFollows ∧ s.power.state = .supplied ∧ s.sequencer.assertedLow slotTrack = true ∧
      s.power.trackLost = false ∧ 0 < s.power.profile.bridgeTime ∧ s.sequencer.assertedLow slotStore = false) ∧
    (∃ s : State, s.RampFollows ∧ s.power.state = .supplied ∧ s.sequencer.assertedLow slotTrack = true ∧
      s.power.trackLost = false ∧ s.power.profile.bridgeTime = 0) ∧
    (∃ s : State, s.RampFollows ∧ s.power.state = .spent ∧ s.sequencer.assertedLow slotTrack = false ∧
      s.power.trackLost = true) ∧
    (∃ s : State, s.RampFollows ∧ s.power.state = .bridging ∧ s.power.trackLost = false ∧
      s.sequencer.assertedLow slotStore = true ∧ s.power.storeLow = false) ∧
    (∃ s : State, s.RampFollows ∧ s.power.state = .supplied ∧ s.sequencer.assertedLow slotTrack = true ∧
      s.power.trackLost = false ∧ s.smoke.state.heating = true ∧ s.smoke.held = false) ∧
    (∀ enabled : Bool, ∃ s : State, s.RampFollows ∧ s.power.state = .bridging ∧
      s.sequencer.assertedLow slotTrack = false ∧ s.power.trackLost = true ∧ s.smoke.state = .held ∧
      s.smoke.powerHold = true ∧ (∀ k : SlotIx, s.smoke.alarmHold[k] = false) ∧ s.smoke.enabled = enabled) ∧
    ∃ s : State, s.RampFollows ∧ s.power.state = .supplied ∧ s.sequencer.assertedLow slotTrack = false :=
  ⟨⟨trackGap, by decide +kernel⟩, ⟨{ trackGap with power := powered .supplied false false 0 }, by decide +kernel⟩,
    ⟨{ inRun with power := powered .spent true false 20 }, by decide +kernel⟩,
    ⟨{ measuring (alarmed slotStore .low) with power := powered .bridging false false 20 }, by decide +kernel⟩,
    ⟨{ trackGap with smoke := (heating .ready 0 0 0).smoke }, by decide +kernel⟩,
    fun enabled => ⟨{ smoking { Smoke.reset with state := .held, powerHold := true, enabled := enabled } with
      power := powered .bridging true false 20 }, by cases enabled <;> decide +kernel⟩,
    ⟨inRun, by decide +kernel⟩⟩

theorem witness_OutageTickCountsAndEndsTheBridge :
    (∃ s : State, s.power.outageTimer.isRunning = true ∧ s.QuiesceOpen ∧ s.power.state ≠ .bridging) ∧
    (∃ s : State, s.power.outageTimer.isRunning = true ∧ s.QuiesceOpen ∧ s.power.state = .bridging ∧
      1 < s.power.bridge) ∧
    ∃ s : State, s.power.outageTimer.isRunning = true ∧ s.QuiesceOpen ∧ s.power.state = .bridging ∧
      s.power.bridge ≤ 1 ∧ s.smoke.state.heating = true ∧ s.smoke.held = false :=
  ⟨⟨{ inRun with power := { powered .spent true false 20 with outageTimer := .running 0 } }, by decide +kernel⟩,
    ⟨{ inRun with power := { powered .bridging true false 20 with outageTimer := .running 0, bridge := 2 } },
      by decide +kernel⟩,
    ⟨{ heating .ready 0 0 0 with
      power := { powered .bridging true false 20 with outageTimer := .running 0, bridge := 1 } }, by decide +kernel⟩⟩

/-! ### Witnesses, chapters 5 to 7 -/

theorem witness_CamEdgeAcceptedOrRejected :
    (∃ s : State, s.SourceSettled ∧ s.part = .starting) ∧
    (∃ s : State, s.SourceSettled ∧ s.part.active = true ∧ s.cadence.lastEdge = some 300000 ∧
      s.time * 100 + 99 < 300000 + s.cadence.profile.debounce * 100) ∧
    (∃ s : State, s.SourceSettled ∧ s.part.active = true ∧ s.cadence.lastEdge = some 250000 ∧
      250000 + s.cadence.profile.debounce * 100 ≤ s.time * 100 ∧ s.cadence.profile.mode ≠ .synthetic) ∧
    ∃ s : State, s.SourceSettled ∧ s.part.active = true ∧ s.cadence.lastEdge = none :=
  ⟨⟨State.reset, by decide +kernel⟩, ⟨rolling 3004 300000, by decide +kernel⟩,
    ⟨rolling 2505 250000, by decide +kernel⟩, ⟨inRun, by decide +kernel⟩⟩

/-- A live cam whose wheel-stopped timer runs, the last chuff at 1000 ms. -/
def stalling (time heldV : Nat) : State := { inRun with
  time := time
  cadence := { (rolling 0 0).cadence with
    stoppedTimer := .running 0, heldV := heldV, lastChuff := some 1000 } }

theorem witness_WheelStoppedSettlesTheSource :
    (∃ s : State, s.hasExpired s.cadence.stoppedTimer = false) ∧
    (∃ s : State, s.hasExpired s.cadence.stoppedTimer = true ∧ s.cadence.cam = .live ∧ s.SourceSettled ∧
      s.cadence.profile.mode = .auto ∧ s.cadence.heldV = 0) ∧
    (∃ s : State, s.hasExpired s.cadence.stoppedTimer = true ∧ s.cadence.cam = .live ∧ s.SourceSettled ∧
      s.cadence.profile.mode = .auto ∧ 0 < s.cadence.heldV ∧ s.cadence.lastChuff = some 1000 ∧
      max 20 (min 5000 (s.cadence.profile.constant * 256 / s.cadence.heldV)) ≤ s.time - 1000) ∧
    ∃ s : State, s.hasExpired s.cadence.stoppedTimer = true ∧ s.cadence.cam = .live ∧ s.SourceSettled ∧
      s.cadence.profile.mode = .auto ∧ 0 < s.cadence.heldV ∧ s.cadence.lastChuff = some 1000 ∧
      s.time - 1000 < max 20 (min 5000 (s.cadence.profile.constant * 256 / s.cadence.heldV)) :=
  ⟨⟨inRun, by decide +kernel⟩, ⟨stalling 3500 0, by decide +kernel⟩, ⟨stalling 2024 100, by decide +kernel⟩,
    ⟨stalling 2023 100, by decide +kernel⟩⟩

theorem witness_SyntheticChuffDelivered :
    (∃ s : State, s.hasExpired s.cadence.chuffTimer = false ∧ s.cadence.interval = some 512) ∧
    (∃ s : State, s.hasExpired s.cadence.chuffTimer = true ∧ s.cadence.interval = some 512 ∧ s.smoke.state = .ready ∧
      s.part = .run ∧ s.sound.bank ≠ .ready) ∧
    (∃ s : State, s.hasExpired s.cadence.chuffTimer = true ∧ s.cadence.interval = some 512 ∧ s.part = .run ∧
      s.sound.bank = .ready ∧ s.sound.cues[1]? = some ⟨1, 0, 0, 3, 160, 2⟩ ∧
      ∀ r ∈ s.sound.cues.take 1, r.kind ≠ 2) ∧
    ∃ s : State, s.hasExpired s.cadence.chuffTimer = true ∧ s.cadence.interval = some 512 ∧ s.part ≠ .run ∧
      s.smoke.state = .off :=
  ⟨⟨{ inRun with
      cadence := { Cadence.reset with interval := some 512, chuffTimer := .running 1000 } }, by decide +kernel⟩,    ⟨{ heating .ready 0 0 0 with
      cadence := { Cadence.reset with interval := some 512, chuffTimer := .running 0 } }, by decide +kernel⟩,
    ⟨{ sounding (bank [⟨1, 0, 0, 3, 200, 0⟩, ⟨1, 0, 0, 3, 160, 2⟩] [⟨1000, 1⟩, ⟨1001, 1⟩, ⟨1002, 1⟩, ⟨1003, 1⟩]) with
      cadence := { Cadence.reset with interval := some 512, chuffTimer := .running 999 } }, by decide +kernel⟩,
    ⟨{ inQuiescing with
      cadence := { Cadence.reset with interval := some 512, chuffTimer := .running 0 } }, by decide +kernel⟩⟩

/-- A machine right after its entry to RUN, all its timers running. -/
def started : State := after .storeInitialised State.reset

theorem witness_ReadingsTimersWriteTheirGroups :
    started.drive.readingsTimer.isRunning = true ∧ started.power.readingsTimer.isRunning = true ∧
      started.radio.readingsTimer.isRunning = true ∧ started.cadence.readingsTimer.isRunning = true := by
  decide +kernel

/-- A smoke unit with every one of its timers running. -/
def ticking (x : SmokeState) : State := smoking { Smoke.reset with
  state := x, staleTimer := .running 0, idleTimer := .running 0, puffTimer := .running 0, pulseTimer := .running 0
  cooldownTimer := .running 0 }

theorem witness_SmokeTimersExpire :
    (∃ s : State, s.hasExpired s.smoke.pulseTimer = false) ∧
    (∃ s : State, s.smoke.staleTimer.isRunning = true ∧ s.smoke.idleTimer.isRunning = true ∧
      s.smoke.state = .ready ∧ s.hasExpired s.smoke.pulseTimer = true ∧ s.smoke.puffTimer.isRunning = true) ∧
    ∃ s : State, s.smoke.idleTimer.isRunning = true ∧ s.smoke.state ≠ .warming ∧ s.smoke.state ≠ .ready ∧
      s.smoke.cooldownTimer.isRunning = true :=
  ⟨⟨inRun, by decide +kernel⟩, ⟨ticking .ready, by decide +kernel⟩, ⟨ticking .dry, by decide +kernel⟩⟩

/-- No slot's alarm. -/
def noAlarms : Vector Bool 12 := Vector.replicate 12 false

/-- The alarm of slot 9 alone. -/
def aux0Alarm : Vector Bool 12 := noAlarms.set 9 true

/-- R92: the last hold ends, and a HELD unit that is not enabled goes to OFF with the cooldown of its default profile,
30 s, and its fan at the idle duty. -/
theorem test_last_hold_ends :
    (smoking { Smoke.reset with state := .held, alarmHold := aux0Alarm }).setHolds false noAlarms =
      (smoking { Smoke.reset with cooldownTimer := .running 30000000, fan := 48 }).writeSmokeReadings := by decide +kernel

theorem witness_BudgetHoldsAndDryAlarmsMoveTheSmokeUnit :
    (∃ s : State, s.smoke.powerHold = false ∧ (∀ k : SlotIx, s.smoke.alarmHold[k] = false) ∧
      aux0Alarm[(9 : SlotIx)] = true ∧ s.smoke.state.heating = true) ∧
    (∀ enabled : Bool, ∃ s : State, s.smoke.alarmHold[(9 : SlotIx)] = true ∧ s.smoke.state = .held ∧
      s.smoke.enabled = enabled) ∧
    (∀ k : SlotIx, noAlarms[k] = false) ∧
    (∃ s : State, s.smoke.state = .off ∧ s.smoke.powerHold = false ∧ (∀ k : SlotIx, s.smoke.alarmHold[k] = false)) ∧
    (∃ s : State, s.smoke.state = .dry) ∧
    (∃ s : State, s.smoke.state ≠ .dry ∧ aux0Alarm[(9 : SlotIx)] = true ∧ s.smoke.alarmDry[(9 : SlotIx)] = false ∧
      ∀ j : SlotIx, j < 9 → aux0Alarm[j] = false) ∧
    (∃ s : State, s.smoke.budgetTimer.isRunning = true ∧ s.smoke.profile.capacity = 0) ∧
    (∃ s : State, s.smoke.budgetTimer.isRunning = true ∧ s.smoke.profile.capacity = 1000 ∧
      s.smoke.budget = 32000 ∧ s.smoke.heater = 200) ∧
    ∃ s : State, s.smoke.budgetTimer.isRunning = true ∧ s.smoke.profile.capacity ≠ 0 ∧
      s.smoke.budget - s.smoke.heater = 0 ∧ s.smoke.state.heating = true :=
  ⟨⟨heating .ready 0 0 200, by decide +kernel⟩,
    fun enabled => ⟨smoking { Smoke.reset with state := .held, enabled := enabled, alarmHold := aux0Alarm }, by
      cases enabled <;> decide +kernel⟩,
    by decide +kernel, ⟨inRun, by decide +kernel⟩, ⟨ticking .dry, by decide +kernel⟩,
    ⟨heating .ready 0 0 200, by decide +kernel⟩, ⟨heating .ready 0 0 200, by decide +kernel⟩,
    ⟨heating .ready 1000 32000 200, by decide +kernel⟩, ⟨heating .ready 1000 200 200, by decide +kernel⟩⟩

theorem witness_EffectTickStepsCountersAndForms :
    (∃ s : State, s.lamps.tickTimer.isRunning = true ∧ s.lamps.ticks % 10 ≠ 9 ∧
      s.lamps.lamps[(5 : Fin 8)].phase = .a ∧
      s.lamps.profile[(5 : Fin 8)].countA ≤ s.lamps.lamps[(5 : Fin 8)].count + 1 ∧
      s.lamps.lamps[(5 : Fin 8)].active = true ∧ s.lamps.profile[(5 : Fin 8)].mode = .beacon ∧
      s.lamps.profile[(4 : Fin 8)].mode = .flicker) ∧
    ∃ s : State, s.lamps.tickTimer.isRunning = true ∧ s.lamps.ticks % 10 = 9 :=
  ⟨⟨lit, by decide +kernel⟩, ⟨{ lit with lamps := { lit.lamps with ticks := 9 } }, by decide +kernel⟩⟩

/-! ### Witnesses, chapter 8 -/

/-- A mount whose header has been read, of a bank that ends at `length`. -/
def mounting (cueCount clipCount length : Nat) (crc : Word) : State := sounding { Sound.reset with
  bank := .mounting, header := some ⟨cueCount, clipCount, length, crc⟩, progress := 32 }

theorem witness_MountHeaderAndProgress :
    (∃ s : State, ¬ (s.sound.bank = .mounting ∧ s.sound.header.isSome = true)) ∧
    (∃ s : State, s.part ≠ .run) ∧
    (∃ s : State, s.part = .run ∧ s.sound.bank = .mounting ∧ s.sound.header = some ⟨0, 0, 32, 0#32⟩) ∧
    (∃ s : State, s.part = .run ∧ s.sound.bank = .mounting ∧ s.sound.header = none ∧ s.flashAt 0 = 1#8 ∧ s.flashAt 1 = 63#8 ∧
      s.flashAt 2 = 0#8 ∧ s.flashAt 5 = 2#8 ∧ s.flashAt 6 = 24#8) ∧
    ∃ s : State, s.part = .run ∧ s.sound.bank = .mounting ∧ s.sound.header = none ∧ s.flashAt 0 = 0xFF#8 :=
  ⟨⟨inRun, by decide +kernel⟩, ⟨inQuiescing, by decide⟩, ⟨mounting 0 0 32 0#32, by decide +kernel⟩,
    ⟨{ sounding { Sound.reset with bank := .mounting } with
      flash := [(0, 1#8), (1, 63#8), (2, 0#8), (4, 0#8), (5, 2#8), (6, 24#8)] }, by decide +kernel⟩,
    ⟨sounding { Sound.reset with bank := .mounting }, by decide +kernel⟩⟩

/-- One cue and one clip of four samples, and a mount of them with the CRC that fits. -/
def goodBank : State :=
  let s := { mounting 1 1 52 0#32 with
    flash := [(32, 1#8), (33, 0#8), (34, 0#8), (35, 7#8), (36, 200#8), (37, 0#8),
      (40, 0#8), (41, 0#8), (42, 48#8), (43, 0#8), (44, 0#8), (45, 4#8)] }
  { s with sound := { s.sound with header := some ⟨1, 1, 52, crc32 (s.flashRun 32 20)⟩ } }

/-- The CRC of a table of one record that the empty flash gives. -/
def blankCrc : Word := crc32 (List.replicate 8 0xFF#8)

theorem witness_MountCompleteJudgesTheBank :
    (∃ s : State, s.part ≠ .run ∧ s.sound.bank = .mounting ∧ s.sound.header = some ⟨0, 0, 33, 0#32⟩) ∧
    (∃ (s : State) (c : Word), s.part = .run ∧ s.sound.bank = .mounting ∧ s.sound.header = some ⟨1, 1, 52, c⟩ ∧
      crc32 (s.flashRun 32 (52 - 32)) = c ∧ s.cueRecordAt 0 = ⟨1, 0, 0, 7, 200, 0⟩ ∧
      s.clipRecordAt 1 0 = ⟨32 + 8 * 1 + 8 * 1, 4⟩) ∧
    (∃ s : State, s.part = .run ∧ s.sound.bank = .mounting ∧ s.sound.header = some ⟨0, 0, 33, 0#32⟩ ∧
      crc32 (s.flashRun 32 (33 - 32)) ≠ 0#32) ∧
    (∃ s : State, s.part = .run ∧ s.sound.bank = .mounting ∧ s.sound.header = some ⟨1, 0, 40, blankCrc⟩ ∧
      crc32 (s.flashRun 32 (40 - 32)) = blankCrc ∧ 0 < (s.cueRecordAt 0).start ∧ 7 < (s.cueRecordAt 0).priority) ∧
    ∃ s : State, s.part = .run ∧ s.sound.bank = .mounting ∧ s.sound.header = some ⟨0, 1, 40, blankCrc⟩ ∧
      crc32 (s.flashRun 32 (40 - 32)) = blankCrc ∧ 1048576 < (s.clipRecordAt 0 0).length :=
  ⟨⟨{ mounting 0 0 33 0#32 with part := .quiet }, by decide +kernel⟩, ⟨goodBank, crc32 (goodBank.flashRun 32 20), by decide +kernel⟩, ⟨mounting 0 0 33 0#32, by decide +kernel⟩,
    ⟨mounting 1 0 40 blankCrc, by decide +kernel⟩, ⟨mounting 0 1 40 blankCrc, by decide +kernel⟩⟩

/-- R120: a sound bank mounts, and a bad cue record ends a mount FAULTY. -/
theorem test_mount_complete : (after .mountComplete goodBank).sound.bank = .ready ∧
    (after .mountComplete (mounting 1 0 40 blankCrc)).sound.fault = .cueRecord := by decide +kernel

theorem witness_StartTakesAVoiceOrIsRefused :
    (∃ s : State, s.part = .run ∧ s.sound.bank = .ready ∧ s.VoicesSound ∧ (s.sound.cue 5).isSome = true ∧
      s.sound.voices[(0 : Fin 6)].busy = true ∧ s.sound.voices[(0 : Fin 6)].cue = 5) ∧
    (∃ s : State, s.part = .run ∧ s.sound.bank = .ready ∧ s.VoicesSound ∧
      s.sound.cue 1 = some ⟨1, 1, 0, 0, 200, 0⟩ ∧ ∀ v : Fin 6, s.sound.voices[v].busy = false) ∧
    (∃ s : State, s.part = .run ∧ s.sound.bank = .ready ∧ s.VoicesSound ∧
      s.sound.cue 40 = some ⟨1, 0, 0, 2, 200, 0⟩ ∧ (∀ v : Fin 6, s.sound.voices[v].busy = true ∧
        s.sound.voices[v].cue ≠ 40) ∧ 2 < s.sound.voicePriority 3 ∧
      ∀ w : Fin 6, s.sound.voicePriority w < s.sound.voicePriority 3 ∨
        s.sound.voicePriority w = s.sound.voicePriority 3 ∧ s.sound.order.idxOf 3 ≤ s.sound.order.idxOf w) ∧
    ∃ s : State, s.part = .run ∧ s.sound.bank = .ready ∧ s.VoicesSound ∧
      s.sound.cue 41 = some ⟨1, 0, 0, 6, 200, 0⟩ ∧ ∀ v : Fin 6, s.sound.voices[v].busy = true ∧
        s.sound.voices[v].cue ≠ 41 ∧ s.sound.voicePriority v ≤ 6 :=
  ⟨⟨sixBusy, by decide +kernel⟩, ⟨sounding (bank [⟨1, 1, 0, 0, 200, 0⟩] [⟨1000, 100⟩]), by decide +kernel⟩,
    ⟨sixBusy, by decide +kernel⟩, ⟨sixBusy, by decide +kernel⟩⟩

theorem witness_StopReleasesOrFades :
    (∃ s : State, s.part.active = true ∧ s.sound.bank = .ready ∧ s.sound.cue 5 = some ⟨1, 0, 0, 1, 200, 1⟩ ∧
      s.VoicesSound ∧ s.sound.voices[(0 : Fin 6)].busy = true ∧ s.sound.voices[(0 : Fin 6)].cue = 5) ∧
    ∃ s : State, s.part.active = true ∧ s.sound.bank = .ready ∧ s.sound.cue 14 = some ⟨1, 0, 0, 5, 200, 0⟩ ∧
      s.VoicesSound ∧ s.sound.voices[(5 : Fin 6)].busy = true ∧ s.sound.voices[(5 : Fin 6)].cue = 14 :=
  ⟨⟨sixBusy, by decide +kernel⟩, ⟨sixBusy, by decide +kernel⟩⟩

/-- A cue slot 7 posted for a START of cue 1, and a WRITE at its state byte. -/
def posted (part : PartState) (n : Fin 8) : State := { started with
  part := part, cueSlots := started.cueSlots.set n ⟨.posted, 1#8, 1#8, 0#8, .none⟩
  port := ⟨.writing, 0x0538#13, none, none⟩, pending := [.cueSlotStateWrite 0#8] }

/-- R165: an EMPTY taken while the slot is TAKEN leaves the result standing; one taken after it frees the slot. -/
theorem test_empty_taken_first : let t := State.scanSlot true (posted .run 7) 7
    t.cueSlots[(7 : Fin 8)] = ⟨.refused, 1#8, 1#8, 0#8, .noBank⟩ ∧ t.port.address = 0x0539#13 ∧
      after (.cueSlotStateWrite 0#8) t = t ∧
      (after (.cueSlotStateWrite 0#8) (State.scanSlot false (posted .run 7) 7)).cueSlots[(7 : Fin 8)].state = .empty := by
  decide +kernel

theorem witness_CueSlotScanTakesPostedSlots :
    (∃ s : State, s.sound.scanTimer.isRunning = true ∧ s.part = .run ∧ s.cueSlots[(7 : Fin 8)].state = .posted ∧
      s.pending.head? = some (.cueSlotStateWrite 0#8) ∧ s.port.phase = .writing ∧ s.port.address.toNat = 0x0500 + 8 * (7 : Fin 8).val) ∧
    (∃ s : State, s.sound.scanTimer.isRunning = true ∧ s.part = .run ∧ s.cueSlots[(7 : Fin 8)].state = .posted) ∧
    ∃ s : State, s.sound.scanTimer.isRunning = true ∧ s.part ≠ .run ∧ s.cueSlots[(0 : Fin 8)].state = .posted :=
  ⟨⟨posted .run 7, by decide +kernel⟩, ⟨posted .run 7, by decide +kernel⟩, ⟨posted .quiet 0, by decide +kernel⟩⟩

theorem witness_OutputSampleMixesAndAdvances :
    (∃ s : State, s.part = .starting) ∧ (∃ s : State, s.sound.ampTimer.isRunning = true ∧ s.part = .run) ∧
    (∃ s : State, s.part.active = true ∧ (s.part = .quiescing → False) ∧
      s.sound.cue s.sound.voices[(0 : Fin 6)].cue = some ⟨1, 1, 0, 0, 200, 0⟩ ∧
      s.sound.clip s.sound.voices[(0 : Fin 6)].clip = some ⟨1000, 100⟩ ∧
      s.sound.voices[(0 : Fin 6)].position < 100 ∧ s.sound.voices[(0 : Fin 6)].state = .looping) ∧
    ∃ s : State, s.part = .quiescing ∧ s.acks.sequencer = false :=
  ⟨⟨State.reset, rfl⟩, ⟨sounding { Sound.reset with ampTimer := .running 0 }, by decide +kernel⟩,
    ⟨mixing, by decide +kernel⟩, ⟨inQuiescing, rfl, rfl⟩⟩

/-! ### Witnesses, chapter 9 -/

/-- A finder in a state, with a buffer. -/
def finding (x : FinderState) (f : Frame) : State :=
  receiving { Radio.reset with finder := x, buffer := f, gapTimer := .running 0 }

theorem witness_FrameFinderMovesOnEachByte :
    (∃ s : State, s.part = .resetting) ∧ (∃ s : State, s.part.active = true ∧ s.radio.finder = .hunt) ∧
    (∃ s : State, s.part.active = true ∧ s.radio.finder = .sync ∧ s.hasExpired s.radio.gapTimer = true) ∧
    (∃ s : State, s.hasExpired s.radio.gapTimer = false) ∧
    (∃ s : State, s.part.active = true ∧ s.radio.finder = .length) ∧
    (∃ s : State, s.part.active = true ∧ s.radio.finder = .body) ∧
    (∃ s : State, s.part.active = true ∧ s.radio.finder = .check ∧ s.radio.buffer.crc = []) ∧
    ∃ s : State, s.part.active = true ∧ s.radio.finder = .check ∧ s.radio.buffer.crc = [7#8] :=
  ⟨⟨{ inRun with part := .resetting }, rfl⟩, ⟨inRun, rfl, rfl⟩, ⟨finding .sync .empty, rfl, rfl, by decide +kernel⟩,
    ⟨inRun, by decide +kernel⟩,
    ⟨finding .length .empty, rfl, rfl⟩, ⟨finding .body ⟨5#8, [], []⟩, rfl, rfl⟩,
    ⟨finding .check ⟨5#8, [], []⟩, rfl, rfl, rfl⟩, ⟨finding .check ⟨5#8, [], [7#8]⟩, rfl, rfl, rfl⟩⟩

/-- A frame of each command passes the checks of R141's first five steps. -/
theorem witness_Passes (p : RadioProfile) (command : Byte) (payload : List Byte)
    (hp : p = .default ∨ p = { RadioProfile.default with
      speed := .forward, halt := .both, function := .forward, functionGroup := .forward, cue := .forward
      volume := .ignore })
    (hc : (command, payload) ∈ [(0x10#8, [40#8, 1#8]), (0x11#8, []), (0x20#8, [31#8, 1#8]), (0x21#8, [24#8, 0x81#8]),
      (0x30#8, [63#8, 1#8]), (0x31#8, [255#8]), (0x7F#8, []), (0x12#8, []), (0x30#8, [64#8, 1#8])]) :
    (heard p command payload).Passes (frame ([0#8, 3#8, 17#8, 42#8, command] ++ payload)) .primary := by
  rcases hp with rfl | rfl <;> fin_cases hc <;> exact ⟨rfl, by decide +kernel⟩

theorem witness_AcceptedCommandsAreRouted :
    (heard .default 0x21#8 [24#8, 0x81#8]).Passes (frame [0#8, 3#8, 17#8, 42#8, 0x21#8, 24#8, 0x81#8]) .primary ∧
      (frame [0#8, 3#8, 17#8, 42#8, 0x21#8, 24#8, 0x81#8]).command = 0x21 ∧
      RadioProfile.default.functionGroup = .apply ∧ RadioProfile.default.speed = .apply ∧
      RadioProfile.default.user = .forward ∧
      (∃ (s : State) (write : Fin 32 → Option Bool), ∃ n, write n = some (!s.functions.flags[n].on)) ∧
      ∃ (s : State) (write : Fin 32 → Option Bool), ∀ n, write n ≠ some (!s.functions.flags[n].on) :=
  ⟨witness_Passes _ _ _ (.inl rfl) (by decide), by decide +kernel, rfl, rfl, rfl,
    ⟨inRun, fun _ => some true, 31, by decide +kernel⟩, ⟨inRun, fun _ => none, by decide +kernel⟩⟩

theorem witness_DiscardedFramesAreCounted :
    (∃ (s : State) (f : Frame), s.radio.completed = some f ∧ f.command = 0x10 ∧ f.crcMatches = false) ∧
    (∃ (s : State) (f : Frame), s.radio.completed = some f ∧ f.command = 0x11 ∧ f.crcMatches = true ∧
      s.part ≠ .run) ∧
    (∃ (s : State) (f : Frame), s.radio.completed = some f ∧ f.command = 0x20 ∧ f.crcMatches = true ∧
      s.part = .run ∧ s.radio.profile.addressedAs f = none) ∧
    (∃ (s : State) (f : Frame), s.radio.completed = some f ∧ f.command = 0x31 ∧ f.crcMatches = true ∧
      s.part = .run ∧ s.radio.profile.addressedAs f = some .consist ∧
      s.radio.isDuplicate (f.heard .consist) = true) ∧
    (∃ (p : RadioProfile) (f : Frame), f.address ≠ p.primary ∧ f.address = 0 ∧ f.command = 0x11) ∧
    (∃ (r : Radio) (h : Heard), (¬ ∃ x ∈ r.senders, x.sender = h.sender) ∧ r.senders.length = 8) ∧
    ∃ s : State, s.Passes (frame [0#8, 3#8, 17#8, 42#8, 0x30#8, 64#8, 1#8]) .primary :=
  ⟨⟨receiving { Radio.reset with completed := some ⟨5#8, [0#8, 3#8, 17#8, 42#8, 0x10#8], [0#8, 0#8]⟩ }, _, rfl,
      by decide +kernel⟩,
    ⟨{ heard .default 0x11#8 [] with part := .quiet }, _, rfl, by decide +kernel⟩,
    ⟨receiving { Radio.reset with completed := some (frame [1#8, 3#8, 17#8, 42#8, 0x20#8]) }, _, rfl,
      by decide +kernel⟩,
    ⟨receiving { Radio.reset with
      profile := { RadioProfile.default with primary := 9999, consist := 3 }, senders := [⟨17#8, 42#8, 0⟩]
      completed := some (frame [0#8, 3#8, 17#8, 42#8, 0x31#8, 9#8]) }, _, rfl, by decide +kernel⟩,
    ⟨.default, ⟨0#8, [0#8, 0#8, 17#8, 42#8, 0x11#8], []⟩, by decide +kernel⟩,
    ⟨{ Radio.reset with senders := List.replicate 8 ⟨1#8, 0#8, 0⟩ }, ⟨.primary, 2#8, 0#8, 0#8, []⟩, by decide +kernel⟩,
    ⟨heard .default 0x30#8 [64#8, 1#8], witness_Passes _ _ _ (.inl rfl) (by decide)⟩⟩

/-- A receiver in a silence state with its timers running. -/
def listening (x : SilenceState) (timeout : Nat) (clear : Bool) : State := receiving { Radio.reset with
  silence := x, silenceTimer := .running 0, elapsedTimer := .running 0
  profile := { RadioProfile.default with silenceTimeout := timeout, silenceAction := .ease, clearTarget := clear } }

theorem witness_SilenceBeginsAndEnds :
    (∃ s : State, s.hasExpired s.radio.silenceTimer = false) ∧
    (∃ s : State, s.hasExpired s.radio.silenceTimer = true ∧ s.QuiesceOpen ∧ s.radio.profile.clearTarget = true ∧
      s.drive.state = .halted ∧ s.drive.profile.momentum = .off ∧ s.RampFollows ∧
      s.drive.level = s.protectionLevel) ∧
    (∃ s : State, s.hasExpired s.radio.silenceTimer = true ∧ s.QuiesceOpen ∧ s.radio.profile.clearTarget = false ∧
      s.drive.profile.momentum ≠ .off ∧ s.radio.silence = .listening) ∧
    (∃ s : State, s.radio.elapsedTimer.isRunning = true ∧ s.radio.silence = .silent) ∧
    (∃ s : State, s.radio.silence = .disarmed ∧ s.radio.profile.silenceTimeout = 0) ∧
    ∃ s : State, s.radio.silence = .disarmed ∧ 0 < s.radio.profile.silenceTimeout :=
  ⟨⟨inRun, by decide +kernel⟩,
    ⟨{ listening .listening 20 true with drive := (driveIn .halted 0 .off).drive }, by decide +kernel⟩,
    ⟨listening .listening 20 false, by decide +kernel⟩,
    ⟨listening .silent 20 false, by decide +kernel⟩, ⟨listening .disarmed 0 false, by decide +kernel⟩,
    ⟨listening .disarmed 1 false, by decide +kernel⟩⟩

/-- The inbound list with its first `n` records FILLED, seqs 1 to `n`. -/
def inbox (n : Nat) : State := { inRun with
  inbound := vecTab 8 fun i => { InboundRecord.zero with filled := decide (i.val < n), seq := BitVec.ofNat 8 (i.val + 1) }
  radio := { Radio.reset with inboundSeq := BitVec.ofNat 8 n } }

theorem witness_ForwardFillsOrDrops :
    (∃ s : State, (¬ ∃ i : Fin 8, s.inbound[i].filled = true ∧ s.inbound[i].seq = s.radio.inboundSeq + 1#8) ∧
      s.inbound[(7 : Fin 8)].filled = false ∧ ∀ j : Fin 8, j < 7 → s.inbound[j].filled = true) ∧
    ∃ s : State, ∀ i : Fin 8, s.inbound[i].filled = true :=
  ⟨⟨inbox 7, by decide +kernel⟩, ⟨inbox 8, by decide +kernel⟩⟩

/-! ### Witnesses, chapters 10 and 11 -/

/-- R157: a READ from 0x1FFF wraps, and its third data byte is the ID's second. -/
theorem test_read_wraps : ({ inRun with port := ⟨.reading, 0x1FFF#13, none, none⟩ } : State).sdo true 2 =
    .data 0x4A#8 := by decide +kernel

theorem witness_TransactionsAndCaptures :
    (∃ s : State, s.port.phase = .idle) ∧ (∃ s : State, s.port.phase = .ignoring) ∧
      (∃ s : State, s.port.phase = .reading ∧ s.port.address.toNat = 4) ∧
      (∃ s : State, s.port.phase = .reading ∧ s.port.address.toNat = 9) ∧
      ∃ s : State, s.port.phase = .reading ∧ s.port.address.toNat = 8 :=
  ⟨⟨inRun, rfl⟩, ⟨{ inRun with port := ⟨.ignoring, 0#13, none, none⟩ }, rfl⟩,
    ⟨{ inRun with port := ⟨.reading, 4#13, none, none⟩ }, rfl, rfl⟩,
    ⟨{ inRun with port := ⟨.reading, 9#13, none, none⟩ }, rfl, rfl⟩,
    ⟨{ inRun with port := ⟨.reading, 8#13, none, none⟩ }, rfl, rfl⟩⟩

theorem witness_HostWriteTakenOrDiscarded :
    (∃ s : State, s.port.phase = .writing ∧ s.part ≠ .starting ∧ s.port.address.toNat = 0x0EBF ∧
      (s.port.address.toNat - 0x0E00) % 24 ≠ 0) ∧
    (∃ s : State, s.port.phase = .writing ∧ s.part ≠ .starting ∧ s.port.address.toNat = 0x1FFF) ∧
    (∃ s : State, s.port.phase = .writing ∧ s.part ≠ .starting ∧
      s.port.address.toNat = sectionBase 2 + 4 + sectionLength 2 - 1) ∧
    (∃ s : State, s.port.phase = .writing ∧ s.part ≠ .starting ∧ s.port.address.toNat = 0x0C) ∧
    ∃ s : State, s.port.phase = .writing ∧ s.part ≠ .starting ∧
      s.port.address.toNat = 0x0500 + 8 * (7 : Fin 8).val + 3 :=
  ⟨⟨writingAt 0x0EBF#13, by decide +kernel⟩, ⟨writingAt 0x1FFF#13, by decide +kernel⟩,
    ⟨writingAt 0x0209#13, by decide +kernel⟩, ⟨writingAt 0x0C#13, by decide +kernel⟩,
    ⟨writingAt 0x053B#13, by decide +kernel⟩⟩

/-- Unassigned bytes at the ends of their ranges: behind the attention configuration, in section tails, behind the last
section, and behind the event list. -/
theorem witness_HostWriteTakenOrDiscarded_unassigned :
    (∀ a ∈ [0x0039#13, 0x00FF#13, 0x011A#13, 0x0241#13, 0x0334#13, 0x043F#13, 0x044A#13, 0x0490#13, 0x04FF#13],
      (writingAt a).port.phase = .writing ∧ 0x39 ≤ a.toNat ∧ a.toNat < 0x0500 ∧
        ∀ k : Fin 15, a.toNat < sectionBase k ∨ sectionBase k + 4 + sectionLength k ≤ a.toNat) ∧
    ∀ a ∈ [0x0D80#13, 0x0DFF#13], (writingAt a).port.phase = .writing ∧ 0x0D80 ≤ a.toNat ∧ a.toNat < 0x0E00 := by
  decide +kernel

/-- The state bytes of the first and last records, where a value other than FREE is discarded and FREE is a row of its
own. -/
theorem witness_HostWriteTakenOrDiscarded_records :
    (writingAt 0x0C00#13).port.address.toNat = 0x0C00 + 16 * (0 : Fin 24).val ∧
      (writingAt 0x0D70#13).port.address.toNat = 0x0C00 + 16 * (23 : Fin 24).val ∧
      (writingAt 0x0E00#13).port.address.toNat = 0x0E00 + 24 * (0 : Fin 8).val ∧
      (writingAt 0x0EA8#13).port.address.toNat = 0x0E00 + 24 * (7 : Fin 8).val ∧ (1#8 : Byte) ≠ 0#8 := by
  decide +kernel

/-- 12.2: a write behind the last field of a section is discarded. -/
theorem test_section_tail_discarded : accessClass 0x011A = .discarded ∧ accessClass 0x0119 = .body 0 := by
  decide +kernel

/-- 12.5, section 11.2: an event record of TRIP, code 2, a WARNING, on channel B. -/
theorem test_event_record_bytes : ({ inRun with events := inRun.events.set 3 (filled .trip 2#8 9#16) } : State).storeByte
    0x0C31 = 0x42#8 := by
  decide +kernel

theorem witness_HandshakeWritesActOnTheirBytes :
    ∀ a ∈ [0x20#13, 0x38#13, 0x0A#13, 0x0B#13, 0x0480#13, 0x0538#13, 0x0D70#13, 0x0EA8#13],
      (writingAt a).port.phase = .writing ∧ (writingAt a).part ≠ .starting ∧
        (0x20 ≤ a.toNat ∧ a.toNat < 0x39 ∨ a.toNat = 0x0A ∨ a.toNat = 0x0B ∨ a.toNat = sectionBase 14 ∨
          a.toNat = 0x0500 + 8 * (7 : Fin 8).val ∨ a.toNat = 0x0C00 + 16 * (23 : Fin 24).val ∨
          a.toNat = 0x0E00 + 24 * (7 : Fin 8).val) := by
  decide +kernel

theorem witness_CommandsRefusedByPartState :
    ∀ code ∈ [1#8, 2#8, 3#8, 4#8, 5#8, 255#8], ∃ s : State, s.command = code ∧ s.part ≠ .starting ∧ s.part ≠ .run ∧
      s.part ≠ .quiescing ∧ s.part ≠ .quiet ∧ s.part = .resetting :=
  fun code _ => ⟨{ inRun with part := .resetting, command := code }, rfl, by simp⟩

theorem witness_QuiesceEntryWindsDown :
    (∃ s : State, s.part = .run ∧ s.command = 2#8 ∧ s.sequencer.inFlight ≠ none ∧ s.sound.anyBusy = true) ∧
    (∃ s : State, s.part = .run ∧ s.command = 2#8 ∧ s.sequencer.inFlight = none ∧ s.sound.anyBusy = false ∧
      s.adoption.visit = none ∧ s.drive.ramp = 640 ∧ s.drive.profile.momentum = .off) ∧
    ∃ s : State, s.part = .run ∧ s.command = 4#8 ∧ s.sequencer.inFlight = none ∧ s.sound.anyBusy = false ∧
      s.adoption.visit = none ∧ s.drive.ramp = 0 :=
  ⟨⟨{ sixBusy with command := 2#8, sequencer := converting 3 }, by decide +kernel⟩,
    ⟨{ driveIn .running 640 .off with command := 2#8 }, by decide +kernel⟩,
    ⟨{ inRun with command := 4#8 }, by decide +kernel⟩⟩

theorem witness_ResumeReturnsToRun :
    (∃ s : State, s.command = 3#8 ∧ s.part = .quiet ∧ s.drive.state = .locked ∧ s.sound.bank = .absent ∧
      s.sound.directive.mount = true ∧ s.radio.silence = .listening) ∧
    ∃ s : State, s.command = 3#8 ∧ s.part = .quiescing ∧ s.drive.state = .reversing ∧ s.drive.ramp ≠ 0 ∧
      s.drive.profile.momentum ≠ .off :=
  ⟨⟨{ listening .listening 20 false with
      part := .quiet, command := 3#8, drive := (driveIn .locked 0 .linear).drive
      sound := { Sound.reset with directive := ⟨true, 128⟩ } }, by decide +kernel⟩,
    ⟨{ reversingState with part := .quiescing, command := 3#8 }, by decide +kernel⟩⟩

theorem witness_ResetMarksOrResets :
    (∃ s : State, s.command = 4#8 ∧ s.part = .quiescing) ∧ ∃ s : State, s.command = 4#8 ∧ s.part = .quiet :=
  ⟨⟨{ inQuiescing with command := 4#8 }, rfl, rfl⟩, ⟨{ inRun with part := .quiet, command := 4#8 }, rfl, rfl⟩⟩

/-- A quiesce in which the drive, a voice, a conversion and a visit are all unfinished. -/
def unfinished (mark : Bool) : State :=
  { visiting { reversingState with sequencer := converting 3, sound := sixBusy.sound } 0 [] with
    part := .quiescing, deadline := .running 0, resetMark := mark
    acks := { Acks.none with smoke := true, radio := true, lamps := true } }

theorem witness_QuiesceDeadlineForces :
    (∃ s : State, s.part = .quiescing ∧ s.deadline.isRunning = true ∧ s.resetMark = true) ∧
    (∃ s : State, s.part = .quiescing ∧ s.deadline.isRunning = true ∧ s.resetMark = false ∧
      s.acks.drive = false ∧ s.acks.sound = false ∧ s.acks.sequencer = false ∧ s.acks.adoption = false ∧
      s.sequencer.waiting = none ∧ s.drive.state = .reversing ∧ s.drive.target.magnitude ≠ 0) ∧
    ∃ s : State, s.part = .quiescing ∧ s.deadline.isRunning = true ∧ s.resetMark = false ∧ s.acks.drive = false ∧
      s.drive.state = .running ∧ s.drive.target.magnitude = 0 ∧ s.drive.ramp ≠ 0 :=
  ⟨⟨unfinished true, by decide +kernel⟩, ⟨unfinished false, by decide +kernel⟩,
    ⟨{ unfinished false with drive := { Drive.reset with state := .running, ramp := 10 } }, by decide +kernel⟩⟩

/-- R41, R43: the forced reversal becomes RUNNING, and its readings show COAST on both channels. -/
theorem test_forced_drive_coasts : let t := after (.quiesceDeadlineExpiry 0) (unfinished false)
    t.storeByte 0x0801 = 1#8 ∧ t.storeByte 0x081E = 1#8 ∧ t.storeByte 0x082C = 1#8 ∧ t.drive.ramp = 0 ∧
      t.bridgeMode = .coast := by decide +kernel

/-- A quiesce that waits for the drive, and for the sound engine while a voice is busy. -/
def winding (d : Drive) (u : Sound) : State :=
  { inQuiescing with drive := d, sound := u, acks := ⟨false, false, true, true, true, true, true⟩ }

/-- A drive one step above rest. -/
def lastStep : Drive := { Drive.reset with state := .running, ramp := 10, stepDir := .down, rampTimer := .running 0 }

/-- A sound engine whose one voice gives its last sample. -/
def lastSample : Sound :=
  { bank [⟨1, 1, 0, 0, 200, 0⟩] [⟨1000, 100⟩] with
    voices := Sound.reset.voices.set 0 { playing .fading 1 .loop 1 0 200 with fade := 1 }, order := [0] }

theorem witness_QuiesceEnds :
    (let s := winding lastStep .reset;
      s.part = .quiescing ∧ s.drive.state = .running ∧ s.drive.rampTimer.isRunning = true ∧
        s.drive.profile.momentum ≠ .off ∧ rampStepFrom s.drive.profile s.drive.ramp s.effectiveTarget = 0 ∧
        ({ s.acksNow with drive := true } : Acks).all = true) ∧
    ({ (winding lastStep sixBusy.sound).acksNow with drive := true } : Acks).all = false ∧
    (let s := { winding lastStep .reset with command := 1#8 };
      s.part = .quiescing ∧ s.command = 1#8 ∧ s.drive.state ≠ .halted ∧ s.drive.state ≠ .locked ∧
        ({ s.acksNow with drive := true } : Acks).all = true) ∧
    (let s := { winding lastStep .reset with
        power := { Power.reset with state := .bridging, bridge := 1, outageTimer := .running 0 } };
      s.part = .quiescing ∧ s.power.outageTimer.isRunning = true ∧ s.power.state = .bridging ∧ s.power.bridge ≤ 1 ∧
        ({ s.acksNow with drive := true } : Acks).all = true) ∧
    (let s := winding .reset lastSample;
      s.part = .quiescing ∧ (∀ v : Fin 6, s.sound.voices[v].busy = true →
        s.sound.voices[v].state = .fading ∧ s.sound.voices[v].fade ≤ 1) ∧ s.sound.anyBusy = true ∧
        ({ s.acksNow with sound := true } : Acks).all = true) ∧
    ({ (winding lastStep lastSample).acksNow with sound := true } : Acks).all = false ∧
    (let s := { inQuiescing with sequencer := converting 3, acks := ⟨true, true, true, false, true, true, true⟩ };
      s.part = .quiescing ∧ s.sequencer.inFlight ≠ none ∧ ({ s.acksNow with sequencer := true } : Acks).all = true) ∧
    (let s := { visiting inQuiescing 3 [] with acks := ⟨true, true, true, true, true, true, false⟩ };
      s.part = .quiescing ∧ s.adoption.visit ≠ none ∧ s.pending = [] ∧
        ({ s.acksNow with adoption := true } : Acks).all = true) ∧
    let s := { visiting inQuiescing 3 [] with pending := [adoptCommand 0 3] };
    s.part = .quiescing ∧ s.adoption.visit = some ⟨3, 1#8, [], none⟩ ∧ s.isTorn ⟨3, 1#8, [], none⟩ = false ∧
      s.acks.adoption = false := by decide +kernel

/-- R167: the last voice ends the quiesce in QUIET, and the drive's last step alone does not while a voice is busy. -/
theorem test_quiesce_ends : (after .outputSample (winding .reset lastSample)).part = .quiet ∧
    (after .rampStep (winding lastStep sixBusy.sound)).part = .quiescing ∧
    (after .rampStep (winding lastStep .reset)).part = .quiet := by decide +kernel

theorem witness_ResetsAndEntryToRun :
    (∃ s : State, s.part = .starting ∧ (∀ n : Fin 24, s.events[n] = .zero) ∧ s.eventSeq = 0#16 ∧
      s.sequencer = .reset) ∧
    ∃ s : State, s.part = .resetting ∧ (∀ n : Fin 24, s.events[n] = .zero) ∧ s.eventSeq = 0#16 ∧
      s.sequencer = .reset :=
  ⟨⟨State.reset, by decide +kernel⟩, ⟨crowded.softReset, by decide +kernel⟩⟩

/-- `inRun` with an adoption unit, and section 14 due. -/
def adopting (u : Adoption) : State := { inRun with adoption := u, store := [(sectionBase 14, 1#8)] }

theorem witness_SweepsAndVisitsBegin :
    (∃ s : State, s.adoption.sweepTimer.isRunning = true ∧ s.adoption.sweep = none) ∧
    (∃ s : State, s.adoption.sweepTimer.isRunning = true ∧ s.adoption.sweep ≠ none) ∧
    (∃ s : State, s.adoption.sweepDeferred = true ∧ s.adoption.sweep = none) ∧
    (∃ s : State, s.part = .run ∧ s.adoption.visit = none ∧ s.adoption.nudges = [0, 3] ∧
      s.storeAt (sectionBase 0) = 0#8) ∧
    (∃ s : State, s.part = .run ∧ s.adoption.visit = none ∧ s.adoption.nudges = [] ∧
      s.adoption.sweep = some (14 : Fin 15).val ∧ s.storeAt (sectionBase 14) ≠ 0#8 ∧
      s.storeAt (sectionBase 14) ≠ s.storeAt (sectionBase 14 + 1)) ∧
    ∃ s : State, s.part ≠ .run ∨ s.adoption.visit ≠ none :=
  ⟨⟨adopting { Adoption.reset with sweepTimer := .running 0 }, by decide +kernel⟩,
    ⟨adopting { Adoption.reset with sweepTimer := .running 0, sweep := some 15 }, by decide +kernel⟩,
    ⟨adopting { Adoption.reset with sweepDeferred := true }, by decide +kernel⟩,
    ⟨adopting { Adoption.reset with nudges := [0, 3] }, by decide +kernel⟩,
    ⟨adopting { Adoption.reset with sweep := some 14 }, by decide +kernel⟩, ⟨State.reset, by decide +kernel⟩⟩

/-- A body of zeros is valid but for clamps in every section. -/
def zeros (k : Fin 15) : List Byte := List.replicate (sectionLength k) 0#8

theorem witness_VisitsEndTornOrAnswered :
    (∀ k : Fin 15, (visiting inRun k (zeros k)).part.active = true ∧
      (visiting inRun k (zeros k)).adoption.visit = some ⟨k, 1#8, zeros k, none⟩ ∧
      (visiting inRun k (zeros k)).QuiesceOpenForVisit k ∧
      (visiting inRun k (zeros k)).storeAt (sectionBase k) = 1#8 ∧
      (visiting inRun k (zeros k)).adoption.marks[k] = false ∧
      firstRefusal (sectionFindings k (zeros k)) = none) ∧
    (sectionFindings 6 badPartnerBody)[31]? = some .badPartner ∧
    (sectionFindings 5 (zeros 5))[0]? = some .clamped ∧ Finding.clamped ∉ sectionFindings 14 (zeros 14) ∧
    (∃ s : State, s.part.active = true ∧ s.QuiesceOpenForVisit 3 ∧ s.pending = [adoptCommand 5 3] ∧
      s.adoption.visit = some ⟨3, 1#8, zeros 3, none⟩ ∧ s.isTorn ⟨3, 1#8, zeros 3, none⟩ = false) ∧
    (∃ s : State, s.part.active = true ∧ s.QuiesceOpenForVisit 3 ∧
      s.adoption.visit = some ⟨3, 1#8, zeros 3, none⟩ ∧ s.adoption.marks[(3 : Fin 15)] = true) ∧
    ∀ d : Verdict, ∃ s : State, s.part.active = true ∧ s.QuiesceOpenForVisit 3 ∧
      s.adoption.visit = some ⟨3, 1#8, zeros 3, some d⟩ :=
  ⟨by decide +kernel, by decide +kernel, by decide +kernel, by decide +kernel,
    ⟨{ visiting inRun 3 (zeros 3) with pending := [.adoptPowerProfile 5] }, by decide +kernel⟩,
    ⟨{ inRun with adoption := { Adoption.reset with
        marks := Adoption.reset.marks.set 3 true, visit := some ⟨3, 1#8, zeros 3, none⟩ } }, by decide +kernel⟩,
    fun d => ⟨{ inRun with adoption := { Adoption.reset with visit := some ⟨3, 1#8, zeros 3, some d⟩ } },
      rfl, (by intro h; cases h), rfl⟩⟩

theorem witness_HandsOver (s : State) (k : Fin 15) (hs : s.store = []) (hm : s.adoption.marks = Adoption.reset.marks) :
    (visiting s k (zeros k)).HandsOver k (zeros k) := by
  refine ⟨⟨k, 1#8, zeros k, none⟩, rfl, rfl, rfl, ?_, ?_, ?_⟩
  · have torn : ∀ k : Fin 15, ((Memory.write 0#8 [] (sectionBase k) [1#8]).read 0#8 (sectionBase k) != 1#8) = false ∧
        Adoption.reset.marks[k] = false := by decide +kernel
    exact Bool.or_eq_false_iff.mpr ⟨by
      show (Memory.read 0#8 (Memory.write 0#8 s.store _ _) _ != 1#8) = false
      rw [hs]
      exact (torn k).1, by
      show s.adoption.marks[k] = false
      simpa [hm] using (torn k).2⟩
  · simp only [State.copiedBody, State.sectionBody, visiting, hs]
    clear hs hm s
    revert k
    decide +kernel
  · clear hs hm s
    revert k
    decide +kernel

theorem witness_HandOversToTheDrive :
    (visiting inRun 0 (zeros 0)).HandsOver 0 (zeros 0) ∧ (visiting inRun 1 (zeros 1)).HandsOver 1 (zeros 1) ∧
      (visiting inRun 10 (zeros 10)).HandsOver 10 (zeros 10) ∧ inRun.part ≠ .quiescing ∧
      DemandMode.ofCode (u8At (zeros 10) 0) = some .direct :=
  ⟨witness_HandsOver _ _ rfl rfl, witness_HandsOver _ _ rfl rfl, witness_HandsOver _ _ rfl rfl, by decide, rfl⟩

theorem witness_HandOversOfProfiles :
    (∀ k ∈ ([2, 3, 4, 7, 8] : List (Fin 15)), (visiting inRun k (zeros k)).HandsOver k (zeros k)) ∧
    (∃ s : State, (visiting s 3 (zeros 3)).HandsOver 3 (zeros 3) ∧ s.power.state = .bridging ∧
      min 1023 (u16At (zeros 3) 1) ≠ s.power.profile.ceiling) ∧
    (∃ s : State, (visiting s 4 (zeros 4)).HandsOver 4 (zeros 4) ∧ s.cadence.source = .synthetic) ∧
    ∃ s : State, (visiting s 8 (zeros 8)).HandsOver 8 (zeros 8) ∧ s.radio.silence = .silent ∧
      u8At (zeros 8) 12 = 0 :=
  ⟨fun k _ => witness_HandsOver _ k rfl rfl,
    ⟨{ inRun with power := powered .bridging true false 20 }, witness_HandsOver _ _ rfl rfl, by decide +kernel⟩,
    ⟨inRun, witness_HandsOver _ _ rfl rfl, rfl⟩,
    ⟨listening .silent 20 false, witness_HandsOver _ _ rfl rfl, by decide +kernel⟩⟩

theorem witness_HandOversToEffectsAndFunctions :
    (∀ k ∈ ([5, 6, 9, 11, 12, 13, 14] : List (Fin 15)), (visiting inRun k (zeros k)).HandsOver k (zeros k)) ∧
    (∃ s : State, (visiting s 11 (zeros 11)).HandsOver 11 (zeros 11) ∧ s.smoke.enabled = true ∧
      s.smoke.state.heating = true) ∧
    (∃ s : State, (visiting s 13 [1#8, 200#8]).HandsOver 13 [1#8, 200#8] ∧ s.part = .quiescing ∧
      s.sound.bank = .faulty) ∧
    ∃ s : State, (visiting s 13 (zeros 13)).HandsOver 13 (zeros 13) ∧ s.sound.bank = .ready ∧
      (u8At (zeros 13) 0 == 1) = false :=
  ⟨fun k _ => witness_HandsOver _ k rfl rfl,
    ⟨heating .ready 0 0 0, witness_HandsOver _ _ rfl rfl, by decide +kernel⟩,
    ⟨{ inQuiescing with sound := { Sound.reset with bank := .faulty } },
      ⟨⟨13, 1#8, [1#8, 200#8], none⟩, rfl, rfl, rfl, by decide +kernel, by decide +kernel, by decide +kernel⟩, rfl, rfl⟩,
    ⟨sixBusy, witness_HandsOver _ _ rfl rfl, by decide +kernel⟩⟩

theorem witness_EventsRepeatFillOrDrop :
    crowded.EventListSound ∧ crowded.part.active = true ∧
      (crowded.events[(19 : Fin 24)].filled = true ∧ crowded.events[(19 : Fin 24)].kind = some .cueRefused ∧
        crowded.events[(19 : Fin 24)].subject = 19#8) ∧
      ¬ crowded.events.toList.countP (fun e => e.filled && e.kind != some .lockout) < 20 ∧
      crowded.events[(20 : Fin 24)].filled = false ∧ ∀ j : Fin 24, j < 20 → crowded.events[j].filled = true := by
  decide +kernel

theorem witness_PeriodStartsLatchTheDuties :
    (climbing .linear).bridgeMode = .drive ∧ inRun.bridgeMode = .coast ∧ inRun.part ≠ .starting ∧
      (driveIn .halted 0 .linear).bridgeMode = .brake := by
  decide +kernel

theorem witness_StepTakesTheQueueHead :
    (∃ s : State, s.pending = [.uptimeTick, .chipSelectRelease]) ∧ ∃ s : State, s.pending = [] :=
  ⟨⟨{ inRun with pending := [.uptimeTick, .chipSelectRelease] }, rfl⟩, ⟨inRun, rfl⟩⟩

/-! ### Witnesses of the invariants: a started machine that a step moves -/

/-- A machine in RUN with a crowded event list and a host write to the scratch waiting. -/
def queued : State := { started with
  events := crowded.events, eventSeq := crowded.eventSeq, port := ⟨.writing, 0x1000#13, none, none⟩
  pending := [.hostWrite 5#8] }

theorem witness_StepKeepsMemoryCanonical :
    ∃ t, queued.MemoryCanonical ∧ step queued = .next t ∧ t.storeAt 0x1000 = 5#8 :=
  ⟨_, by decide +kernel, rfl, by decide +kernel⟩

theorem witness_StepKeepsTheListsSound :
    ∃ t, (queued.EventListSound ∧ queued.SendersSound ∧ queued.InboundSound ∧ queued.NudgesSound ∧
      queued.VoicesSound) ∧ step queued = .next t :=
  ⟨_, ⟨by decide +kernel, by decide +kernel, by decide +kernel, by decide +kernel, by decide +kernel⟩, rfl⟩

/-- A drive that climbs, as a target write has left it, with its next ramp step waiting. -/
def underWay : State := { (driving Drive.reset).writeTarget 415 .fwd .radio with pending := [.rampStep] }

theorem witness_StepKeepsTheDriveConsistent :
    ∃ t, (underWay.RampHeld ∧ underWay.RampFollows ∧ underWay.DutyFormed ∧ underWay.BridgeLatched ∧
      underWay.SourceSettled) ∧ step underWay = .next t ∧ t.drive.ramp = 16 :=
  ⟨_, ⟨by decide +kernel, by decide +kernel, fun c => by cases c <;> decide +kernel,
    fun c => by cases c <;> decide +kernel, by decide +kernel⟩, rfl, by decide +kernel⟩

theorem witness_StepKeepsAttentionAndHeaterGuarded :
    ∃ t, (queued.AttnExact ∧ queued.HeaterGuarded ∧ queued.lamps.lfsr ≠ 0#16) ∧ step queued = .next t :=
  ⟨_, by decide +kernel, rfl⟩

end Sys2Proof.Tests
end

/-! SUPPORT. R55 and R56: one equation for each case of a slot's evaluation, and what a run of outside values does. -/

namespace Sys2Proof.Machine

/-! ### One equation for each case of an evaluation -/

theorem SlotProfile.inside_eq_false {p : SlotProfile} {v : Nat} (h : v < p.low ∨ p.high < v) :
    p.inside v = false := by
  simp only [SlotProfile.inside, Bool.and_eq_false_iff, decide_eq_false_iff_not]
  omega

/-- R56: the hysteresis band, which any value clears in where it is empty. -/
theorem SlotProfile.clears_iff (p : SlotProfile) (v : Nat) :
    p.clears v = true ↔ (p.high : Int) - p.hysteresis < (p.low : Int) + p.hysteresis ∨
      (p.low : Int) + p.hysteresis ≤ v ∧ (v : Int) ≤ (p.high : Int) - p.hysteresis := by
  simp [SlotProfile.clears]

section evaluation
variable {x : Slot} {p : SlotProfile} {v : Nat}

theorem Slot.evaluate_of_outside (hv : v < p.low ∨ p.high < v) : x.evaluate p v = x.takeOutside p v := by
  simp [Slot.evaluate, SlotProfile.inside_eq_false hv]

theorem Slot.takeOutside_of_ne_asserted (hx : x.alarm ≠ .asserted) :
    x.takeOutside p v = { x with
      counter := min (x.counter + 1) 16
      side := p.sideOf v
      alarm := if p.faultCount + 1 ≤ min (x.counter + 1) 16 then .asserted else .counting } := by
  unfold Slot.takeOutside
  cases h : x.alarm with
  | clear | counting => rfl
  | asserted => exact absurd h hx

theorem Slot.takeOutside_of_asserted (hx : x.alarm = .asserted) :
    x.takeOutside p v = { x with counter := min (x.counter + 1) 16, side := p.sideOf v } := by
  simp [Slot.takeOutside, hx]

theorem Slot.evaluate_of_inside (hlow : p.low ≤ v) (hhigh : v ≤ p.high) :
    x.evaluate p v = x.takeInside p v := by
  simp [Slot.evaluate, SlotProfile.inside, hlow, hhigh]

/-- R56: a slot clears unless its alarm is ASSERTED and the value lies outside the hysteresis band. -/
theorem Slot.takeInside_clears (h : x.alarm = .asserted → p.clears v = true) :
    x.takeInside p v = { x with counter := 0, alarm := .clear, side := .none } := by
  unfold Slot.takeInside
  cases hx : x.alarm with
  | clear | counting => rfl
  | asserted => exact if_pos (h hx)

theorem Slot.takeInside_holds (hx : x.alarm = .asserted) (h : p.clears v = false) :
    x.takeInside p v = { x with counter := 0 } := by
  simp [Slot.takeInside, hx, h]

end evaluation

/-! ### A run of outside values -/

/-- Where a slot that was CLEAR with counter 0 stands after `n` outside values in a row (R55). -/
def Slot.AfterRun (x : Slot) (p : SlotProfile) (n : Nat) : Prop :=
  x.counter = min n 16 ∧ (x.alarm = .asserted ↔ p.faultCount + 1 ≤ n)

theorem Slot.afterRun_zero {x : Slot} (p : SlotProfile) (hcounter : x.counter = 0) (halarm : x.alarm = .clear) :
    x.AfterRun p 0 := by
  simp [Slot.AfterRun, hcounter, halarm]

/-- With N at most 15 the figure N + 1 lies within the counter's saturation, so the count decides the alarm. -/
theorem Slot.AfterRun.evaluate {x : Slot} {p : SlotProfile} {n v : Nat} (h : x.AfterRun p n)
    (hN : p.faultCount ≤ 15) (hv : v < p.low ∨ p.high < v) : (x.evaluate p v).AfterRun p (n + 1) := by
  obtain ⟨hcounter, halarm⟩ := h
  have hcount : min (x.counter + 1) 16 = min (n + 1) 16 := by omega
  rw [Slot.evaluate_of_outside hv]
  by_cases hx : x.alarm = .asserted
  · have hrun : p.faultCount + 1 ≤ n := halarm.mp hx
    rw [Slot.takeOutside_of_asserted hx]
    exact ⟨hcount, iff_of_true hx (by omega)⟩
  · rw [Slot.takeOutside_of_ne_asserted hx]
    refine ⟨hcount, ?_⟩
    have hreached : p.faultCount + 1 ≤ min (x.counter + 1) 16 ↔ p.faultCount + 1 ≤ n + 1 := by omega
    simp [hreached]

theorem Slot.AfterRun.foldl_evaluate {p : SlotProfile} (hN : p.faultCount ≤ 15) (run : List Nat)
    (hrun : ∀ w ∈ run, w < p.low ∨ p.high < w) {x : Slot} {n : Nat} (h : x.AfterRun p n) :
    (run.foldl (fun z w => z.evaluate p w) x).AfterRun p (n + run.length) := by
  induction run generalizing x n with
  | nil => exact h
  | cons w run ih =>
    obtain ⟨hw, hrest⟩ := List.forall_mem_cons.mp hrun
    have := ih hrest (h.evaluate hN hw)
    rwa [List.length_cons, Nat.add_comm run.length 1, ← Nat.add_assoc]

/-- R56: to assert afresh, a cleared slot needs N + 1 outside values in a row. -/
theorem Slot.run_asserts_iff {x : Slot} {p : SlotProfile} (hcounter : x.counter = 0) (halarm : x.alarm = .clear)
    (hN : p.faultCount ≤ 15) (run : List Nat) (hrun : ∀ w ∈ run, w < p.low ∨ p.high < w) :
    (run.foldl (fun z w => z.evaluate p w) x).alarm = .asserted ↔ p.faultCount + 1 ≤ run.length := by
  have h := (Slot.afterRun_zero p hcounter halarm).foldl_evaluate hN run hrun
  rw [Nat.zero_add] at h
  obtain ⟨-, hasserts⟩ := h
  exact hasserts

/-! ### The statements -/

/-- Settles O15 (R55), by the state of the alarm before the outside value. -/
theorem outsideValueCountsAndAsserts : Obligations.OutsideValueCountsAndAsserts := by
  intro x p v hv
  rw [Slot.evaluate_of_outside hv]
  by_cases hx : x.alarm = .asserted
  · rw [Slot.takeOutside_of_asserted hx]
    exact ⟨rfl, rfl, fun h => absurd hx h, fun _ => hx, rfl, rfl, rfl⟩
  · rw [Slot.takeOutside_of_ne_asserted hx]
    exact ⟨rfl, rfl, fun _ => rfl, fun h => absurd h hx, rfl, rfl, rfl⟩

/-- Settles O16 (R56), by whether the slot clears or its ASSERTED alarm is held outside the band. -/
theorem insideValueClearsInTheBand : Obligations.InsideValueClearsInTheBand := by
  intro x p v hlow hhigh
  rw [Slot.evaluate_of_inside hlow hhigh]
  by_cases hclears : x.alarm = .asserted → p.clears v = true
  · rw [Slot.takeInside_clears hclears]
    refine ⟨rfl, fun _ => ⟨rfl, rfl⟩, fun _ _ => ⟨rfl, rfl⟩, fun hx hband hout => ?_,
      fun _ hN run hrun => Slot.run_asserts_iff rfl rfl hN run hrun, rfl, rfl, rfl⟩
    have := (p.clears_iff v).mp (hclears hx)
    omega
  · obtain ⟨hx, hholds⟩ := Classical.not_imp.mp hclears
    rw [Slot.takeInside_holds hx (Bool.eq_false_of_not_eq_true hholds)]
    refine ⟨rfl, fun h => absurd hx h, fun _ hband => ?_, fun _ _ _ => ⟨hx, rfl⟩,
      fun h => ?_, rfl, rfl, rfl⟩
    · exact absurd ((p.clears_iff v).mpr hband) hholds
    · exact absurd (hx.symm.trans h) (by decide)

end Sys2Proof.Machine

/-! SUPPORT. What each operation of the blocks keeps: the components outside its footprint, and those invariants that
hold between any two updates of a block (O56, O57, O59). One lemma for each operation, in the order of the model. -/

namespace Sys2Proof.Machine

-- One proof at a time: proofs that wait for one another would each hold a thread.
set_option Elab.async false

/-! ### Keeping -/

/-- The heater is driven in the heating states only, no hold cause is in force there, and the PWM follows a fall at
once (R92, R94). -/
def Smoke.Guarded (u : Smoke) : Prop :=
  (u.heater ≠ 0 → u.state.heating = true) ∧ (u.state.heating = true → u.held = false) ∧ u.heaterPwm ≤ u.heater

/-- The voices of an engine are sound: one voice for a cue, and the start order holds exactly the busy ones. -/
def Sound.VoicesSound (e : Sound) : Prop :=
  (∀ v w : Fin 6, e.voices[v].busy = true → e.voices[w].busy = true → e.voices[v].cue = e.voices[w].cue → v = w) ∧
    e.order.Nodup ∧ ∀ v : Fin 6, v ∈ e.order ↔ e.voices[v].busy = true

/-- `t` is `s` but for the components of `l`, and each invariant of the memories, the lists, ATTN, the heater and the
LFSR that holds in `s` holds in `t`. -/
structure State.Keeps (s t : State) (l : List Component) : Prop where
  frame : s.SameExcept t l
  memory : s.MemoryCanonical → t.MemoryCanonical
  events : s.EventListSound → t.EventListSound
  senders : s.SendersSound → t.SendersSound
  inbound : s.InboundSound → t.InboundSound
  nudges : s.NudgesSound → t.NudgesSound
  voices : s.sound.VoicesSound → t.sound.VoicesSound
  attn : s.AttnExact → t.AttnExact
  heater : s.smoke.Guarded → t.smoke.Guarded
  lfsr : s.lamps.lfsr ≠ 0#16 → t.lamps.lfsr ≠ 0#16

namespace State.Keeps
variable {s t u : State} {l m : List Component}

theorem refl (s : State) (l : List Component) : s.Keeps s l :=
  ⟨s.sameExcept_refl l, id, id, id, id, id, id, id, id, id⟩

theorem trans (h : s.Keeps t l) (k : t.Keeps u l) : s.Keeps u l :=
  ⟨sameExcept_trans h.frame k.frame, k.memory ∘ h.memory, k.events ∘ h.events, k.senders ∘ h.senders,
    k.inbound ∘ h.inbound, k.nudges ∘ h.nudges, k.voices ∘ h.voices, k.attn ∘ h.attn, k.heater ∘ h.heater,
    k.lfsr ∘ h.lfsr⟩

/-- A larger footprint says less. -/
theorem mono (h : s.Keeps t l) (sub : l ⊆ m := by decide) : s.Keeps t m :=
  { h with frame := sameExcept_mono h.frame sub }

theorem ite {c : Prop} [Decidable c] (ht : c → s.Keeps t l) (hu : ¬ c → s.Keeps u l) :
    s.Keeps (if c then t else u) l := by
  split
  · exact ht ‹_›
  · exact hu ‹_›

theorem foldl {α : Type} {f : State → α → State} (h : ∀ (s : State) (a : α), s.Keeps (f s a) l) (xs : List α) (s : State) :
    s.Keeps (xs.foldl f s) l := by
  induction xs generalizing s with
  | nil => exact refl s l
  | cons x xs ih => exact (h s x).trans (ih _)

/-- A chain of operations, each of which keeps. -/
theorem foldl_apply (fs : List (State → State)) (h : ∀ f ∈ fs, ∀ s : State, s.Keeps (f s) l) (s : State) :
    s.Keeps (fs.foldl (fun s f => f s) s) l := by
  induction fs generalizing s with
  | nil => exact refl s l
  | cons f fs ih =>
    exact (h f (by simp) s).trans (ih (fun g hg => h g (by simp [hg])) _)

end State.Keeps

/-! ### One field -/

section
variable (s : State)

theorem State.keeps_withTime (x) : s.Keeps (s.withTime x) [.time] :=
  ⟨s.sameExcept_withTime x, id, id, id, id, id, id, id, id, id⟩

theorem State.keeps_withPart (x) : s.Keeps (s.withPart x) [.part] :=
  ⟨s.sameExcept_withPart x, id, id, id, id, id, id, id, id, id⟩

theorem State.keeps_withResetMark (x) : s.Keeps (s.withResetMark x) [.resetMark] :=
  ⟨s.sameExcept_withResetMark x, id, id, id, id, id, id, id, id, id⟩

theorem State.keeps_withDeadline (x) : s.Keeps (s.withDeadline x) [.deadline] :=
  ⟨s.sameExcept_withDeadline x, id, id, id, id, id, id, id, id, id⟩

theorem State.keeps_withAcks (x) : s.Keeps (s.withAcks x) [.acks] :=
  ⟨s.sameExcept_withAcks x, id, id, id, id, id, id, id, id, id⟩

theorem State.keeps_withCommand (x) : s.Keeps (s.withCommand x) [.command] :=
  ⟨s.sameExcept_withCommand x, id, id, id, id, id, id, id, id, id⟩

theorem State.keeps_withCommandResult (x) : s.Keeps (s.withCommandResult x) [.commandResult] :=
  ⟨s.sameExcept_withCommandResult x, id, id, id, id, id, id, id, id, id⟩

theorem State.keeps_withPort (x) : s.Keeps (s.withPort x) [.port] :=
  ⟨s.sameExcept_withPort x, id, id, id, id, id, id, id, id, id⟩

theorem State.keeps_withCueSlots (x) : s.Keeps (s.withCueSlots x) [.cueSlots] :=
  ⟨s.sameExcept_withCueSlots x, id, id, id, id, id, id, id, id, id⟩

theorem State.keeps_withDrive (x) : s.Keeps (s.withDrive x) [.drive] :=
  ⟨s.sameExcept_withDrive x, id, id, id, id, id, id, id, id, id⟩

theorem State.keeps_withSequencer (x) : s.Keeps (s.withSequencer x) [.sequencer] :=
  ⟨s.sameExcept_withSequencer x, id, id, id, id, id, id, id, id, id⟩

theorem State.keeps_withPower (x) : s.Keeps (s.withPower x) [.power] :=
  ⟨s.sameExcept_withPower x, id, id, id, id, id, id, id, id, id⟩

theorem State.keeps_withCadence (x) : s.Keeps (s.withCadence x) [.cadence] :=
  ⟨s.sameExcept_withCadence x, id, id, id, id, id, id, id, id, id⟩

theorem State.keeps_withFunctions (x) : s.Keeps (s.withFunctions x) [.functions] :=
  ⟨s.sameExcept_withFunctions x, id, id, id, id, id, id, id, id, id⟩

theorem State.keeps_withDraws (x) : s.Keeps (s.withDraws x) [.draws] :=
  ⟨s.sameExcept_withDraws x, id, id, id, id, id, id, id, id, id⟩

theorem State.keeps_withPending (x) : s.Keeps (s.withPending x) [.pending] :=
  ⟨s.sameExcept_withPending x, id, id, id, id, id, id, id, id, id⟩

theorem State.keeps_withSmoke (x : Smoke) (h : s.smoke.Guarded → x.Guarded := by exact id) :
    s.Keeps (s.withSmoke x) [.smoke] :=
  ⟨s.sameExcept_withSmoke x, id, id, id, id, id, id, id, h, id⟩

theorem State.keeps_withLamps (x : Lamps) (h : x.lfsr = s.lamps.lfsr := by rfl) :
    s.Keeps (s.withLamps x) [.lamps] :=
  ⟨s.sameExcept_withLamps x, id, id, id, id, id, id, id, id, fun k => by rw [← h] at k; exact k⟩

theorem State.keeps_withSound (x : Sound) (h : s.sound.VoicesSound → x.VoicesSound := by exact id) :
    s.Keeps (s.withSound x) [.sound] :=
  ⟨s.sameExcept_withSound x, id, id, id, id, id, h, id, id, id⟩

theorem State.keeps_withRadio (x : Radio) (h : x.senders = s.radio.senders := by rfl) :
    s.Keeps (s.withRadio x) [.radio] :=
  ⟨s.sameExcept_withRadio x, id, id, fun k => by rw [State.SendersSound, ← h] at k; exact k, id, id, id, id, id, id⟩

theorem State.keeps_withAdoption (x : Adoption) (h : x.nudges = s.adoption.nudges := by rfl) :
    s.Keeps (s.withAdoption x) [.adoption] :=
  ⟨s.sameExcept_withAdoption x, id, id, id, id, fun k => by rw [State.NudgesSound, ← h] at k; exact k, id, id, id, id⟩

end

/-! ### The store -/

/-- The level of ATTN reads the configuration alone of the store. -/
theorem State.attnLevel_congr {s t : State} (hp : t.attention = s.attention)
    (h : ∀ a, 0x20 ≤ a → a < 0x39 → t.storeAt a = s.storeAt a) : t.attnLevel = s.attnLevel := by
  have listens (n : Fin 12) : t.attnListens n = s.attnListens n := by
    have at_ (i : Nat) (hi : i < 25) : t.storeAt (attnConfigBase + i) = s.storeAt (attnConfigBase + i) :=
      h _ (by simp [attnConfigBase]) (by simp [attnConfigBase]; omega)
    simp only [State.attnListens, Nat.add_assoc]
    simp only [at_ n.val (by omega), at_ (12 + n.val) (by omega), at_ 24 (by omega)]
  simp only [State.attnLevel, hp, listens]

/-- Bytes written outside the attention configuration. -/
theorem State.keeps_writeStore (s : State) (a : Nat) (bs : List Byte) (h : a + bs.length ≤ 0x20 ∨ 0x39 ≤ a) :
    s.Keeps (s.writeStore a bs) [.store] := by
  refine ⟨s.sameExcept_writeStore a bs, fun ⟨hs, hf⟩ => ⟨Memory.write_wellFormed _ _ _ _ hs, hf⟩, id, id, id, id, id,
    fun k => ?_, id, id⟩
  have level : (s.writeStore a bs).attnLevel = s.attnLevel :=
    State.attnLevel_congr rfl fun n _ _ => State.storeAt_writeStore_outside s a n bs (by omega)
  exact Eq.trans k level.symm

theorem State.keeps_writeGroup (s : State) (base offset : Nat) (fields : List Byte)
    (h : 0x39 ≤ base := by decide) : s.Keeps (s.writeGroup base offset fields) [.store] :=
  (s.keeps_writeStore _ _ (by omega)).trans (State.keeps_writeStore _ _ _ (by omega))

/-! ### Attention and events (chapter 11) -/

theorem State.keeps_setPending (s : State) (n : Fin 12) (b : Bool) : s.Keeps (s.setPending n b) [.attention] :=
  ⟨s.sameExcept_setPending n b, id, id, id, id, id, id, fun _ => rfl, id, id⟩

theorem State.keeps_raise (s : State) (a : AttnSource) : s.Keeps (s.raise a) [.attention] :=
  .ite (fun _ => s.keeps_setPending _ _) fun _ => .refl _ _

theorem State.keeps_takeAttn (s : State) (v : Byte) : s.Keeps (s.takeAttn v) [.attention] := by
  unfold State.takeAttn
  split
  · exact s.keeps_setPending _ _
  · exact .refl _ _

/-- What an event touches. -/
abbrev Component.ofEvent : List Component := [.events, .eventSeq, .attention]

/-- No record of the list is a repeat of an event that finds none. -/
theorem State.findRepeat_none {s : State} {k : EventKind} {subject : Byte} (h : s.findRepeat k subject = none)
    (i : Fin 24) (hf : s.events[i].filled = true) :
    ¬ (s.events[i].kind = some k ∧ s.events[i].subject = subject) := by
  have := List.find?_eq_none.mp h i (List.mem_finRange i)
  simpa [-Fin.getElem_fin, hf] using this

/-- The record an event finds is FILLED, of its kind and subject. -/
theorem State.findRepeat_some {s : State} {k : EventKind} {subject : Byte} {i : Fin 24}
    (h : s.findRepeat k subject = some i) :
    s.events[i].filled = true ∧ s.events[i].kind = some k ∧ s.events[i].subject = subject := by
  have := List.find?_some h
  simpa [and_assoc] using this

/-- The room an event finds: a FREE record, a seq that no FILLED record has, and the cap. -/
theorem State.eventRoom_some {s : State} {k : EventKind} {i : Fin 24} (h : s.eventRoom k = some i) :
    s.events[i].filled = false ∧ (∀ j : Fin 24, s.events[j].filled = true → s.events[j].seq ≠ s.nextEventSeq) ∧
      (k.severity = .fault ∨ s.events.toList.countP EventRecord.capped < 20) := by
  unfold State.eventRoom at h
  split at h
  · rename_i hc
    obtain ⟨cap, seqs⟩ := hc
    refine ⟨by simpa using List.find?_some h, fun j hj => ?_, cap⟩
    have := List.all_eq_true.mp seqs s.events[j] (by simp)
    simpa [-Fin.getElem_fin, hj] using this
  · cases h

theorem Vector.get_set_fin {α : Type} {n : Nat} (v : Vector α n) (i j : Fin n) (x : α) :
    (v.set i x)[j] = if j = i then x else v[j] := by
  by_cases h : j = i
  · subst h
    simp
  · have : i.val ≠ j.val := fun e => h (Fin.ext e.symm)
    simp [h, Vector.getElem_set_ne, this]

/-- A count over a vector changes by the element replaced. -/
theorem Vector.countP_set {α : Type} {n : Nat} (p : α → Bool) (v : Vector α n) (i : Fin n) (x : α) :
    (v.set i x).toList.countP p + (if p v[i] then 1 else 0) = v.toList.countP p + if p x then 1 else 0 := by
  have hi : i.val < v.toList.length := by simp
  have := List.countP_set (p := p) (l := v.toList) (i := i.val) (a := x) hi
  have hpos : (if p v.toList[i.val] = true then 1 else 0) ≤ v.toList.countP p := by
    split
    · exact List.countP_pos_iff.mpr ⟨_, List.getElem_mem hi, ‹_›⟩
    · omega
  simp only [Vector.toList_set, Vector.getElem_toList, Fin.getElem_fin] at *
  omega

theorem State.eventListSound_repeat (s : State) (i : Fin 24) (detail : Half) (h : s.EventListSound) :
    (s.withEvents (s.events.set i (s.repeatedRecord s.events[i] detail))).EventListSound := by
  obtain ⟨unique, kinds, cap⟩ := h
  have same (j : Fin 24) : ∀ e, e = (s.events.set i (s.repeatedRecord s.events[i] detail))[j] →
      e.filled = s.events[j].filled ∧ e.kind = s.events[j].kind ∧ e.subject = s.events[j].subject ∧
        e.seq = s.events[j].seq := by
    rintro e rfl
    rw [Vector.get_set_fin]
    split
    · subst j
      exact ⟨rfl, rfl, rfl, rfl⟩
    · exact ⟨rfl, rfl, rfl, rfl⟩
  refine ⟨fun j k hj hk => ?_, fun j hj => ?_, ?_⟩
  · obtain ⟨fj, kj, sj, qj⟩ := same j _ rfl
    obtain ⟨fk, kk, sk, qk⟩ := same k _ rfl
    simp only [State.withEvents_events] at hj hk ⊢
    rw [kj, sj, qj, kk, sk, qk]
    exact unique j k (fj ▸ hj) (fk ▸ hk)
  · obtain ⟨fj, kj, -, -⟩ := same j _ rfl
    simp only [State.withEvents_events] at hj ⊢
    rw [kj]
    exact kinds j (fj ▸ hj)
  · have count := Vector.countP_set EventRecord.capped s.events i (s.repeatedRecord s.events[i] detail)
    have : (s.repeatedRecord s.events[i] detail).capped = s.events[i].capped := rfl
    rw [this] at count
    simp only [State.withEvents_events]
    omega

theorem State.eventListSound_fill (s : State) (k : EventKind) (subject : Byte) (detail : Half) (i : Fin 24)
    (new : s.findRepeat k subject = none) (room : s.eventRoom k = some i) (h : s.EventListSound) :
    (s.withEvents (s.events.set i (s.filledRecord k subject detail))).EventListSound := by
  obtain ⟨unique, kinds, cap⟩ := h
  obtain ⟨free, seqs, capped⟩ := State.eventRoom_some room
  have fresh (j : Fin 24) (hj : s.events[j].filled = true) :
      ¬ (s.events[j].kind = some k ∧ s.events[j].subject = subject ∨ s.events[j].seq = s.nextEventSeq) :=
    not_or.mpr ⟨State.findRepeat_none new j hj, seqs j hj⟩
  refine ⟨fun a b ha hb hab => ?_, fun j hj => ?_, ?_⟩
  · simp only [State.withEvents_events, Vector.get_set_fin] at ha hb hab
    split at ha <;> split at hb
    · exact ‹a = i›.trans ‹b = i›.symm
    · simp only [if_pos ‹a = i›, if_neg ‹¬ b = i›, State.filledRecord] at hab
      exact absurd (hab.imp (And.imp Eq.symm Eq.symm) Eq.symm) (fresh b hb)
    · simp only [if_neg ‹¬ a = i›, if_pos ‹b = i›, State.filledRecord] at hab
      exact absurd hab (fresh a ha)
    · simp only [if_neg ‹¬ a = i›, if_neg ‹¬ b = i›] at hab
      exact unique a b ha hb hab
  · simp only [State.withEvents_events, Vector.get_set_fin] at hj ⊢
    split at hj
    · simp [if_pos ‹j = i›, State.filledRecord]
    · rw [if_neg ‹¬ j = i›]
      exact kinds j hj
  · have count := Vector.countP_set EventRecord.capped s.events i (s.filledRecord k subject detail)
    have was : s.events[i].capped = false := by
      simp [-Fin.getElem_fin, EventRecord.capped, free]
    have now : k.severity = .fault → (s.filledRecord k subject detail).capped = false := fun hk => by
      simp [EventRecord.capped, State.filledRecord, hk]
    rw [was] at count
    simp only [State.withEvents_events]
    rcases capped with hk | hc
    · rw [now hk] at count
      simp only [Bool.false_eq_true, if_false] at count
      omega
    · simp only [Bool.false_eq_true, if_false] at count
      split at count <;> omega

theorem State.keeps_withEvents (s : State) (x : Vector EventRecord 24)
    (h : s.EventListSound → (s.withEvents x).EventListSound) : s.Keeps (s.withEvents x) [.events] :=
  ⟨s.sameExcept_withEvents x, id, h, id, id, id, id, id, id, id⟩

theorem State.keeps_withEventSeq (s : State) (x : Half) : s.Keeps (s.withEventSeq x) [.eventSeq] :=
  ⟨s.sameExcept_withEventSeq x, id, id, id, id, id, id, id, id, id⟩

theorem State.keeps_event (s : State) (k : EventKind) (subject : Byte) (detail : Half) :
    s.Keeps (s.event k subject detail) Component.ofEvent := by
  rcases s.event_cases k subject detail with ⟨-, e⟩ | ⟨i, -, -, e⟩ | ⟨i, -, new, room, e⟩ | ⟨-, -, -, e⟩ <;> rw [e]
  · exact .refl _ _
  · exact (s.keeps_withEvents _ (s.eventListSound_repeat i detail)).mono.trans (State.keeps_raise _ _).mono
  · exact (s.keeps_withEvents _ (s.eventListSound_fill k subject detail i new room)).mono.trans
      ((State.keeps_withEventSeq _ _).mono.trans (State.keeps_raise _ _).mono)
  · exact (s.keeps_raise _).mono

theorem State.keeps_freeEventRecord (s : State) (n : Fin 24) : s.Keeps (s.freeEventRecord n) [.events] := by
  refine s.keeps_withEvents _ fun ⟨unique, kinds, cap⟩ => ?_
  have same (j : Fin 24) : ∀ e, e = (vecModify s.events n fun e => { e with filled := false })[j] →
      (e.filled = true → s.events[j].filled = true) ∧ e.kind = s.events[j].kind ∧
        e.subject = s.events[j].subject ∧ e.seq = s.events[j].seq := by
    rintro e rfl
    rw [vecModify_get]
    split
    · subst j
      exact ⟨nofun, rfl, rfl, rfl⟩
    · exact ⟨id, rfl, rfl, rfl⟩
  refine ⟨fun j k hj hk => ?_, fun j hj => ?_, ?_⟩
  · obtain ⟨fj, kj, sj, qj⟩ := same j _ rfl
    obtain ⟨fk, kk, sk, qk⟩ := same k _ rfl
    simp only [State.withEvents_events] at hj hk ⊢
    rw [kj, sj, qj, kk, sk, qk]
    exact unique j k (fj hj) (fk hk)
  · obtain ⟨fj, kj, -, -⟩ := same j _ rfl
    simp only [State.withEvents_events] at hj ⊢
    rw [kj]
    exact kinds j (fj hj)
  · have count := Vector.countP_set EventRecord.capped s.events n { s.events[n] with filled := false }
    have : EventRecord.capped { s.events[n] with filled := false } = false := by simp [EventRecord.capped]
    rw [this] at count
    simp only [State.withEvents_events, vecModify]
    simp only [Bool.false_eq_true, if_false] at count
    omega

end Sys2Proof.Machine

/-! SUPPORT. What each operation of the smoke unit, the sound engine, the cadence unit and the lamps keeps. -/

namespace Sys2Proof.Machine

-- One proof at a time: proofs that wait for one another would each hold a thread.
set_option Elab.async false

/-! ### The smoke unit (chapter 6) -/

section
variable (s : State)

/-- What a change of the smoke unit and its readings touches. -/
abbrev Component.ofSmoke : List Component := [.smoke, .store]

/-- What an entry to DRY touches: the unit, its readings and the event. -/
abbrev Component.ofDry : List Component := [.smoke, .store, .events, .eventSeq, .attention]

theorem State.keeps_writeSmokeReadings : s.Keeps s.writeSmokeReadings [.store] :=
  (s.keeps_writeGroup _ _ _).trans (State.keeps_writeGroup _ _ _ _)

theorem State.keeps_rereadFan : s.Keeps s.rereadFan [.smoke] := s.keeps_withSmoke _

theorem State.keeps_smokeMoved (old : SmokeState) : s.Keeps (s.smokeMoved old) Component.ofSmoke :=
  s.keeps_rereadFan.mono.trans (.ite (fun _ => .refl _ _) fun _ => (State.keeps_writeSmokeReadings _).mono)

theorem Smoke.Guarded.heater_of_not_heating {u : Smoke} (h : u.Guarded) (hs : u.state.heating = false) :
    u.heater = 0 ∧ u.heaterPwm = 0 := by
  obtain ⟨driven, -, pwm⟩ := h
  have : u.heater = 0 := Classical.byContradiction fun hn => by simp [hs] at driven; exact hn driven
  exact ⟨this, by omega⟩

/-- A unit whose heater is off, in a state that is no heating state, is guarded. -/
theorem Smoke.guarded_of_off {u : Smoke} (heater : u.heater = 0) (pwm : u.heaterPwm = 0)
    (hs : u.state.heating = false) : u.Guarded :=
  ⟨fun hn => absurd heater hn, fun hh => by simp [hs] at hh, by omega⟩

/-- A unit whose heater is off, while no hold cause is in force, is guarded. -/
theorem Smoke.guarded_of_free {u : Smoke} (heater : u.heater = 0) (pwm : u.heaterPwm = 0) (hf : u.held = false) :
    u.Guarded :=
  ⟨fun hn => absurd heater hn, fun _ => hf, by omega⟩

theorem Smoke.setHeater_zero_pwm (u : Smoke) : (u.setHeater 0).heaterPwm = 0 := by simp [Smoke.setHeater]

/-- A lower heater duty keeps the guard. -/
theorem Smoke.Guarded.setHeater {u : Smoke} (h : u.Guarded) (d : Nat) (hd : d ≠ 0 → u.state.heating = true) :
    (u.setHeater d).Guarded :=
  ⟨hd, h.2.1, Nat.min_le_right _ _⟩

theorem State.guarded_enterWarming (h : s.smoke.held = false) : s.enterWarming.smoke.Guarded :=
  Smoke.guarded_of_free rfl (Smoke.setHeater_zero_pwm _) h

theorem State.guarded_enterSmokeOff : s.enterSmokeOff.smoke.Guarded :=
  Smoke.guarded_of_off rfl (Smoke.setHeater_zero_pwm _) rfl

theorem State.keeps_enterWarming (h : s.smoke.held = false) : s.Keeps s.enterWarming [.smoke] :=
  s.keeps_withSmoke _ fun _ => s.guarded_enterWarming h

theorem State.keeps_enterSmokeOff : s.Keeps s.enterSmokeOff [.smoke] :=
  s.keeps_withSmoke _ fun _ => s.guarded_enterSmokeOff

/-- A change between states that are no heating states. -/
theorem State.keeps_withSmoke_state (x : SmokeState) (hs : s.smoke.state.heating = false)
    (hx : x.heating = false) : s.Keeps (s.withSmoke { s.smoke with state := x }) [.smoke] :=
  s.keeps_withSmoke _ fun h =>
    have ⟨heater, pwm⟩ := h.heater_of_not_heating hs
    Smoke.guarded_of_off heater pwm hx

theorem State.keeps_smokeEnableActs : s.Keeps s.smokeEnableActs [.smoke] := by
  unfold State.smokeEnableActs
  split
  · split
    · rename_i hs
      exact .ite (fun _ => s.keeps_withSmoke_state _ (by rw [hs]; rfl) rfl)
        fun hh => s.keeps_enterWarming (by simpa using hh)
    all_goals exact .refl _ _
  · split
    all_goals first | exact s.keeps_enterSmokeOff | exact .refl _ _

theorem State.keeps_reevaluateSmoke : s.Keeps s.reevaluateSmoke Component.ofSmoke :=
  .ite (fun _ => .refl _ _) fun _ =>
    (s.keeps_withSmoke _).mono.trans ((State.keeps_smokeEnableActs _).mono.trans (State.keeps_smokeMoved _ _))

theorem State.keeps_setHolds (power : Bool) (alarms : Vector Bool 12) :
    s.Keeps (s.setHolds power alarms) Component.ofSmoke := by
  refine State.Keeps.trans (t := _) ?_ (State.keeps_smokeMoved _ s.smoke.state)
  refine State.Keeps.mono (l := [.smoke]) ?_
  generalize hu : ({ s.smoke with powerHold := power, alarmHold := alarms } : Smoke) = u
  have hstate : u.state = s.smoke.state := by rw [← hu]
  have hheater : u.heater = s.smoke.heater := by rw [← hu]
  have hpwm : u.heaterPwm = s.smoke.heaterPwm := by rw [← hu]
  have stays (hh : u.state.heating = true → u.held = false) : s.Keeps (s.withSmoke u) [.smoke] :=
    s.keeps_withSmoke _ fun ⟨driven, _, pwm⟩ => ⟨by rwa [hheater, hstate], hh, by rwa [hheater, hpwm]⟩
  refine .ite (fun _ => .ite (fun _ => ?_) fun hs => stays fun hh => absurd hh hs) fun hbegins =>
    .ite (fun hends => ?_) fun _ => ?_
  · exact s.keeps_withSmoke _ fun _ => Smoke.guarded_of_off rfl (Smoke.setHeater_zero_pwm _) rfl
  · have hfree : u.held = false := by simpa using (Bool.and_eq_true_iff.mp hends).2
    refine .ite (fun _ => .ite (fun _ => ?_) fun _ => ?_) fun _ => stays fun _ => hfree
    · exact s.keeps_withSmoke _ fun _ => (s.withSmoke u).guarded_enterWarming hfree
    · exact s.keeps_withSmoke _ fun _ => (s.withSmoke u).guarded_enterSmokeOff
  · refine s.keeps_withSmoke _ fun ⟨driven, free, pwm⟩ =>
      ⟨by rwa [hheater, hstate], fun hh => ?_, by rwa [hheater, hpwm]⟩
    have hbefore := free (hstate ▸ hh)
    simpa [hbefore] using hbegins

theorem State.keeps_enterDry (subject : Byte) (detail : Half) :
    s.Keeps (s.enterDry subject detail) Component.ofDry := by
  unfold State.enterDry
  refine .ite (fun _ => .refl _ _) fun _ => ?_
  exact (s.keeps_withSmoke _ fun _ => by exact Smoke.guarded_of_off rfl (Smoke.setHeater_zero_pwm _) rfl).mono.trans
    ((State.keeps_smokeMoved _ _).mono.trans (State.keeps_event _ _ _ _).mono)

theorem State.keeps_smokeContributions (holds drys : Vector Bool 12) :
    s.Keeps (s.smokeContributions holds drys) Component.ofDry :=
  (s.keeps_withSmoke _).mono.trans
    ((State.Keeps.foldl (fun s _ => s.keeps_enterDry _ _) _ _).trans (State.keeps_setHolds _ _ _).mono)

theorem State.keeps_smokeDriveChange (new : DriveState) : s.Keeps (s.smokeDriveChange new) Component.ofSmoke := by
  unfold State.smokeDriveChange
  split
  · split
    all_goals exact (s.keeps_withSmoke _).mono
  · refine (s.keeps_withSmoke _).mono.trans (.ite (fun hs => ?_) fun _ => .refl _ _)
    refine State.Keeps.trans (State.keeps_withSmoke _ _ fun h => ?_).mono (State.keeps_smokeMoved _ _)
    obtain ⟨-, free, pwm⟩ := h
    exact ⟨fun _ => rfl, fun _ => free (by rw [hs]; rfl), pwm⟩

theorem State.keeps_fanPulse : s.Keeps s.fanPulse [.smoke] :=
  (s.keeps_withSmoke _).trans (State.keeps_rereadFan _)

theorem State.keeps_smokeChuff : s.Keeps s.smokeChuff [.smoke] := by
  unfold State.smokeChuff
  split
  all_goals first | exact s.keeps_fanPulse | exact .refl _ _

/-- The temperature moves the state between heating states, and nothing else of the unit. -/
theorem Smoke.temperatureMove_eq (u : Smoke) :
    ∃ x : SmokeState, u.temperatureMove = { u with state := x } ∧ x.heating = u.state.heating := by
  unfold Smoke.temperatureMove
  split
  · split
    · exact ⟨.ready, rfl, by rename_i hs _; rw [hs]; rfl⟩
    · exact ⟨u.state, rfl, rfl⟩
  · split
    · exact ⟨.warming, rfl, by rename_i hs _; rw [hs]; rfl⟩
    · exact ⟨u.state, rfl, rfl⟩
  all_goals exact ⟨u.state, rfl, rfl⟩

theorem State.keeps_heatValue (value : Nat) : s.Keeps (s.heatValue value) Component.ofSmoke := by
  refine (s.keeps_withSmoke _).mono.trans (.ite (fun hs => ?_) fun _ => .refl _ _)
  refine State.Keeps.trans (State.keeps_withSmoke _ _ fun h => ?_).mono (State.keeps_smokeMoved _ _)
  obtain ⟨x, hx, heating⟩ := Smoke.temperatureMove_eq { s.smoke with temperature := value * 400 / 4096 }
  have hx' : x.heating = true := heating.trans hs
  obtain ⟨-, free, pwm⟩ := h
  have free' := free hs
  simp only [State.withSmoke_smoke, hx]
  split
  · exact ⟨fun _ => hx', fun _ => free', Nat.min_le_right _ _⟩
  · exact ⟨fun _ => hx', fun _ => free', pwm⟩

theorem State.keeps_fillBudget : s.Keeps s.fillBudget [.smoke] := s.keeps_withSmoke _

theorem State.keeps_releaseDry : s.Keeps s.releaseDry Component.ofSmoke := by
  refine .ite (fun hs => ?_) fun _ => .refl _ _
  have hdry : s.smoke.state.heating = false := by rw [hs.1]; rfl
  refine (s.keeps_withSmoke { s.smoke with enabled := s.smokeWanted }).mono.trans
    (State.Keeps.trans (State.Keeps.mono (l := [.smoke]) ?_) (State.keeps_smokeMoved _ _))
  generalize ht : s.withSmoke { s.smoke with enabled := s.smokeWanted } = t
  have htdry : t.smoke.state.heating = false := by rw [← ht]; exact hdry
  exact .ite (fun _ => .ite (fun _ => t.keeps_withSmoke_state .held htdry rfl)
    fun hh => t.keeps_enterWarming (eq_false_of_ne_true hh)) fun _ => t.keeps_withSmoke_state .off htdry rfl

theorem State.keeps_takeSmokeDirective (d : SmokeDirective) : s.Keeps (s.takeSmokeDirective d) Component.ofSmoke :=
  (s.keeps_withSmoke _).mono.trans
    ((State.Keeps.ite (fun _ => (State.keeps_fillBudget _).mono.trans (State.keeps_releaseDry _))
      fun _ => .refl _ _).trans (State.keeps_reevaluateSmoke _))

theorem State.keeps_takeSmokeProfile (p : SmokeProfile) : s.Keeps (s.takeSmokeProfile p) [.smoke] :=
  (s.keeps_withSmoke _ fun h => by exact h.setHeater (min s.smoke.heater p.heaterMax) fun hn => h.1 (by omega)).trans (State.keeps_rereadFan _)

theorem State.keeps_smokeQuiesce : s.Keeps s.smokeQuiesce [.smoke] :=
  (s.keeps_withSmoke _ fun h => by exact h.setHeater 0 (absurd rfl)).trans (State.keeps_rereadFan _)

theorem State.keeps_budgetTick : s.Keeps s.budgetTick Component.ofDry :=
  .ite (fun _ => .refl _ _) fun _ => (s.keeps_withSmoke _).mono.trans
    ((State.Keeps.ite (fun _ => (State.keeps_event _ _ _ _).mono) fun _ => .refl _ _).trans
      (.ite (fun _ => State.keeps_enterDry _ _ _) fun _ => .refl _ _))

end

/-! ### The sound engine (chapter 8) -/

section
variable (s : State)

/-- What a START touches: the engine, and the event of a refusal. -/
abbrev Component.ofCue : List Component := [.sound, .events, .eventSeq, .attention]

/-- Every voice plays its cue or has ended: no voice becomes busy, and none changes its cue. -/
theorem Sound.VoicesSound.settle {e : Sound} (h : e.VoicesSound) (voices : Vector Voice 6)
    (hv : ∀ v : Fin 6, voices[v].busy = true → e.voices[v].busy = true ∧ voices[v].cue = e.voices[v].cue) :
    Sound.VoicesSound { e with voices := voices, order := e.order.filter fun v => voices[v].busy } := by
  obtain ⟨unique, nodup, mem⟩ := h
  refine ⟨fun v w hvb hwb hcue => ?_, nodup.filter _, fun v => ?_⟩
  · obtain ⟨hv', cv⟩ := hv v hvb
    obtain ⟨hw', cw⟩ := hv w hwb
    exact unique v w hv' hw' (cv.symm.trans (hcue.trans cw))
  · rw [List.mem_filter]
    exact ⟨And.right, fun hb => ⟨(mem v).mpr (hv v hb).1, hb⟩⟩

theorem State.settleVoices_sound (voices : Vector Voice 6) :
    ∃ x : Timer, (s.settleVoices voices).sound =
      { s.sound with voices := voices, order := s.sound.order.filter (fun v => voices[v].busy), ampTimer := x } := by
  simp only [State.settleVoices, State.withSound_sound]
  split
  · exact ⟨_, rfl⟩
  · exact ⟨s.sound.ampTimer, rfl⟩

theorem State.keeps_settleVoices (voices : Vector Voice 6)
    (hv : ∀ v : Fin 6, voices[v].busy = true →
      s.sound.voices[v].busy = true ∧ voices[v].cue = s.sound.voices[v].cue) :
    s.Keeps (s.settleVoices voices) [.sound] := by
  refine s.keeps_withSound _ fun h => ?_
  have := h.settle voices hv
  split <;> exact this

theorem State.keeps_freeVoices : s.Keeps s.freeVoices [.sound] :=
  s.keeps_settleVoices _ fun v hv => by
    rw [vecMap_get] at hv
    simp [Voice.busy] at hv

/-- Voice `v`, which alone may play cue `n`, is started with it. -/
theorem Sound.VoicesSound.startVoice {e : Sound} (h : e.VoicesSound) (v : Fin 6) (n : Nat) (r : CueRecord) (g : Nat)
    (hn : ∀ w : Fin 6, e.voices[w].busy = true → e.voices[w].cue = n → w = v) : (e.startVoice v n r g).VoicesSound := by
  obtain ⟨unique, nodup, mem⟩ := h
  refine ⟨fun a b ha hb hab => ?_, ?_, fun w => ?_⟩
  · simp only [Sound.startVoice, Vector.get_set_fin] at ha hb hab
    split at ha <;> split at hb
    · exact ‹a = v›.trans ‹b = v›.symm
    · simp only [if_pos ‹a = v›, if_neg ‹¬ b = v›] at hab
      exact absurd (hn b hb hab.symm) ‹_›
    · simp only [if_neg ‹¬ a = v›, if_pos ‹b = v›] at hab
      exact absurd (hn a ha hab) ‹_›
    · simp only [if_neg ‹¬ a = v›, if_neg ‹¬ b = v›] at hab
      exact unique a b ha hb hab
  · show (e.order.filter (fun w => w != v) ++ [v]).Nodup
    rw [List.nodup_append]
    refine ⟨nodup.filter _, by simp, ?_⟩
    simp +contextual [List.mem_filter]
  · show w ∈ e.order.filter (fun w => w != v) ++ [v] ↔ (e.voices.set v _)[w].busy = true
    rw [Vector.get_set_fin]
    by_cases hw : w = v
    · simp [hw, Voice.busy]
    · simp [hw, mem w, List.mem_filter]

/-- The holder of a cue is the one busy voice that plays it. -/
theorem Sound.holder_some {e : Sound} {n : Nat} {v : Fin 6} (hv : e.holder n = some v) :
    e.voices[v].busy = true ∧ e.voices[v].cue = n := by
  have := List.find?_some hv
  simpa using this

theorem Sound.holder_none {e : Sound} {n : Nat} (hn : e.holder n = none) (w : Fin 6)
    (hw : e.voices[w].busy = true) : e.voices[w].cue ≠ n := by
  have := List.find?_eq_none.mp hn w (List.mem_finRange w)
  simpa [-Fin.getElem_fin, hw] using this

/-- What a START can do (R124, R125): it is dropped outside RUN; refused, with its count; left alone; or its voice
starts. -/
theorem State.startCue_cases (n : Nat) (gain : Option Nat) (source : CueSource) :
    (s.part ≠ .run ∧ s.startCue n gain source = (s, .none)) ∨
    (s.part = .run ∧ s.sound.bank ≠ .ready ∧ s.startCue n gain source =
      (s.withSound { s.sound with noBank := s.sound.noBank + 1#16 }, .noBank)) ∨
    (s.part = .run ∧ s.sound.bank = .ready ∧ s.sound.cue n = none ∧ s.startCue n gain source =
      (s.withSound { s.sound with noCue := s.sound.noCue + 1#16 }, .noCue)) ∨
    ∃ r, s.part = .run ∧ s.sound.bank = .ready ∧ s.sound.cue n = some r ∧
      ((∃ v, s.sound.holder n = some v ∧ r.kind = kindHeld ∧ s.startCue n gain source = (s, .ok)) ∨
      (∃ v, s.sound.holder n = some v ∧ r.kind ≠ kindHeld ∧
        s.startCue n gain source = (s.withSound (s.sound.startVoice v n r (gain.getD r.gain)), .ok)) ∨
      (∃ v, s.sound.holder n = none ∧ s.sound.freeVoice = some v ∧
        s.startCue n gain source = (s.withSound (s.sound.startVoice v n r (gain.getD r.gain)), .ok)) ∨
      (∃ v, s.sound.holder n = none ∧ s.sound.freeVoice = none ∧ s.sound.victim r.priority = some v ∧
        s.startCue n gain source = (s.withSound { s.sound.startVoice v n r (gain.getD r.gain) with
          steals := s.sound.steals + 1#16 }, .ok)) ∨
      (s.sound.holder n = none ∧ s.sound.freeVoice = none ∧ s.sound.victim r.priority = none ∧
        s.startCue n gain source = (s.refuseNoVoice n source, .noVoice))) := by
  unfold State.startCue
  by_cases hp : s.part = .run
  · by_cases hb : s.sound.bank = .ready
    · cases hr : s.sound.cue n with
      | none => simp [hp, hb]
      | some r =>
        refine .inr (.inr (.inr ⟨r, hp, hb, rfl, ?_⟩))
        cases hh : s.sound.holder n with
        | some v =>
          by_cases hk : r.kind = kindHeld
          · exact .inl ⟨v, rfl, hk, by simp [hp, hb, hk]⟩
          · exact .inr (.inl ⟨v, rfl, hk, by simp [hp, hb, hk]⟩)
        | none =>
          cases hf : s.sound.freeVoice with
          | some v => exact .inr (.inr (.inl ⟨v, rfl, rfl, by simp [hp, hb]⟩))
          | none =>
            cases hv : s.sound.victim r.priority with
            | some v => exact .inr (.inr (.inr (.inl ⟨v, rfl, rfl, rfl, by simp [hp, hb, hv]⟩)))
            | none => exact .inr (.inr (.inr (.inr ⟨rfl, rfl, rfl, by simp [hp, hb, hv]⟩)))
    · exact .inr (.inl ⟨hp, hb, by simp [hp, hb]⟩)
  · exact .inl ⟨hp, by simp [hp]⟩

theorem State.keeps_startCue (n : Nat) (gain : Option Nat) (source : CueSource) :
    s.Keeps (s.startCue n gain source).1 Component.ofCue := by
  rcases s.startCue_cases n gain source with ⟨-, e⟩ | ⟨-, -, e⟩ | ⟨-, -, -, e⟩ | ⟨r, -, -, -, h⟩
  · rw [e]; exact .refl _ _
  · rw [e]; exact (s.keeps_withSound _).mono
  · rw [e]; exact (s.keeps_withSound _).mono
  · rcases h with ⟨v, -, -, e⟩ | ⟨v, holds, -, e⟩ | ⟨v, none, -, e⟩ | ⟨v, none, -, -, e⟩ | ⟨-, -, -, e⟩ <;> rw [e]
    · exact .refl _ _
    · obtain ⟨busy, cue⟩ := Sound.holder_some holds
      exact (s.keeps_withSound _ fun h => h.startVoice v n r _ fun w hw hc =>
        h.1 w v hw busy (hc.trans cue.symm)).mono
    · exact (s.keeps_withSound _ fun h => h.startVoice v n r _ fun w hw hc =>
        absurd hc (Sound.holder_none none w hw)).mono
    · exact State.Keeps.mono (s.keeps_withSound _ fun h => by
        exact h.startVoice v n r (gain.getD r.gain) fun w hw hc => absurd hc (Sound.holder_none none w hw))
    · show s.Keeps (s.refuseNoVoice n source) _
      exact (s.keeps_withSound { s.sound with noVoice := s.sound.noVoice + 1#16 }).mono.trans
        (State.keeps_event _ _ _ _).mono

/-- A STOP keeps a voice's cue, and starts none. -/
theorem Voice.stop_keeps (v : Voice) (r : CueRecord) :
    (v.stop r).cue = v.cue ∧ ((v.stop r).busy = true → v.busy = true) := by
  unfold Voice.stop Voice.toTail Voice.toFading
  cases h : v.state <;> simp only [] <;> (repeat' split) <;> simp_all [Voice.busy]

/-- What a STOP can do (R126): it is dropped in STARTING and RESETTING; refused, with its count; or the cue's voice
answers. -/
theorem State.stopCue_cases (n : Nat) :
    (s.part.active = false ∧ s.stopCue n = (s, .none)) ∨
    (s.part.active = true ∧ s.sound.bank ≠ .ready ∧ s.stopCue n =
      (s.withSound { s.sound with noBank := s.sound.noBank + 1#16 }, .noBank)) ∨
    (s.part.active = true ∧ s.sound.bank = .ready ∧ s.sound.cue n = none ∧ s.stopCue n =
      (s.withSound { s.sound with noCue := s.sound.noCue + 1#16 }, .noCue)) ∨
    ∃ r, s.part.active = true ∧ s.sound.bank = .ready ∧ s.sound.cue n = some r ∧
      ((s.sound.holder n = none ∧ s.stopCue n = (s, .ok)) ∨
      ∃ v, s.sound.holder n = some v ∧
        s.stopCue n = (s.settleVoices (vecModify s.sound.voices v fun x => x.stop r), .ok)) := by
  unfold State.stopCue
  cases hp : s.part.active with
  | false => simp
  | true =>
    by_cases hb : s.sound.bank = .ready
    · cases hr : s.sound.cue n with
      | none => simp [hb]
      | some r =>
        refine .inr (.inr (.inr ⟨r, rfl, hb, rfl, ?_⟩))
        cases hh : s.sound.holder n with
        | none => exact .inl ⟨rfl, by simp [hb]⟩
        | some v => exact .inr ⟨v, rfl, by simp [hb]⟩
    · exact .inr (.inl ⟨rfl, hb, by simp [hb]⟩)

theorem State.keeps_stopCue (n : Nat) : s.Keeps (s.stopCue n).1 [.sound] := by
  rcases s.stopCue_cases n with ⟨-, e⟩ | ⟨-, -, e⟩ | ⟨-, -, -, e⟩ | ⟨r, -, -, -, ⟨-, e⟩ | ⟨v, -, e⟩⟩ <;> rw [e]
  · exact .refl _ _
  · exact s.keeps_withSound _
  · exact s.keeps_withSound _
  · exact .refl _ _
  · refine s.keeps_settleVoices _ fun w hw => ?_
    rw [vecModify_get] at hw ⊢
    split at hw
    · rw [if_pos ‹w = v›, ‹w = v›]
      exact ⟨(Voice.stop_keeps _ r).2 hw, (Voice.stop_keeps _ r).1⟩
    · rw [if_neg ‹¬ w = v›]
      exact ⟨hw, rfl⟩

theorem State.keeps_cueRequest (n action : Nat) (gain : Option Nat) (source : CueSource) :
    s.Keeps (s.cueRequest n action gain source).1 Component.ofCue := by
  unfold State.cueRequest
  split
  · exact s.keeps_startCue _ _ _
  · split
    · exact (s.keeps_stopCue _).mono
    · exact (s.keeps_withSound _).mono

theorem State.keeps_soundChuff (count : Half) : s.Keeps (s.soundChuff count) Component.ofCue :=
  (s.keeps_withSound _).mono.trans (.ite (fun _ => .refl _ _) fun _ => State.keeps_startCue _ _ _ _)

theorem State.keeps_soundEdge (n : Fin 32) (on : Bool) : s.Keeps (s.soundEdge n on) Component.ofCue :=
  .ite (fun _ => .ite (fun _ => .refl _ _) fun _ => s.keeps_startCue _ _ _)
    fun _ => .ite (fun _ => (s.keeps_stopCue _).mono) fun _ => .refl _ _

/-- What a change of bank touches: the engine and its readings. -/
abbrev Component.ofBank : List Component := [.sound, .store]

theorem State.keeps_writeSoundReadings : s.Keeps s.writeSoundReadings [.store] := s.keeps_writeGroup _ _ _

theorem State.keeps_changeBank (e : Sound) (h : s.sound.VoicesSound → e.VoicesSound := by exact id) :
    s.Keeps (s.changeBank e) Component.ofBank :=
  (s.keeps_withSound _ h).mono.trans (State.keeps_writeSoundReadings _).mono

theorem State.keeps_beginMount : s.Keeps s.beginMount Component.ofBank := s.keeps_changeBank _

theorem State.keeps_abandonMount : s.Keeps s.abandonMount Component.ofBank := s.keeps_changeBank _

theorem State.keeps_unmountReady : s.Keeps s.unmountReady Component.ofBank :=
  s.keeps_freeVoices.mono.trans (State.keeps_changeBank _ _)

theorem State.keeps_applyMount (mount : Bool) : s.Keeps (s.applyMount mount) Component.ofBank := by
  unfold State.applyMount
  split
  case h_1 => exact .ite (fun _ => s.keeps_beginMount) fun _ => .refl _ _
  case h_4 => exact s.keeps_abandonMount
  case h_6 => exact s.keeps_unmountReady
  case h_7 => exact .ite (fun _ => s.keeps_beginMount) fun _ => s.keeps_changeBank _
  case h_8 => exact s.keeps_changeBank _
  all_goals exact .refl _ _

/-- What the end of a mount touches. -/
abbrev Component.ofMount : List Component := [.sound, .store, .events, .eventSeq, .attention]

theorem State.keeps_failMount (why : BankFault) (record : Nat) : s.Keeps (s.failMount why record) Component.ofMount :=
  (s.keeps_changeBank _).mono.trans ((State.keeps_event _ _ _ _).mono.trans (State.keeps_raise _ _).mono)

theorem State.keeps_mountProgress : s.Keeps s.mountProgress [.sound] := by
  unfold State.mountProgress
  split
  · exact s.keeps_withSound _
  · exact .refl _ _

theorem Voice.toFading_keeps (v : Voice) : v.toFading.cue = v.cue ∧ v.toFading.busy = v.busy := by
  unfold Voice.toFading
  cases h : v.state <;> simp [Voice.busy, h] <;> rfl

theorem State.keeps_soundQuiesce : s.Keeps s.soundQuiesce Component.ofBank := by
  refine State.Keeps.trans (s.keeps_withSound _ fun ⟨unique, nodup, mem⟩ => ?_).mono
    (.ite (fun _ => State.keeps_abandonMount _) fun _ => .refl _ _)
  refine ⟨fun v w hv hw hc => ?_, nodup, fun v => ?_⟩
  · simp only [vecMap_get, (Voice.toFading_keeps _).1, (Voice.toFading_keeps _).2] at hv hw hc
    exact unique v w hv hw hc
  · simp only [vecMap_get, (Voice.toFading_keeps _).2]
    exact mem v

theorem State.keeps_soundResume : s.Keeps s.soundResume Component.ofBank :=
  .ite (fun _ => s.keeps_beginMount) fun _ => .refl _ _

/-- A voice's advance keeps its cue, and starts none. -/
theorem State.advanceVoice_keeps (v : Voice) :
    (s.advanceVoice v).cue = v.cue ∧ ((s.advanceVoice v).busy = true → v.busy = true) := by
  have fade (w : Voice) : w.fadeStep.cue = w.cue ∧ (w.fadeStep.busy = true → w.busy = true) := by
    unfold Voice.fadeStep
    split
    · split <;> simp_all [Voice.busy]
    · exact ⟨rfl, id⟩
  have ends (w : Voice) (r : CueRecord) : (w.clipEnd r).cue = w.cue := by
    unfold Voice.clipEnd Voice.toTail
    cases w.state <;> simp only [] <;> (repeat' split) <;> rfl
  unfold State.advanceVoice
  split
  · unfold Voice.advance
    split
    · exact ⟨rfl, id⟩
    · rename_i hs
      refine ⟨?_, fun _ => by simpa [Voice.busy] using hs⟩
      rw [(fade _).1]
      split
      · exact ends _ _
      · rfl
  · simp [Voice.busy]

theorem State.keeps_sampleVoices : s.Keeps s.sampleVoices [.sound] :=
  (s.keeps_settleVoices _ fun v hv => by
    rw [vecMap_get] at hv ⊢
    exact ⟨(s.advanceVoice_keeps _).2 hv, (s.advanceVoice_keeps _).1⟩).trans (State.keeps_withSound _ _)

end

/-! ### The cadence unit (chapter 5) -/

section
variable (s : State)

/-- What a chuff touches: the cadence unit, the smoke unit, the sound engine and the event of a refused START. -/
abbrev Component.ofChuff : List Component := [.cadence, .smoke, .sound, .events, .eventSeq, .attention]

theorem State.keeps_writeCadenceReadings : s.Keeps s.writeCadenceReadings [.store] :=
  (s.keeps_writeGroup _ _ _).trans (State.keeps_writeGroup _ _ _ _)

theorem State.keeps_deliverChuff : s.Keeps s.deliverChuff Component.ofChuff :=
  (s.keeps_withCadence _).mono.trans ((State.keeps_soundChuff _ _).mono.trans (State.keeps_smokeChuff _).mono)

theorem State.keeps_syntheticChuff (interval : Nat) : s.Keeps (s.syntheticChuff interval) Component.ofChuff :=
  s.keeps_deliverChuff.trans (State.keeps_withCadence _ _).mono

theorem State.keeps_recomputeInterval : s.Keeps s.recomputeInterval Component.ofChuff :=
  .ite (fun _ => (s.keeps_withCadence _).mono) fun _ => (s.keeps_withCadence _).mono.trans
    (.ite (fun _ => State.keeps_syntheticChuff _ _) fun _ => (State.keeps_withCadence _ _).mono)

theorem State.keeps_cadenceStep : s.Keeps s.cadenceStep Component.ofChuff := by
  have held := s.keeps_withCadence { s.cadence with heldV := s.drive.ramp / 16 }
  unfold State.cadenceStep
  dsimp only
  split
  · exact held.mono.trans (State.keeps_recomputeInterval _)
  · exact held.mono

theorem State.keeps_settleSource : s.Keeps s.settleSource Component.ofChuff := by
  have turned := s.keeps_withCadence { s.cadence with
    source := settledSource s.cadence.profile.mode s.cadence.cam }
  refine .ite (fun _ => .refl _ _) fun _ => ?_
  split
  · exact turned.mono.trans (State.keeps_withCadence _ _).mono
  · exact turned.mono.trans (State.keeps_recomputeInterval _)

theorem State.keeps_takeCadenceProfile (p : CadenceProfile) : s.Keeps (s.takeCadenceProfile p) Component.ofChuff :=
  (s.keeps_withCadence _).mono.trans ((State.keeps_settleSource _).trans
    (.ite (fun _ => State.keeps_recomputeInterval _) fun _ => .refl _ _))

theorem State.keeps_acceptEdge (t : Nat) : s.Keeps (s.acceptEdge t) Component.ofChuff := by
  have settled (c : Cadence) : s.Keeps (s.withCadence c).settleSource Component.ofChuff :=
    (s.keeps_withCadence c).mono.trans (State.keeps_settleSource _)
  unfold State.acceptEdge
  dsimp only
  split
  · exact (settled _).trans (State.keeps_deliverChuff _)
  · exact settled _

end

/-! ### The lamps (chapter 7) -/

section
variable (s : State)

/-- What a working-out of activity touches: the lamps and their readings. -/
abbrev Component.ofLamps : List Component := [.lamps, .store]

theorem State.keeps_formLamp (k : Fin 8) : s.Keeps (s.formLamp k) [.lamps] := s.keeps_withLamps _

theorem State.keeps_formLamps : s.Keeps s.formLamps [.lamps] := .foldl (fun s k => s.keeps_formLamp k) _ _

theorem State.keeps_writeLampReadings : s.Keeps s.writeLampReadings [.store] := s.keeps_writeGroup _ _ _

theorem State.keeps_workOutActivity : s.Keeps s.workOutActivity Component.ofLamps :=
  (s.keeps_withLamps _).mono.trans
    ((State.Keeps.ite (fun _ => .refl _ _) fun _ => (State.keeps_formLamps _).mono).trans
      (.ite (fun _ => .refl _ _) fun _ => (State.keeps_writeLampReadings _).mono))

theorem State.keeps_takeLampDirective (d : LampDirective) : s.Keeps (s.takeLampDirective d) Component.ofLamps :=
  (s.keeps_withLamps _).mono.trans (State.keeps_workOutActivity _)

theorem State.keeps_takeLampProfile (p : LampProfile) : s.Keeps (s.takeLampProfile p) [.lamps] :=
  (s.keeps_withLamps _).trans (State.keeps_formLamps _)

theorem State.keeps_lampDirection : s.Keeps s.lampDirection [.lamps] :=
  .ite (fun _ => .refl _ _) fun _ => (s.keeps_withLamps _).trans (State.keeps_formLamps _)

theorem State.keeps_lampDriveChange : s.Keeps s.lampDriveChange Component.ofLamps :=
  .ite (fun _ => .refl _ _) fun _ => (s.keeps_withLamps _).mono.trans
    ((State.keeps_formLamps _).mono.trans (State.keeps_writeLampReadings _).mono)

theorem State.keeps_lampFactor (l : Nat) : s.Keeps (s.lampFactor l) [.lamps] :=
  (s.keeps_withLamps _).trans (State.keeps_formLamps _)

/-- The taps keep the LFSR away from 0: the last 1 that leaves enters again (R107). -/
theorem lfsrStep_ne_zero (x : BitVec 16) (h : x ≠ 0#16) : lfsrStep x ≠ 0#16 := by
  intro hz
  obtain ⟨hshift, hfed⟩ := BitVec.or_eq_zero_iff.mp hz
  apply h
  have high (i : Nat) (hi : 0 < i) : x.getLsbD i = false := by
    have := congrArg (fun y => BitVec.getLsbD y (i - 1)) hshift
    simpa [BitVec.getLsbD_ushiftRight, show 1 + (i - 1) = i by omega] using this
  have low : x.getLsbD 0 = false := by
    rw [high 2 (by omega), high 3 (by omega), high 5 (by omega)] at hfed
    cases h0 : x.getLsbD 0 with
    | false => rfl
    | true => simp [h0] at hfed
  refine BitVec.eq_of_getLsbD_eq fun i hi => ?_
  rcases Nat.eq_zero_or_pos i with rfl | hi
  · simpa using low
  · simpa using high i hi

end

end Sys2Proof.Machine

/-! SUPPORT. What each operation of the drive, the part states, the functions, the radio and the power supervisor
keeps. -/

namespace Sys2Proof.Machine

-- One proof at a time: proofs that wait for one another would each hold a thread.
set_option Elab.async false

/-! ### The drive (chapters 1 and 2) -/

section
variable (s : State)

/-- What a change of R or of the drive state can touch: a jump may bring a chuff, and a chuff a refused START. -/
abbrev Component.ofDrive : List Component :=
  [.drive, .cadence, .smoke, .lamps, .sound, .store, .events, .eventSeq, .attention]

theorem State.keeps_latchBridge : s.Keeps s.latchBridge [.drive] := s.keeps_withDrive _

theorem State.keeps_refreshDuty : s.Keeps s.refreshDuty [.drive] :=
  (s.keeps_withDrive _).trans (State.keeps_latchBridge _)

theorem State.keeps_clearIntegrals : s.Keeps s.clearIntegrals [.drive] :=
  (s.keeps_withDrive _).trans (State.keeps_refreshDuty _)

theorem State.keeps_writeDriveReadings : s.Keeps s.writeDriveReadings [.store] := s.keeps_writeGroup _ _ _

theorem State.keeps_seeShorts (c : Option Channel) : s.Keeps (s.seeShorts c) [.drive] := s.keeps_withDrive _

theorem State.keeps_settleWindow : s.Keeps s.settleWindow [.drive] :=
  .ite (fun _ => .ite (fun _ => .refl _ _) fun _ => s.keeps_withDrive _) fun _ => s.keeps_withDrive _

theorem State.keeps_closeWindowEarly : s.Keeps s.closeWindowEarly [.drive] :=
  .ite (fun _ => .refl _ _) fun _ =>
    (s.keeps_withDrive _).trans ((State.keeps_latchBridge _).trans (State.keeps_settleWindow _))

theorem State.keeps_rampMoved : s.Keeps s.rampMoved Component.ofDrive :=
  s.keeps_refreshDuty.mono.trans (State.keeps_cadenceStep _).mono

theorem State.keeps_zeroRamp : s.Keeps s.zeroRamp Component.ofDrive :=
  (s.keeps_withDrive _).mono.trans (State.keeps_rampMoved _)

theorem State.keeps_jumpRamp : s.Keeps s.jumpRamp Component.ofDrive :=
  (s.keeps_withDrive _).mono.trans (State.keeps_rampMoved _)

theorem State.keeps_followTarget : s.Keeps s.followTarget Component.ofDrive :=
  .ite (fun _ => .ite (fun _ => (s.keeps_withDrive _).mono) fun _ => s.keeps_jumpRamp)
    fun _ => .ite (fun _ => .refl _ _) fun _ => (s.keeps_withDrive _).mono

theorem State.keeps_setDirection (dir : Direction) : s.Keeps (s.setDirection dir) [.drive, .lamps] :=
  .ite (fun _ => .refl _ _) fun _ => (s.keeps_withDrive _).mono.trans
    ((State.keeps_clearIntegrals _).mono.trans (State.keeps_lampDirection _).mono)

/-- What a change of drive state touches, as long as R stays. -/
abbrev Component.ofDriveState : List Component := [.drive, .smoke, .lamps, .store, .attention]

theorem State.keeps_enterDriveState (new : DriveState) (asserting : Option Channel) :
    s.Keeps (s.enterDriveState new asserting) Component.ofDriveState := by
  unfold State.enterDriveState
  refine .ite (fun _ => .refl _ _) fun _ => ?_
  exact State.Keeps.trans (s.keeps_withDrive _).mono ((State.keeps_latchBridge _).mono.trans
    ((State.keeps_settleWindow _).mono.trans
    ((State.Keeps.ite (fun _ => (State.keeps_closeWindowEarly _).mono) fun _ => .refl _ _).trans
    ((State.Keeps.ite (fun _ => (State.keeps_raise _ _).mono) fun _ => .refl _ _).trans
    ((State.keeps_smokeDriveChange _ _).mono.trans ((State.keeps_lampDriveChange _).mono.trans
    ((State.keeps_seeShorts _ _).mono.trans (State.keeps_writeDriveReadings _).mono)))))))

theorem State.keeps_reachedZero : s.Keeps s.reachedZero Component.ofDriveState := by
  unfold State.reachedZero
  refine .ite (fun _ => .refl _ _) fun _ => ?_
  split
  · exact (s.keeps_setDirection _).mono.trans (State.keeps_enterDriveState _ _ _)
  · exact .ite (fun _ => s.keeps_enterDriveState _ _) fun _ => .refl _ _
  all_goals exact .refl _ _

theorem State.keeps_settleDrive : s.Keeps s.settleDrive Component.ofDrive :=
  s.keeps_followTarget.trans ((State.keeps_settleWindow _).mono.trans ((State.keeps_reachedZero _).mono.trans
    ((State.keeps_followTarget _).trans (State.keeps_settleWindow _).mono)))

theorem State.keeps_writeTarget (m : Nat) (dir : Direction) (src : Source) :
    s.Keeps (s.writeTarget m dir src) Component.ofDrive := by
  unfold State.writeTarget
  dsimp only
  split
  · exact .ite (fun _ => (s.keeps_withDrive _).mono.trans ((State.keeps_setDirection _ _).mono.trans
      ((State.keeps_enterDriveState _ _ _).mono.trans (State.keeps_settleDrive _)))) fun _ => .refl _ _
  · exact .ite (fun _ => (s.keeps_withDrive _).mono.trans ((State.keeps_withDrive _ _).mono.trans
      ((State.keeps_setDirection _ _).mono.trans ((State.keeps_enterDriveState _ _ _).mono.trans
        (State.keeps_settleDrive _))))) fun _ => (s.keeps_withDrive _).mono
  · exact (s.keeps_withDrive _).mono
  · exact (s.keeps_withDrive _).mono.trans ((State.keeps_setDirection _ _).mono.trans
      ((State.Keeps.ite (fun _ => .refl _ _) fun _ => (State.keeps_enterDriveState _ _ _).mono).trans
        (State.keeps_settleDrive _)))
  · exact (s.keeps_withDrive _).mono.trans ((State.Keeps.ite (fun _ => .refl _ _) fun _ =>
      .ite (fun _ => (State.keeps_setDirection _ _).mono) fun _ => (State.keeps_enterDriveState _ _ _).mono).trans
        (State.keeps_settleDrive _))
  · exact (s.keeps_withDrive _).mono.trans ((State.Keeps.ite
      (fun _ => (State.keeps_enterDriveState _ _ _).mono) fun _ => .refl _ _).trans (State.keeps_settleDrive _))

theorem State.keeps_halt (source : Source) : s.Keeps (s.halt source) Component.ofDrive := by
  unfold State.halt
  split
  iterate 2 exact .refl _ _
  all_goals
    exact State.Keeps.trans (s.keeps_withDrive _).mono ((State.keeps_zeroRamp _).trans
      ((State.keeps_clearIntegrals _).mono.trans ((State.keeps_enterDriveState _ _ _).mono.trans
        ((State.keeps_event _ _ _ _).mono.trans (State.keeps_settleDrive _)))))

theorem State.keeps_lockoutEvents (subject : Byte) (detail : Half) (order : Nat) :
    s.Keeps (s.lockoutEvents subject detail order) Component.ofEvent :=
  .foldl (fun s _ => s.keeps_event _ _ _) _ _

theorem State.keeps_takeTrip (c : Channel) (order : Nat) : s.Keeps (s.takeTrip c order) Component.ofDrive := by
  unfold State.takeTrip
  split
  iterate 3 exact .refl _ _
  all_goals
    refine State.Keeps.trans (s.keeps_withDrive { s.drive with tripCount := s.drive.tripCount + 1 }).mono
      ((State.keeps_zeroRamp _).trans ((State.keeps_clearIntegrals _).mono.trans (.ite (fun _ => ?_) fun _ => ?_)))
    · exact (State.keeps_withDrive _ _).mono.trans ((State.keeps_enterDriveState _ _ _).mono.trans
        ((State.keeps_event _ _ _ _).mono.trans (State.keeps_settleDrive _)))
    · exact (State.keeps_enterDriveState _ _ _).mono.trans
        ((State.keeps_lockoutEvents _ _ _ _).mono.trans (State.keeps_settleDrive _))

theorem State.keeps_changeLevel (new : Level) : s.Keeps (s.changeLevel new) Component.ofDrive :=
  (s.keeps_withDrive _).mono.trans ((State.Keeps.ite
    (fun _ => (State.keeps_zeroRamp _).trans
      ((State.keeps_clearIntegrals _).mono.trans (State.keeps_closeWindowEarly _).mono))
    fun _ => (State.keeps_refreshDuty _).mono).trans (State.keeps_settleDrive _))

theorem State.keeps_recomputeProtection : s.Keeps s.recomputeProtection Component.ofDrive :=
  (s.keeps_withDrive _).mono.trans (.ite (fun _ => .refl _ _) fun _ => State.keeps_changeLevel _ _)

theorem State.keeps_drivePower (entersSpent : Bool) : s.Keeps (s.drivePower entersSpent) Component.ofDrive :=
  (State.Keeps.ite (fun _ => s.keeps_zeroRamp.trans (State.keeps_closeWindowEarly _).mono)
    fun _ => s.keeps_refreshDuty.mono).trans (State.keeps_settleDrive _)

theorem State.keeps_driveQuiesce : s.Keeps s.driveQuiesce Component.ofDrive :=
  s.keeps_closeWindowEarly.mono.trans (State.keeps_settleDrive _)

theorem State.keeps_coastForced : s.Keeps s.coastForced [.drive] :=
  (s.keeps_withDrive _).trans (State.keeps_latchBridge _)

theorem State.keeps_driveForce : s.Keeps s.driveForce Component.ofDrive :=
  s.keeps_coastForced.mono.trans ((State.keeps_zeroRamp _).trans
    ((State.keeps_clearIntegrals _).mono.trans (State.keeps_settleDrive _)))

theorem State.keeps_endForce : s.Keeps s.endForce [.drive] := s.keeps_withDrive _

theorem State.keeps_driveResume : s.Keeps s.driveResume Component.ofDrive := by
  unfold State.driveResume
  dsimp only
  split
  · exact (s.keeps_withDrive _).mono.trans ((State.keeps_setDirection _ _).mono.trans
      ((State.keeps_enterDriveState _ _ _).mono.trans (State.keeps_settleDrive _)))
  all_goals exact s.keeps_writeTarget _ _ _

theorem State.keeps_takeSpeedTable (p : SpeedTable) : s.Keeps (s.takeSpeedTable p) [.drive] := s.keeps_withDrive _

theorem State.keeps_takeDriveDirective (d : DriveDirective) :
    s.Keeps (s.takeDriveDirective d) Component.ofDrive :=
  (s.keeps_withDrive _).mono.trans (State.keeps_writeTarget _ _ _ _)

theorem State.keeps_takeDriveProfile (p : DriveProfile) : s.Keeps (s.takeDriveProfile p) Component.ofDrive :=
  (s.keeps_withDrive _).mono.trans ((State.keeps_refreshDuty _).mono.trans
    ((State.Keeps.ite (fun _ => .refl _ _) fun _ => (State.keeps_closeWindowEarly _).mono).trans
      ((State.Keeps.ite (fun _ => State.keeps_jumpRamp _) fun _ => .refl _ _).trans (State.keeps_settleDrive _))))

theorem State.keeps_completeWindow : s.Keeps s.completeWindow [.drive] :=
  (s.keeps_withDrive _).trans ((State.keeps_withDrive _ _).trans
    ((State.keeps_refreshDuty _).trans (State.keeps_settleWindow _)))

theorem State.keeps_deliverEmf (c : Channel) (w value : Nat) : s.Keeps (s.deliverEmf c w value) [.drive] :=
  .ite (fun _ => (s.keeps_withDrive _).trans (.ite (fun _ => State.keeps_completeWindow _) fun _ => .refl _ _))
    fun _ => .refl _ _

end

/-! ### The part states (chapter 10) -/

section
variable (s : State)

/-- What the end of a quiesce can touch: everything but the flash, the draws and the queue. -/
abbrev Component.ofReset : List Component :=
  [.time, .part, .resetMark, .deadline, .acks, .command, .commandResult, .port, .store, .cueSlots, .events, .eventSeq,
    .inbound, .attention, .adoption, .drive, .sequencer, .power, .cadence, .smoke, .lamps, .sound, .radio, .functions]

theorem State.keeps_radioQuiesce : s.Keeps s.radioQuiesce [.radio] := s.keeps_withRadio _

theorem State.keeps_sequencerQuiesce : s.Keeps s.sequencerQuiesce [.sequencer] := s.keeps_withSequencer _

theorem State.keeps_adoptionQuiesce : s.Keeps s.adoptionQuiesce [.adoption] := s.keeps_withAdoption _

theorem State.attnLevel_of_none_pending (h : ∀ n : Fin 12, s.attention.pending[n] = false) :
    s.attnLevel = false := by
  simp only [State.attnLevel, List.any_eq_false]
  intro n _
  rw [h n]
  simp

/-- The lists of a state without records or voices. -/
theorem reset_lists_sound : State.reset.EventListSound ∧ State.reset.SendersSound ∧ State.reset.InboundSound ∧
    State.reset.NudgesSound ∧ State.reset.sound.VoicesSound := by
  unfold Sound.VoicesSound
  refine ⟨?_, ?_, ?_, ?_, ?_⟩ <;> decide +kernel

theorem State.keeps_softReset : s.Keeps s.softReset Component.ofReset where
  frame c hc := by
    cases c
    case flash | draws | pending => rfl
    all_goals simp at hc
  memory h := ⟨resetStore_wellFormed _ h.1, h.2⟩
  events _ := reset_lists_sound.1
  senders _ := reset_lists_sound.2.1
  inbound _ := reset_lists_sound.2.2.1
  nudges _ := reset_lists_sound.2.2.2.1
  voices _ := reset_lists_sound.2.2.2.2
  attn _ := (s.softReset.attnLevel_of_none_pending fun n => by
    show (Vector.replicate 12 false)[n] = false
    simp).symm
  heater _ := Smoke.guarded_of_off rfl rfl rfl
  lfsr _ := by
    show (0xACE1#16 : BitVec 16) ≠ 0#16
    decide

theorem State.keeps_enterQuiet : s.Keeps s.enterQuiet Component.ofReset :=
  (s.keeps_withPart _).mono.trans ((State.keeps_withDeadline _ _).mono.trans ((State.keeps_endForce _).mono.trans
    ((State.keeps_withAcks _ _).mono.trans ((State.keeps_latchBridge _).mono.trans
      ((State.keeps_rereadFan _).mono.trans ((State.keeps_formLamps _).mono.trans (State.keeps_raise _ _).mono))))))

theorem State.keeps_endQuiesce : s.Keeps s.endQuiesce Component.ofReset :=
  .ite (fun _ => s.keeps_softReset) fun _ => s.keeps_enterQuiet

theorem State.keeps_settleQuiesce : s.Keeps s.settleQuiesce Component.ofReset :=
  .ite (fun _ => (s.keeps_withAcks _).mono.trans (.ite (fun _ => State.keeps_endQuiesce _) fun _ => .refl _ _))
    fun _ => .refl _ _

theorem State.keeps_enterQuiescing (mark : Bool) : s.Keeps (s.enterQuiescing mark) Component.ofReset :=
  State.Keeps.trans (s.keeps_withPart _).mono ((State.keeps_withResetMark _ _).mono.trans
    ((State.keeps_withDeadline _ _).mono.trans ((State.keeps_withAcks _ _).mono.trans
    ((State.keeps_raise _ _).mono.trans ((State.keeps_driveQuiesce _).mono.trans
    ((State.keeps_soundQuiesce _).mono.trans ((State.keeps_smokeQuiesce _).mono.trans
    ((State.keeps_sequencerQuiesce _).mono.trans ((State.keeps_radioQuiesce _).mono.trans
    ((State.keeps_formLamps _).mono.trans ((State.keeps_adoptionQuiesce _).mono.trans
      (State.keeps_settleQuiesce _))))))))))))

end

/-! ### The function table (section 9.6) -/

section
variable (s : State)

/-- What a hand-off of flags touches: the lamps, the smoke unit and the sound engine, with readings and events. -/
abbrev Component.ofFlags : List Component := [.lamps, .smoke, .sound, .store, .events, .eventSeq, .attention]

theorem State.keeps_handFlags (changed : List (Fin 32)) : s.Keeps (s.handFlags changed) Component.ofFlags :=
  s.keeps_workOutActivity.mono.trans ((State.keeps_reevaluateSmoke _).mono.trans
    (State.Keeps.foldl (fun s n => (s.keeps_soundEdge n _).mono) _ _))

/-- What a write of function flags touches. -/
abbrev Component.ofFunctions : List Component :=
  [.functions, .lamps, .smoke, .sound, .store, .events, .eventSeq, .attention]

theorem State.keeps_writeFunctions (write : Fin 32 → Option Bool) (source : Source) :
    s.Keeps (s.writeFunctions write source) Component.ofFunctions :=
  (s.keeps_withFunctions _).mono.trans (.ite (fun _ => .refl _ _) fun _ => (State.keeps_handFlags _ _).mono)

theorem State.keeps_takeFunctionMap (m : FunctionMap) : s.Keeps (s.takeFunctionMap m) Component.ofFunctions :=
  (s.keeps_withFunctions _).mono.trans
    ((State.keeps_workOutActivity _).mono.trans (State.keeps_reevaluateSmoke _).mono)

theorem State.keeps_takeFunctionDirective (d : FunctionDirective) :
    s.Keeps (s.takeFunctionDirective d) Component.ofFunctions :=
  (s.keeps_withFunctions _).mono.trans (State.keeps_writeFunctions _ _ _)

end

/-! ### The radio receiver (chapter 9) -/

section
variable (s : State)

theorem State.keeps_writeRadioReadings : s.Keeps s.writeRadioReadings [.store] := s.keeps_writeGroup _ _ _

theorem State.keeps_finderHunts : s.Keeps s.finderHunts [.radio] := s.keeps_withRadio _

theorem State.keeps_finderByte (b : Byte) : s.Keeps (s.finderByte b) [.radio] := by
  have goesOn (x : FinderState) (f : Frame) : s.Keeps (s.finderGoesOn x f) [.radio] := s.keeps_withRadio _
  unfold State.finderByte
  dsimp only
  split
  · exact .ite (fun _ => goesOn _ _) fun _ => .refl _ _
  · exact .ite (fun _ => goesOn _ _) fun _ => .ite (fun _ => goesOn _ _) fun _ => s.keeps_finderHunts
  · exact .ite (fun _ => goesOn _ _) fun _ => s.keeps_finderHunts
  · exact goesOn _ _
  · exact .ite (fun _ => goesOn _ _) fun _ => s.keeps_withRadio _

theorem State.keeps_finderError : s.Keeps s.finderError [.radio] := by
  unfold State.finderError
  split
  · exact .refl _ _
  all_goals exact s.keeps_finderHunts

theorem State.keeps_listen : s.Keeps s.listen [.radio] := s.keeps_withRadio _

/-- What an end of silence can touch: the receiver, and the drive through the protection level. -/
abbrev Component.ofSilence : List Component := .radio :: Component.ofDrive

theorem State.keeps_endSilence (subject : Byte) : s.Keeps (s.endSilence subject) Component.ofSilence :=
  (s.keeps_withRadio _).mono.trans ((State.keeps_event _ _ _ _).mono.trans
    ((State.keeps_raise _ _).mono.trans (State.keeps_recomputeProtection _).mono))

theorem State.keeps_frameHeard : s.Keeps s.frameHeard Component.ofSilence := by
  unfold State.frameHeard
  split
  · exact (s.keeps_withRadio { s.radio with heard := true }).mono.trans
      (.ite (fun _ => (State.keeps_listen _).mono.trans (State.keeps_writeRadioReadings _).mono) fun _ => .refl _ _)
  · exact s.keeps_listen.mono
  · exact s.keeps_listen.mono.trans ((State.keeps_endSilence _ _).trans (State.keeps_writeRadioReadings _).mono)

theorem State.keeps_takeRadioProfile (p : RadioProfile) : s.Keeps (s.takeRadioProfile p) Component.ofSilence := by
  have taken := s.keeps_withRadio { s.radio with profile := p }
  unfold State.takeRadioProfile
  dsimp only
  split
  · exact .ite (fun _ => taken.mono.trans ((State.keeps_listen _).mono.trans (State.keeps_writeRadioReadings _).mono))
      fun _ => taken.mono
  · exact .ite (fun _ => taken.mono.trans
      ((State.keeps_withRadio _ _).mono.trans (State.keeps_writeRadioReadings _).mono)) fun _ => taken.mono
  · exact .ite (fun _ => taken.mono.trans ((State.keeps_withRadio _ _).mono.trans
      ((State.keeps_endSilence _ _).trans (State.keeps_writeRadioReadings _).mono)))
      fun _ => .ite (fun _ => taken.mono.trans (State.keeps_recomputeProtection _).mono) fun _ => taken.mono

theorem State.keeps_radioResume : s.Keeps s.radioResume [.radio] := by
  unfold State.radioResume
  split
  · exact s.keeps_listen
  all_goals exact .refl _ _

/-- The table of senders after an addressed frame stays sound (R143). -/
theorem Radio.sendersAfter_sound (r : Radio) (h : Heard) (time : Nat)
    (hs : r.senders.length ≤ 8 ∧ (r.senders.map (·.sender)).Nodup) :
    (r.sendersAfter h time).length ≤ 8 ∧ ((r.sendersAfter h time).map (·.sender)).Nodup := by
  obtain ⟨len, nodup⟩ := hs
  have others : ∀ l : List Sender, l.Sublist (r.senders.filter fun e => e.sender != h.sender) →
      ((l ++ [(⟨h.sender, h.counter, time⟩ : Sender)]).map (·.sender)).Nodup := by
    intro l hl
    rw [List.map_append, List.nodup_append]
    refine ⟨nodup.sublist ((hl.trans List.filter_sublist).map _), by simp, ?_⟩
    intro a ha b hb
    obtain ⟨e, he, rfl⟩ := List.mem_map.mp ha
    have := (List.mem_filter.mp (hl.subset he)).2
    simp only [List.map_cons, List.map_nil, List.mem_singleton] at hb
    simpa [hb] using this
  have shorter : (r.senders.filter fun e => e.sender != h.sender).length ≤ r.senders.length :=
    List.length_filter_le _ _
  simp only [Radio.sendersAfter]
  split
  · exact ⟨by simp; omega, others _ (List.drop_sublist _ _)⟩
  · exact ⟨by simp; omega, others _ (List.Sublist.refl _)⟩

theorem State.keeps_withSenders (h : Heard) :
    s.Keeps (s.withRadio { s.radio with senders := s.radio.sendersAfter h s.time }) [.radio] :=
  ⟨s.sameExcept_withRadio _, id, id, s.radio.sendersAfter_sound h s.time, id, id, id, id, id, id⟩

/-- The state in which an addressed frame with a good CRC meets the duplicate check: it is counted good, and silence
has acted unless it came by broadcast (R142, R149). -/
def State.listened (s : State) (via : Via) : State :=
  let u := s.withRadio { s.radio with framesGood := s.radio.framesGood + 1#16 }
  if via = .broadcast then u else u.frameHeard

/-- The state an addressed frame leaves, its sender's entry at the back of the table (R143). -/
def State.admitted (s : State) (f : Frame) (via : Via) : State :=
  (s.listened via).withRadio
    { (s.listened via).radio with senders := (s.listened via).radio.sendersAfter (f.heard via) (s.listened via).time }

/-- The judgement of a frame, by the step that ends it (R141). -/
theorem State.judge_cases (f : Frame) :
    (f.crcMatches = false ∧
      s.judge f = (s.withRadio { s.radio with crcBad := s.radio.crcBad + 1#16 }, none)) ∨
    (f.crcMatches = true ∧ s.part ≠ .run ∧ s.judge f = (s.withRadio { s.radio with
      framesGood := s.radio.framesGood + 1#16, heldOff := s.radio.heldOff + 1#16 }, none)) ∨
    (f.crcMatches = true ∧ s.part = .run ∧ s.radio.profile.addressedAs f = none ∧ s.judge f = (s.withRadio { s.radio with
      framesGood := s.radio.framesGood + 1#16, notAddressed := s.radio.notAddressed + 1#16 }, none)) ∨
    ∃ via, f.crcMatches = true ∧ s.part = .run ∧ s.radio.profile.addressedAs f = some via ∧
      (((s.listened via).radio.isDuplicate (f.heard via) = true ∧ s.judge f = ((s.admitted f via).withRadio
          { (s.admitted f via).radio with duplicates := s.radio.duplicates + 1#16 }, none)) ∨
        ((s.listened via).radio.isDuplicate (f.heard via) = false ∧
          s.judge f = (s.admitted f via, some (f.heard via)))) := by
  cases hc : f.crcMatches with
  | false => exact .inl ⟨rfl, by simp [State.judge, hc]⟩
  | true =>
    by_cases hp : s.part = .run
    · cases ha : s.radio.profile.addressedAs f with
      | none => exact .inr (.inr (.inl ⟨rfl, hp, rfl, by simp [State.judge, hc, hp, ha]; rfl⟩))
      | some via =>
        refine .inr (.inr (.inr ⟨via, rfl, hp, rfl, ?_⟩))
        cases hd : (s.listened via).radio.isDuplicate (f.heard via) with
        | true =>
          refine .inl ⟨rfl, ?_⟩
          unfold State.judge
          rw [if_neg (by simp [hc]), if_neg (by simpa using hp)]
          simp only [ha]
          exact if_pos hd
        | false =>
          refine .inr ⟨rfl, ?_⟩
          unfold State.judge
          rw [if_neg (by simp [hc]), if_neg (by simpa using hp)]
          simp only [ha]
          exact if_neg (ne_true_of_eq_false hd)
    · exact .inr (.inl ⟨rfl, hp, by simp [State.judge, hc, hp]; rfl⟩)

theorem State.keeps_listened (via : Via) : s.Keeps (s.listened via) Component.ofSilence :=
  (s.keeps_withRadio _).mono.trans (.ite (fun _ => .refl _ _) fun _ => State.keeps_frameHeard _)

theorem State.keeps_admitted (f : Frame) (via : Via) : s.Keeps (s.admitted f via) Component.ofSilence :=
  (s.keeps_listened via).trans (State.keeps_withSenders _ _).mono

theorem State.keeps_judge (f : Frame) : s.Keeps (s.judge f).1 Component.ofSilence := by
  rcases s.judge_cases f with ⟨-, e⟩ | ⟨-, -, e⟩ | ⟨-, -, -, e⟩ | ⟨via, -, -, -, ⟨-, e⟩ | ⟨-, e⟩⟩ <;> rw [e]
  · exact (s.keeps_withRadio { s.radio with crcBad := s.radio.crcBad + 1#16 }).mono
  · exact (s.keeps_withRadio { s.radio with
      framesGood := s.radio.framesGood + 1#16, heldOff := s.radio.heldOff + 1#16 }).mono
  · exact (s.keeps_withRadio { s.radio with
      framesGood := s.radio.framesGood + 1#16, notAddressed := s.radio.notAddressed + 1#16 }).mono
  · exact (s.keeps_admitted f via).trans (State.keeps_withRadio _ _).mono
  · exact s.keeps_admitted f via

theorem State.keeps_refuseCommand : s.Keeps s.refuseCommand [.radio] := s.keeps_withRadio _

/-- What a completed frame can touch: the receiver, the drive, the functions and the inbound list. -/
abbrev Component.ofFrame : List Component :=
  [.radio, .functions, .inbound, .drive, .cadence, .smoke, .lamps, .sound, .store, .events, .eventSeq, .attention]

theorem State.keeps_takeFrame (kind : Nat → Bool) (act : State → Heard → State)
    (h : ∀ (t : State) (x : Heard), t.Keeps (act t x) Component.ofFrame) :
    s.Keeps (s.takeFrame kind act) Component.ofFrame := by
  unfold State.takeFrame
  split
  · exact .refl _ _
  · rename_i f _
    refine .ite (fun _ => ?_) fun _ => .refl _ _
    have judged : s.Keeps ((s.withRadio { s.radio with completed := none }).judge f).1 Component.ofFrame :=
      (s.keeps_withRadio _).mono.trans (State.keeps_judge _ f).mono
    split
    · rename_i e
      rw [e] at judged
      exact judged.trans (h _ _)
    · rename_i e
      rwa [e] at judged

/-- A record that takes a seq no FILLED record has. -/
theorem State.inboundSound_fill (i : Fin 8) (r : InboundRecord)
    (hr : ∀ j : Fin 8, s.inbound[j].filled = true → s.inbound[j].seq ≠ r.seq) (h : s.InboundSound) :
    (s.withInbound (s.inbound.set i r)).InboundSound := by
  intro a b ha hb hab
  simp only [State.withInbound_inbound, Vector.get_set_fin] at ha hb hab
  split at ha <;> split at hb
  · exact ‹a = i›.trans ‹b = i›.symm
  · simp only [if_pos ‹a = i›, if_neg ‹¬ b = i›] at hab
    exact absurd hab.symm (hr b hb)
  · simp only [if_neg ‹¬ a = i›, if_pos ‹b = i›] at hab
    exact absurd hab (hr a ha)
  · simp only [if_neg ‹¬ a = i›, if_neg ‹¬ b = i›] at hab
    exact h a b ha hb hab

theorem State.keeps_withInbound (x : Vector InboundRecord 8) (h : s.InboundSound → (s.withInbound x).InboundSound) :
    s.Keeps (s.withInbound x) [.inbound] :=
  ⟨s.sameExcept_withInbound x, id, id, id, h, id, id, id, id, id⟩

/-- Where there is room, the record is FREE and no FILLED record has the next seq. -/
theorem State.inboundRoom_some {s : State} {i : Fin 8} (h : s.inboundRoom = some i) :
    s.inbound[i].filled = false ∧
      ∀ j : Fin 8, s.inbound[j].filled = true → s.inbound[j].seq ≠ s.radio.inboundSeq + 1#8 := by
  unfold State.inboundRoom at h
  split at h
  · cases h
  · rename_i none
    refine ⟨by simpa using List.find?_some h, fun j hj hs => none ?_⟩
    exact List.any_eq_true.mpr ⟨s.inbound[j], by simp, by simp [-Fin.getElem_fin, hj, hs]⟩

/-- What a forward touches. -/
abbrev Component.ofForward : List Component := [.radio, .inbound, .events, .eventSeq, .attention]

theorem State.keeps_forward (h : Heard) : s.Keeps (s.forward h) Component.ofForward := by
  unfold State.forward
  split
  · rename_i i room
    exact (s.keeps_withInbound _ (s.inboundSound_fill i _ (State.inboundRoom_some room).2)).mono.trans
      ((State.keeps_withRadio _ _).mono.trans (State.keeps_raise _ _).mono)
  · exact (s.keeps_withRadio _).mono.trans ((State.keeps_event _ _ _ _).mono.trans (State.keeps_raise _ _).mono)

theorem State.keeps_freeInboundRecord (n : Fin 8) : s.Keeps (s.freeInboundRecord n) [.inbound] := by
  refine s.keeps_withInbound _ fun h a b ha hb hab => ?_
  simp only [State.withInbound_inbound, vecModify_get] at ha hb hab
  split at ha
  · cases ha
  · split at hb
    · cases hb
    · simp only [if_neg ‹¬ a = n›, if_neg ‹¬ b = n›] at hab
      exact h a b ha hb hab

theorem State.keeps_route (routing : Routing) (h : Heard) (apply : State → State) (order : Nat)
    (ha : ∀ t : State, t.Keeps (apply t) Component.ofFrame) :
    s.Keeps (s.route routing h apply order) Component.ofFrame := by
  refine State.Keeps.foldl_apply _ (fun f hf t => ?_) s
  have hf := (arrange_perm _ _).mem_iff.mp hf
  rcases List.mem_append.mp hf with hf | hf
  · split at hf
    · rw [List.mem_singleton.mp hf]
      exact ha t
    · cases hf
  · split at hf
    · rw [List.mem_singleton.mp hf]
      exact (t.keeps_forward h).mono
    · cases hf

theorem State.keeps_applySpeed (h : Heard) (step : Nat) (dir : Direction) :
    s.Keeps (s.applySpeed h step dir) Component.ofDrive :=
  .ite (fun _ => s.keeps_writeTarget _ _ _) fun _ => .refl _ _

theorem State.keeps_takeSpeed (h : Heard) (order : Nat) : s.Keeps (s.takeSpeed h order) Component.ofFrame := by
  unfold State.takeSpeed
  refine .ite (fun _ => s.keeps_refuseCommand.mono) fun _ => ?_
  split
  · exact s.keeps_refuseCommand.mono
  · exact s.keeps_route _ _ _ _ fun t => (t.keeps_applySpeed _ _ _).mono

theorem State.keeps_takeFunction (h : Heard) (order : Nat) : s.Keeps (s.takeFunction h order) Component.ofFrame := by
  unfold State.takeFunction
  refine .ite (fun _ => s.keeps_refuseCommand.mono) fun _ => ?_
  split
  · exact s.keeps_refuseCommand.mono
  · exact s.keeps_route _ _ _ _ fun t => (t.keeps_writeFunctions _ _).mono

theorem State.keeps_takeFunctionGroup (h : Heard) (order : Nat) :
    s.Keeps (s.takeFunctionGroup h order) Component.ofFrame :=
  .ite (fun _ => s.keeps_refuseCommand.mono)
    fun _ => s.keeps_route _ _ _ _ fun t => (t.keeps_writeFunctions _ _).mono

theorem State.keeps_takeCue (h : Heard) (order : Nat) : s.Keeps (s.takeCue h order) Component.ofFrame :=
  .ite (fun _ => s.keeps_refuseCommand.mono)
    fun _ => s.keeps_route _ _ _ _ fun t => (t.keeps_cueRequest _ _ _ _).mono

theorem State.keeps_takeVolume (h : Heard) : s.Keeps (s.takeVolume h) Component.ofFrame :=
  .ite (fun _ => s.keeps_refuseCommand.mono)
    fun _ => s.keeps_route _ _ _ _ fun t => (t.keeps_withSound _).mono

end

/-! ### The power supervisor (chapter 4) -/

section
variable (s : State)

theorem State.keeps_smokePower : s.Keeps s.smokePower Component.ofSmoke := s.keeps_setHolds _ _

theorem State.keeps_lampPower : s.Keeps s.lampPower [.lamps] := s.keeps_lampFactor _

theorem State.keeps_soundPower : s.Keeps s.soundPower [.sound] := s.keeps_withSound _

theorem State.keeps_publishPower (entersSpent : Bool) (order : Nat) :
    s.Keeps (s.publishPower entersSpent order) Component.ofDrive := by
  refine State.Keeps.foldl_apply _ (fun f hf t => ?_) s
  have hf := (arrange_perm _ _).mem_iff.mp hf
  simp only [List.mem_cons, List.not_mem_nil, or_false] at hf
  rcases hf with rfl | rfl | rfl | rfl
  · exact t.keeps_drivePower _
  · exact t.keeps_smokePower.mono
  · exact t.keeps_lampPower.mono
  · exact t.keeps_soundPower.mono

theorem State.keeps_writePowerReadings : s.Keeps s.writePowerReadings [.store] := s.keeps_writeGroup _ _ _

theorem State.keeps_announcePower (kind : EventKind) (subject : Byte) (detail : Nat) (entersSpent : Bool)
    (order : Nat) : s.Keeps (s.announcePower kind subject detail entersSpent order) Component.ofDrive :=
  (s.keeps_event _ _ _).mono.trans ((State.keeps_raise _ _).mono.trans
    ((State.keeps_writePowerReadings _).mono.trans (State.keeps_publishPower _ _ _)))

/-- What a change of the power state touches. -/
abbrev Component.ofPower : List Component := .power :: Component.ofDrive

theorem State.keeps_enterSpent (cause : SpentCause) (order : Nat) :
    s.Keeps (s.enterSpent cause order) Component.ofPower :=
  (s.keeps_withPower _).mono.trans (State.keeps_announcePower _ _ _ _ _ _).mono

theorem State.keeps_enterBridging (order : Nat) : s.Keeps (s.enterBridging order) Component.ofPower :=
  (s.keeps_withPower _).mono.trans (State.keeps_announcePower _ _ _ _ _ _).mono

theorem State.keeps_leaveSupplied (order : Nat) : s.Keeps (s.leaveSupplied order) Component.ofPower :=
  (s.keeps_withPower _).mono.trans
    (.ite (fun _ => State.keeps_enterBridging _ _) fun _ => State.keeps_enterSpent _ _ _)

theorem State.keeps_returnSupplied (subject : Byte) (order : Nat) :
    s.Keeps (s.returnSupplied subject order) Component.ofPower :=
  (s.keeps_withPower _).mono.trans (State.keeps_announcePower _ _ _ _ _ _).mono

theorem State.keeps_powerContributions (order : Nat) : s.Keeps (s.powerContributions order) Component.ofPower := by
  have taken (x : Power) := s.keeps_withPower x
  unfold State.powerContributions
  dsimp only
  split
  · exact (taken _).mono.trans (.ite (fun _ => State.keeps_leaveSupplied _ _) fun _ => .refl _ _)
  · exact (taken _).mono.trans (.ite (fun _ => State.keeps_returnSupplied _ _ _)
      fun _ => .ite (fun _ => State.keeps_enterSpent _ _ _) fun _ => .refl _ _)
  · exact (taken _).mono.trans (.ite (fun _ => State.keeps_returnSupplied _ _ _) fun _ => .refl _ _)

theorem State.keeps_storeValue (value : Nat) : s.Keeps (s.storeValue value) [.power] :=
  .ite (fun _ => s.keeps_withPower _) fun _ => .refl _ _

theorem State.keeps_takePowerProfile (p : PowerProfile) (order : Nat) :
    s.Keeps (s.takePowerProfile p order) Component.ofPower :=
  (s.keeps_withPower _).mono.trans (.ite (fun _ => (State.keeps_publishPower _ _ _).mono) fun _ => .refl _ _)

end

end Sys2Proof.Machine

/-! SUPPORT. What the sequencer, the adoption unit, the host port and every command keep; the statements about what every
step keeps of the memories, the lists, ATTN, the heater and the LFSR. -/

namespace Sys2Proof.Machine

-- One proof at a time: proofs that wait for one another would each hold a thread.
set_option Elab.async false

/-! ### The measurement sequencer (chapter 3) -/

section
variable (s : State)

theorem State.keeps_writeSequencerReadings : s.Keeps s.writeSequencerReadings [.store] := s.keeps_writeGroup _ _ _

theorem State.keeps_alarmEvent (k : SlotIx) (x y : Slot) (v : Nat) :
    s.Keeps (s.alarmEvent k x y v) Component.ofEvent :=
  .ite (fun _ => (s.keeps_event _ _ _).trans (State.keeps_raise _ _).mono)
    fun _ => .ite (fun _ => (s.keeps_event _ _ _).trans (State.keeps_raise _ _).mono) fun _ => .refl _ _

theorem State.keeps_smokeAlarms : s.Keeps s.smokeAlarms Component.ofDry := s.keeps_smokeContributions _ _

theorem State.keeps_handContributions (order : Nat) : s.Keeps (s.handContributions order) Component.ofPower := by
  refine State.Keeps.foldl_apply _ (fun f hf t => ?_) s
  have hf := (arrange_perm _ _).mem_iff.mp hf
  simp only [List.mem_cons, List.not_mem_nil, or_false] at hf
  rcases hf with rfl | rfl | rfl
  · exact t.keeps_recomputeProtection.mono
  · exact t.keeps_smokeAlarms.mono
  · exact t.keeps_powerContributions _

/-- What a conversion and the end of its pass can touch. -/
abbrev Component.ofConversion : List Component := .sequencer :: Component.ofPower

theorem State.keeps_takeWaitingProfile (order : Nat) :
    s.Keeps (s.takeWaitingProfile order) Component.ofConversion := by
  unfold State.takeWaitingProfile
  split
  · exact .refl _ _
  · exact (s.keeps_withSequencer _).mono.trans (State.keeps_handContributions _ _).mono

theorem State.keeps_endPass (order : Nat) : s.Keeps (s.endPass order) Component.ofConversion :=
  (s.keeps_takeWaitingProfile order).trans
    ((State.keeps_withSequencer _ _).mono.trans (State.keeps_writeSequencerReadings _).mono)

theorem State.keeps_beginConversion : s.Keeps s.beginConversion [.sequencer] := s.keeps_withSequencer _

theorem State.keeps_startPass (order : Nat) : s.Keeps (s.startPass order) Component.ofConversion :=
  (s.keeps_withSequencer _).mono.trans
    ((State.Keeps.ite (fun _ => State.keeps_endPass _ _) fun _ => .refl _ _).trans
      (State.keeps_beginConversion _).mono)

theorem State.keeps_endPassIfDone (order : Nat) : s.Keeps (s.endPassIfDone order) Component.ofConversion :=
  .ite (fun _ => s.keeps_endPass _) fun _ => .refl _ _

theorem State.keeps_abandonConversion (order : Nat) :
    s.Keeps (s.abandonConversion order) Component.ofConversion :=
  (s.keeps_withSequencer _).mono.trans
    ((State.keeps_endPassIfDone _ _).trans (State.keeps_beginConversion _).mono)

/-- What the delivery of a value touches. -/
abbrev Component.ofDelivery : List Component := [.smoke, .store, .power, .drive]

theorem State.keeps_deliver (c : Conversion) (value : Nat) : s.Keeps (s.deliver c value) Component.ofDelivery := by
  unfold State.deliver
  refine .ite (fun _ => (s.keeps_heatValue _).mono) fun _ => .ite (fun _ => (s.keeps_storeValue _).mono) fun _ => ?_
  split
  · exact (s.keeps_deliverEmf _ _ _).mono
  · exact .refl _ _

theorem State.keeps_processConversion (c : Conversion) (raw order : Nat) :
    s.Keeps (s.processConversion c raw order) Component.ofConversion :=
  (s.keeps_withSequencer _).mono.trans ((State.keeps_alarmEvent _ _ _ _ _).mono.trans
    ((State.Keeps.ite (fun _ => (State.keeps_handContributions _ _).mono) fun _ => .refl _ _).trans
      (State.keeps_deliver _ _ _).mono))

theorem State.keeps_ackSequencer : s.Keeps s.ackSequencer Component.ofReset :=
  .ite (fun _ => (s.keeps_withAcks _).mono.trans (State.keeps_settleQuiesce _)) fun _ => .refl _ _

end

/-! ### The adoption unit (section 10.3) -/

section
variable (s : State)

/-- A nudge taken keeps the list sound; its tail is sound as well (R162). -/
theorem State.keeps_withAdoption_nudges (x : Adoption) (h : s.NudgesSound → x.nudges.length ≤ 4 ∧ x.nudges.Nodup) :
    s.Keeps (s.withAdoption x) [.adoption] :=
  ⟨s.sameExcept_withAdoption x, id, id, id, id, h, id, id, id, id⟩

theorem State.keeps_offerNudge (v : Byte) : s.Keeps (s.offerNudge v) [.adoption] := by
  unfold State.offerNudge
  split
  · refine .ite (fun _ => .refl _ _) fun hroom => ?_
    obtain ⟨hnew, hroom⟩ := not_or.mp hroom
    refine s.keeps_withAdoption_nudges _ fun ⟨_, nodup⟩ => ⟨by simp; omega, ?_⟩
    rw [List.nodup_append]
    refine ⟨nodup, by simp, fun a ha b hb hab => hnew ?_⟩
    rw [← List.mem_singleton.mp hb, ← hab]
    exact List.contains_iff_mem.mpr ha
  · exact .refl _ _

theorem State.keeps_startSweeping : s.Keeps s.startSweeping [.adoption] := s.keeps_withAdoption _

theorem State.keeps_beginVisit (k : Fin 15) : s.Keeps (s.beginVisit k) [.adoption] :=
  .ite (fun _ => s.keeps_withAdoption _) fun _ => s.keeps_withAdoption _

theorem State.keeps_nextVisit : s.Keeps s.nextVisit [.adoption] := by
  unfold State.nextVisit
  split
  · rename_i k ks hk
    refine (s.keeps_withAdoption_nudges _ fun ⟨len, nodup⟩ => ?_).trans (State.keeps_beginVisit _ _)
    rw [hk] at len nodup
    exact ⟨Nat.le_of_succ_le len, (List.nodup_cons.mp nodup).2⟩
  · split
    · split
      · exact (s.keeps_withAdoption _).trans (State.keeps_beginVisit _ _)
      · exact .refl _ _
    · exact .refl _ _

theorem sectionBase_ge (k : Fin 15) : 0x100 ≤ sectionBase k := by
  revert k
  decide

theorem State.keeps_endVisit : s.Keeps s.endVisit Component.ofReset :=
  (s.keeps_withAdoption _).mono.trans (State.keeps_settleQuiesce _)

theorem State.keeps_writeVerdict (v : Visit) (d : Verdict) : s.Keeps (s.writeVerdict v d) [.store, .adoption] :=
  (s.keeps_writeStore _ _ (by have := sectionBase_ge v.section_; omega)).mono.trans (State.keeps_withAdoption _ _).mono

theorem State.keeps_writeAdopted (v : Visit) (d : Verdict) : s.Keeps (s.writeAdopted v d) Component.ofReset :=
  (s.keeps_writeStore _ _ (by have := sectionBase_ge v.section_; omega)).mono.trans
    ((State.keeps_withAdoption _ _).mono.trans
      ((State.Keeps.ite (fun _ => .refl _ _) fun _ => (State.keeps_raise _ _).mono).trans (State.keeps_endVisit _)))

theorem State.keeps_handOver {α : Type} {l : List Component} (d : Verdict) (value : α) (take : State → α → State)
    (h : ∀ (t : State) (x : α), t.Keeps (take t x) l) : s.Keeps (s.handOver d value take) l := by
  unfold State.handOver
  split
  · exact .refl _ _
  all_goals exact h _ _

theorem State.keeps_finishVisit {α : Type} (k : Fin 15) (read : List Byte → α × List Finding)
    (take : State → α → State) (h : ∀ (t : State) (x : α), t.Keeps (take t x) Component.ofReset) :
    s.Keeps (s.finishVisit k read take) Component.ofReset := by
  rcases s.finishVisit_cases k read take with
    ⟨-, e⟩ | ⟨v, -, -, ⟨d, -, e⟩ | ⟨-, -, e⟩ | ⟨-, -, t, d, x, -, -, rfl, e⟩⟩ <;> rw [e]
  · exact .refl _ _
  · exact s.keeps_writeAdopted v d
  · exact s.keeps_endVisit
  · exact (s.keeps_handOver d x take h).trans ((State.keeps_writeVerdict _ _ _).mono.trans
      (.ite (fun _ => State.keeps_settleQuiesce _) fun _ => State.keeps_writeAdopted _ _ _))

theorem State.keeps_takeMeasureProfile (p : MeasureProfile) : s.Keeps (s.takeMeasureProfile p) [.sequencer] :=
  s.keeps_withSequencer _

theorem State.keeps_takeSoundProfile (load : Bool) : s.Keeps (s.takeSoundProfile load) [.sound] :=
  s.keeps_withSound _

theorem State.keeps_takeSoundDirective (d : SoundDirective) :
    s.Keeps (s.takeSoundDirective d) Component.ofBank :=
  (s.keeps_withSound _).mono.trans ((State.keeps_applyMount _ _).trans (State.keeps_withSound _ _).mono)

end

/-! ### The host port (section 10.1) -/

section
variable (s : State)

/-- What a host write can touch. -/
abbrev Component.ofHostWrite : List Component :=
  [.attention, .adoption, .command, .store, .cueSlots, .events, .inbound, .draws]

/-- The section and the offset of an address of a section (12.2). -/
theorem sectionAt_some {a : Nat} {k : Fin 15} {n : Nat} (h : sectionAt a = some (k, n)) :
    a = sectionBase k + n ∧ n < 4 + sectionLength k := by
  obtain ⟨j, hj, e⟩ := Option.map_eq_some_iff.mp h
  have hin := List.find?_some hj
  simp only [Bool.and_eq_true, decide_eq_true_eq] at hin
  obtain ⟨rfl, rfl⟩ := Prod.mk.inj e
  omega

/-- The access classes by the regions of the store (R158, 12.2). -/
theorem accessClass_cases (a : Nat) :
    (a = 0x0A ∧ accessClass a = .attnTake) ∨ (a = 0x0B ∧ accessClass a = .nudge) ∨
    (a = 0x0C ∧ accessClass a = .command) ∨ (0x20 ≤ a ∧ a < 0x39 ∧ accessClass a = .attnConfig) ∨
    (∃ n : Fin 8, a = 0x0500 + 8 * n.val ∧ accessClass a = .cueState n) ∨
    (∃ (n : Fin 8) (j : Nat), 1 ≤ j ∧ j ≤ 3 ∧ a = 0x0500 + 8 * n.val + j ∧ accessClass a = .cueField n j) ∨
    (∃ n : Fin 24, a = 0x0C00 + 16 * n.val ∧ accessClass a = .eventState n) ∨
    (∃ n : Fin 8, a = 0x0E00 + 24 * n.val ∧ accessClass a = .inboundState n) ∨
    (0x1000 ≤ a ∧ accessClass a = .scratch) ∨
    (∃ k : Fin 15, a = sectionBase k ∧ accessClass a = .revision k) ∨
    (∃ k : Fin 15, sectionBase k + 4 ≤ a ∧ a < sectionBase k + 4 + sectionLength k ∧ accessClass a = .body k) ∨
    accessClass a = .discarded := by
  generalize hc : accessClass a = c
  unfold accessClass at hc
  split at hc
  · exact .inl ⟨‹_›, hc.symm⟩
  split at hc
  · exact .inr (.inl ⟨‹_›, hc.symm⟩)
  split at hc
  · exact .inr (.inr (.inl ⟨‹_›, hc.symm⟩))
  split at hc
  · rename_i h
    exact .inr (.inr (.inr (.inl ⟨h.1, h.2, hc.symm⟩)))
  iterate 4 refine .inr ?_
  split at hc
  · rename_i h
    have hn : (Fin.ofNat 8 ((a - 0x0500) / 8)).val = (a - 0x0500) / 8 := Nat.mod_eq_of_lt (by omega)
    dsimp only at hc
    split at hc
    · exact .inl ⟨_, by omega, hc.symm⟩
    · split at hc
      · exact .inr (.inl ⟨_, _, by omega, by omega, by omega, hc.symm⟩)
      · iterate 6 refine .inr ?_
        exact .inr hc.symm
  iterate 2 refine .inr ?_
  split at hc
  · rename_i h
    have hn : (Fin.ofNat 24 ((a - 0x0C00) / 16)).val = (a - 0x0C00) / 16 := Nat.mod_eq_of_lt (by omega)
    split at hc
    · exact .inl ⟨_, by omega, hc.symm⟩
    · exact .inr (.inr (.inr (.inr (.inr hc.symm))))
  refine .inr ?_
  split at hc
  · rename_i h
    have hn : (Fin.ofNat 8 ((a - 0x0E00) / 24)).val = (a - 0x0E00) / 24 := Nat.mod_eq_of_lt (by omega)
    split at hc
    · exact .inl ⟨_, by omega, hc.symm⟩
    · exact .inr (.inr (.inr (.inr hc.symm)))
  refine .inr ?_
  split at hc
  · exact .inl ⟨‹_›, hc.symm⟩
  refine .inr ?_
  split at hc
  · rename_i hk
    exact .inl ⟨_, (sectionAt_some hk).1, hc.symm⟩
  · rename_i k n hk
    have := sectionAt_some hk
    split at hc
    · exact .inr (.inr hc.symm)
    · exact .inr (.inl ⟨k, by omega, by omega, hc.symm⟩)
  · exact .inr (.inr hc.symm)

/-- The bytes of the store's memory that a host writes elsewhere than in the attention configuration lie behind it. -/
theorem accessClass_behind_config {a : Nat}
    (h : (∃ k, accessClass a = .revision k) ∨ (∃ k, accessClass a = .body k) ∨ accessClass a = .scratch) :
    0x39 ≤ a := by
  rcases accessClass_cases a with ⟨-, e⟩ | ⟨-, e⟩ | ⟨-, e⟩ | ⟨-, -, e⟩ | ⟨_, -, e⟩ | ⟨_, _, -, -, -, e⟩ | ⟨_, -, e⟩ |
    ⟨_, -, e⟩ | ⟨ha, -⟩ | ⟨k, ha, -⟩ | ⟨k, ha, -, -⟩ | e
  case inr.inr.inr.inr.inr.inr.inr.inr.inl => omega
  case inr.inr.inr.inr.inr.inr.inr.inr.inr.inl | inr.inr.inr.inr.inr.inr.inr.inr.inr.inr.inl =>
    have := sectionBase_ge k
    omega
  all_goals simp [e] at h

/-- A byte of the attention configuration written, and ATTN evaluated again (R171). -/
theorem State.keeps_writeConfig (a : Nat) (bs : List Byte) :
    s.Keeps (s.writeStore a bs).evaluateAttn [.store, .attention] :=
  ⟨State.sameExcept_trans (State.sameExcept_mono (s.sameExcept_writeStore a bs) (by decide))
      (State.sameExcept_mono (State.sameExcept_evaluateAttn _) (by decide)),
    fun ⟨hs, hf⟩ => ⟨Memory.write_wellFormed _ _ _ _ hs, hf⟩, id, id, id, id, id,
    fun _ => State.evaluateAttn_exact _, id, id⟩

theorem State.keeps_advanceCopy (v : Visit) (n : Nat) : s.Keeps (s.advanceCopy v n) [.adoption] :=
  s.keeps_withAdoption _

theorem State.keeps_writeBody (k : Fin 15) (a : Nat) (v : Byte) (ha : 0x39 ≤ a) :
    s.Keeps (s.writeBody k a v) Component.ofHostWrite := by
  unfold State.writeBody
  dsimp only
  split
  · exact (State.Keeps.ite (fun _ => (s.keeps_advanceCopy _ _).mono.trans (State.keeps_withDraws _ _).mono)
      fun _ => .refl _ _).trans (State.keeps_writeStore _ _ _ (.inr ha)).mono
  · exact (s.keeps_writeStore _ _ (.inr ha)).mono

theorem State.keeps_hostWriteAt (a : Nat) (v : Byte) : s.Keeps (s.hostWriteAt a v) Component.ofHostWrite := by
  unfold State.hostWriteAt
  split
  · exact (s.keeps_takeAttn _).mono
  · exact (s.keeps_offerNudge _).mono
  · exact .ite (fun _ => .refl _ _) fun _ => (s.keeps_withCommand _).mono
  · exact (s.keeps_writeConfig _ _).mono
  · rename_i k h
    exact (s.keeps_withAdoption _).mono.trans (State.keeps_writeStore _ _ _
      (.inr (accessClass_behind_config (.inl ⟨k, h⟩)))).mono
  · rename_i k h
    exact s.keeps_writeBody k a v (accessClass_behind_config (.inr (.inl ⟨k, h⟩)))
  · exact (s.keeps_withCueSlots _).mono
  · exact (s.keeps_withCueSlots _).mono
  · exact .ite (fun _ => (s.keeps_freeEventRecord _).mono) fun _ => .refl _ _
  · exact .ite (fun _ => (s.keeps_freeInboundRecord _).mono) fun _ => .refl _ _
  · rename_i h
    exact (s.keeps_writeStore _ _ (.inr (accessClass_behind_config (.inr (.inr h))))).mono
  · exact .refl _ _

/-- What a data byte of a WRITE can touch. -/
abbrev Component.ofDataByte : List Component := .port :: Component.ofHostWrite

theorem State.keeps_writeDataByte (v : Byte) : s.Keeps (s.writeDataByte v) Component.ofDataByte :=
  .ite (fun _ => (State.Keeps.ite (fun _ => .refl _ _) fun _ => (s.keeps_hostWriteAt _ _).mono).trans
    (State.keeps_withPort _ _).mono) fun _ => .refl _ _

/-- What a scan of the cue slots can touch. -/
abbrev Component.ofScan : List Component := .sound :: .eventSeq :: Component.ofDataByte

theorem State.keeps_scanSlot (emptied : Bool) (n : Fin 8) : s.Keeps (State.scanSlot emptied s n) Component.ofScan := by
  refine .ite (fun _ => ?_) fun _ => .refl _ _
  exact (s.keeps_withCueSlots _).mono.trans
    ((State.Keeps.ite (fun _ => (State.keeps_writeDataByte _ _).mono) fun _ => .refl _ _).trans
      ((State.keeps_cueRequest _ _ _ _ _).mono.trans ((State.keeps_withCueSlots _ _).mono.trans
        (State.keeps_raise _ _).mono)))

theorem State.keeps_scanSlots : s.Keeps s.scanSlots Component.ofScan :=
  .ite (fun _ => (s.keeps_withDraws _).mono.trans (.foldl (fun s n => s.keeps_scanSlot _ n) _ _))
    fun _ => .foldl (fun s n => s.keeps_scanSlot _ n) _ _

end

/-! ### The part as a whole (sections 10.5 and 10.6) -/

section
variable (s : State)

/-- Every component of the state. -/
abbrev Component.everything : List Component := .flash :: .draws :: .pending :: Component.ofReset

theorem Component.mem_everything (c : Component) : c ∈ Component.everything := by cases c <;> decide

theorem State.keeps_startBlockTimers : s.Keeps s.startBlockTimers Component.ofReset :=
  State.Keeps.trans (s.keeps_withDrive _).mono ((State.keeps_withPower _ _).mono.trans
    ((State.keeps_withCadence _ _).mono.trans ((State.keeps_withSmoke _ _).mono.trans
    ((State.keeps_withLamps _ _).mono.trans ((State.keeps_withSound _ _).mono.trans
      (State.keeps_withRadio _ _).mono)))))

theorem State.keeps_startScanning : s.Keeps s.startScanning Component.ofConversion :=
  (s.keeps_withSequencer _).mono.trans (State.keeps_startPass _ _)

theorem State.keeps_enterRun (subject : Byte) : s.Keeps (s.enterRun subject) Component.ofReset :=
  (s.keeps_withPart _).mono.trans ((State.keeps_event _ _ _ _).mono.trans ((State.keeps_raise _ _).mono.trans
    ((State.keeps_startBlockTimers _).trans ((State.keeps_startScanning _).mono.trans
      (State.keeps_startSweeping _).mono))))

theorem State.keeps_resume : s.Keeps s.resume Component.ofReset :=
  State.Keeps.trans (s.keeps_withPart _).mono ((State.keeps_withDeadline _ _).mono.trans
    ((State.keeps_withResetMark _ _).mono.trans ((State.keeps_withAcks _ _).mono.trans
    ((State.keeps_raise _ _).mono.trans ((State.keeps_driveResume _).mono.trans
    ((State.keeps_radioResume _).mono.trans ((State.keeps_rereadFan _).mono.trans
    ((State.keeps_formLamps _).mono.trans ((State.keeps_soundResume _).mono.trans
      (State.keeps_startSweeping _).mono)))))))))

theorem State.keeps_takeReset : s.Keeps s.takeReset Component.ofReset := by
  unfold State.takeReset
  split
  · exact s.keeps_enterQuiescing _
  · exact (s.keeps_withResetMark _).mono
  · exact s.keeps_softReset
  all_goals exact .refl _ _

theorem State.keeps_takeCommand (code : Nat → Bool) (taken : PartState → Bool) (act : State → State)
    (h : ∀ t : State, t.Keeps (act t) Component.ofReset) :
    s.Keeps (s.takeCommand code taken act) Component.ofReset := by
  rcases s.takeCommand_cases code taken act with ⟨-, e⟩ | ⟨-, -, e⟩ | ⟨-, -, e⟩ <;> rw [e]
  · exact .refl _ _
  · exact (s.keeps_withCommandResult _).mono.trans ((State.keeps_withCommand _ _).mono.trans (h _))
  · exact (s.keeps_withCommandResult _).mono.trans (State.keeps_withCommand _ _).mono

theorem State.keeps_forceBlock (order n : Nat) : s.Keeps (s.forceBlock order n) Component.ofReset := by
  unfold State.forceBlock
  split
  · exact s.keeps_driveForce.mono
  · exact s.keeps_freeVoices.mono
  · exact (s.keeps_abandonConversion _).mono
  · exact (s.keeps_withAdoption _).mono
  · exact .refl _ _

theorem State.keeps_powerOnReset : s.Keeps { State.reset with
    drive := { Drive.reset with shortSamples := s.drive.shortSamples }
    flash := s.flash, draws := s.draws, pending := s.pending } Component.ofReset where
  frame c hc := by
    cases c
    case flash | draws | pending => rfl
    all_goals simp at hc
  memory h := ⟨reset_memory_wellFormed.1, h.2⟩
  events _ := reset_lists_sound.1
  senders _ := reset_lists_sound.2.1
  inbound _ := reset_lists_sound.2.2.1
  nudges _ := reset_lists_sound.2.2.2.1
  voices _ := reset_lists_sound.2.2.2.2
  attn _ := (State.attnLevel_of_none_pending _ fun n => by
    show (Vector.replicate 12 false)[n] = false
    simp).symm
  heater _ := Smoke.guarded_of_off rfl rfl rfl
  lfsr _ := by
    show (0xACE1#16 : BitVec 16) ≠ 0#16
    decide

end

end Sys2Proof.Machine

/-! SUPPORT. What every command keeps, and the statements about what every step keeps of the memories, the lists, ATTN,
the heater and the LFSR. -/

namespace Sys2Proof.Machine

-- One proof at a time: proofs that wait for one another would each hold a thread.
set_option Elab.async false

/-! ### Every command -/

section
variable (s : State)

/-- A meaning answers a next state, and it keeps. -/
def Kept (s : State) (o : Host.Outcome State Fault Refusal) : Prop :=
  ∃ t, o = .next t ∧ s.Keeps t Component.everything

theorem Kept.next {s t : State} {l : List Component} (h : s.Keeps t l) : Kept s (.next t) :=
  ⟨t, rfl, h.mono fun c _ => Component.mem_everything c⟩

/-- A row that its timer, or another circumstance, guards. -/
theorem Kept.guarded {s t : State} {c : Prop} [Decidable c] {l : List Component} (h : c → s.Keeps t l) :
    Kept s (.next (if c then t else s)) :=
  .next (.ite h fun _ => .refl _ _)

theorem kept_finishVisit {α : Type} (k : Fin 15) (read : List Byte → α × List Finding) (take : State → α → State)
    {l : List Component} (h : ∀ (t : State) (x : α), t.Keeps (take t x) l) (sub : l ⊆ Component.ofReset := by decide) :
    Kept s (.next (s.finishVisit k read take)) :=
  .next (s.keeps_finishVisit k read take fun t x => (h t x).mono sub)

theorem kept_takeFrame (kind : Nat → Bool) (act : State → Heard → State) {l : List Component}
    (h : ∀ (t : State) (x : Heard), t.Keeps (act t x) l) (sub : l ⊆ Component.ofFrame := by decide) :
    Kept s (.next (s.takeFrame kind act)) :=
  .next (s.keeps_takeFrame kind act fun t x => (h t x).mono sub)

theorem kept_takeCommand (code : Nat → Bool) (taken : PartState → Bool) (act : State → State) {l : List Component}
    (h : ∀ t : State, t.Keeps (act t) l) (sub : l ⊆ Component.ofReset := by decide) :
    Kept s (.next (s.takeCommand code taken act)) :=
  .next (s.keeps_takeCommand code taken act fun t => (h t).mono sub)

theorem kept_mountHeaderRead : Kept s (execMountHeaderRead s) := by
  refine .guarded (l := Component.ofMount) fun _ => ?_
  dsimp only
  exact .ite (fun _ => s.keeps_failMount _ _) fun _ => .ite (fun _ => s.keeps_failMount _ _)
    fun _ => .ite (fun _ => s.keeps_failMount _ _) fun _ => (s.keeps_withSound _).mono

theorem kept_mountComplete : Kept s (execMountComplete s) := by
  unfold execMountComplete
  refine .next (l := Component.ofMount) ?_
  split
  · rename_i h _ _
    have read := s.keeps_withSound { s.sound with
      progress := h.length, cues := s.cuesRead h h.length, clips := s.clipsRead h h.length }
    dsimp only
    refine .ite (fun _ => read.mono.trans (State.keeps_failMount _ _ _)) fun _ => ?_
    split
    · exact read.mono.trans (State.keeps_failMount _ _ _)
    · split
      · exact read.mono.trans (State.keeps_failMount _ _ _)
      · exact read.mono.trans ((State.keeps_changeBank _ _).mono.trans
          ((State.keeps_event _ _ _ _).mono.trans (State.keeps_raise _ _).mono))
  · exact .refl _ _

theorem kept_idleTimerExpiry : Kept s (execIdleTimerExpiry s) := by
  refine .guarded (l := Component.ofSmoke) fun _ => ?_
  have stopped := s.keeps_withSmoke { s.smoke with idleTimer := .stopped }
  have idles (hs : s.smoke.state.heating = true) (x : Timer) : s.Keeps ((s.withSmoke { s.smoke with
      state := .idling, puffTimer := x, idleTimer := .stopped }).smokeMoved s.smoke.state) Component.ofSmoke :=
    State.Keeps.trans (s.keeps_withSmoke _ fun ⟨_, free, pwm⟩ => by exact ⟨fun _ => rfl, fun _ => free hs, pwm⟩).mono
      (State.keeps_smokeMoved _ _)
  dsimp only
  split
  · rename_i e
    exact idles (by rw [e]; rfl) _
  · rename_i e
    exact idles (by rw [e]; rfl) _
  all_goals exact stopped.mono

theorem kept_effectTick : Kept s (execEffectTick s) := by
  refine .guarded (l := Component.ofLamps) fun _ => ?_
  have formed (x : Lamps) (hx : s.lamps.lfsr ≠ 0#16 → x.lfsr ≠ 0#16) : s.Keeps (s.withLamps x).formLamps Component.ofLamps :=
    State.Keeps.trans (State.Keeps.mono
      ⟨s.sameExcept_withLamps x, id, id, id, id, id, id, id, id, hx⟩) (State.keeps_formLamps _).mono
  have ticked := formed { s.lamps with
    tickTimer := s.startTimer effectInterval
    ticks := (s.lamps.ticks + 1) % 10
    lfsr := lfsrStep s.lamps.lfsr
    lamps := vecTab 8 fun k => s.lamps.lamps[k].advance s.lamps.profile[k] } (lfsrStep_ne_zero _)
  exact ticked.trans (.ite (fun _ => (State.keeps_writeLampReadings _).mono) fun _ => .refl _ _)

theorem kept_radioByte (input : LineInput) : Kept s (execRadioByte input s) := by
  refine .guarded (l := [.radio]) fun _ => ?_
  cases input
  · exact s.keeps_finderByte _
  · exact s.keeps_finderError

theorem kept_silenceTimerExpiry : Kept s (execSilenceTimerExpiry s) := by
  refine .guarded (l := Component.ofReset) fun _ => ?_
  exact (s.keeps_withRadio _).mono.trans ((State.keeps_recomputeProtection _).mono.trans
    ((State.Keeps.ite (fun _ => (State.keeps_writeTarget _ _ _ _).mono) fun _ => .refl _ _).trans
      ((State.keeps_event _ _ _ _).mono.trans ((State.keeps_raise _ _).mono.trans
        ((State.keeps_writeRadioReadings _).mono.trans (State.keeps_settleQuiesce _))))))

theorem kept_adcConversionComplete (raw : BitVec 12) (order : Nat) : Kept s (execAdcConversionComplete raw order s) := by
  unfold execAdcConversionComplete
  refine .next (l := Component.ofReset) ?_
  split
  · exact .refl _ _
  · exact (s.keeps_withSequencer _).mono.trans ((State.keeps_processConversion _ _ _ _).mono.trans
      ((State.keeps_endPassIfDone _ _).mono.trans
        ((State.keeps_ackSequencer _).trans (State.keeps_beginConversion _).mono)))

theorem kept_trip (c : Channel) (order : Nat) : Kept s (execTrip c order s) := by
  have seen (d : Drive) : s.Keeps (if (s.withDrive d).part = .quiet ∨ (s.withDrive d).part = .resetting then
      s.withDrive d else ((s.withDrive d).takeTrip c order).settleQuiesce) Component.ofReset :=
    .ite (fun _ => (s.keeps_withDrive _).mono) fun _ => (s.keeps_withDrive _).mono.trans
      ((State.keeps_takeTrip _ _ _).mono.trans (State.keeps_settleQuiesce _))
  cases c
  · exact .next (seen { s.drive with shortA := true })
  · exact .next (seen { s.drive with shortB := true })

theorem kept_quiesceDeadlineExpiry (order : Nat) : Kept s (execQuiesceDeadlineExpiry order s) := by
  refine .guarded (l := Component.ofReset) fun _ => ?_
  exact (State.Keeps.foldl (fun s n => s.keeps_forceBlock (order / 24) n) _ _).trans
    ((State.Keeps.foldl (fun s n => (s.keeps_event .quiesceForced (BitVec.ofNat 8 n) 0#16).mono) _ _).trans
      (State.keeps_endQuiesce _))

theorem exec_keeps (i : Instr) : Kept s (exec i s) := by
  cases i with
  | powerOnReset => exact .next s.keeps_powerOnReset
  | storeInitialised => exact .guarded fun _ => s.keeps_enterRun _
  | resetComplete => exact .guarded fun _ => s.keeps_enterRun _
  | uptimeTick => 
    exact .next (l := [.time, .sound]) ((s.keeps_withTime _).mono.trans (State.keeps_mountProgress _).mono)
  | hostUnknownInstruction b => exact .guarded fun _ => s.keeps_withPort _
  | hostWrite v => exact .next (s.keeps_writeDataByte v)
  | uptimeReadCapture => exact .guarded fun _ => (s.keeps_withPort _).trans (State.keeps_withPort _ _)
  | attnPendingReadCapture => exact .guarded fun _ => (s.keeps_withPort _).trans (State.keeps_withPort _ _)
  | revisionWrite v =>
    show Kept s (.next (match s.portClass with | .revision _ => s.writeDataByte v | _ => s))
    split
    · exact .next (s.keeps_writeDataByte v)
    · exact .next (.refl _ [])
  | attnConfigWrite v => exact .guarded fun _ => s.keeps_writeDataByte v
  | attnTake v => exact .guarded fun _ => s.keeps_writeDataByte v
  | nudge v => exact .guarded fun _ => s.keeps_writeDataByte v
  | cueSlotStateWrite v =>
    show Kept s (.next (match s.portClass with | .cueState _ => s.writeDataByte v | _ => s))
    split
    · exact .next (s.keeps_writeDataByte v)
    · exact .next (.refl _ [])
  | eventRecordFree =>
    show Kept s (.next (match s.portClass with | .eventState _ => s.writeDataByte 0#8 | _ => s))
    split
    · exact .next (s.keeps_writeDataByte _)
    · exact .next (.refl _ [])
  | inboundRecordFree v =>
    show Kept s (.next (match s.portClass with | .inboundState _ => s.writeDataByte v | _ => s))
    split
    · exact .next (s.keeps_writeDataByte v)
    · exact .next (.refl _ [])
  | commandHalt =>
    exact kept_takeCommand s _ _ _ fun t => (t.keeps_halt _).mono.trans (State.keeps_settleQuiesce _)
  | commandQuiesce => exact kept_takeCommand s _ _ _ fun t => t.keeps_enterQuiescing _
  | commandResume => exact kept_takeCommand s _ _ _ State.keeps_resume
  | commandReset => exact kept_takeCommand s _ _ _ State.keeps_takeReset
  | commandUnknown => exact kept_takeCommand s _ _ _ fun t => .refl t []
  | quiesceDeadlineExpiry k => exact kept_quiesceDeadlineExpiry s k
  | sweepTimerExpiry =>
    exact .guarded fun _ => .ite (fun _ => s.keeps_withAdoption _) fun _ => s.keeps_withAdoption _
  | deferredSweepStart => exact .guarded fun _ => s.keeps_withAdoption _
  | visitBegin => exact .guarded fun _ => s.keeps_nextVisit
  | adoptDriveProfile => exact kept_finishVisit s _ _ _ State.keeps_takeDriveProfile
  | adoptSpeedTable => exact kept_finishVisit s _ _ _ State.keeps_takeSpeedTable
  | adoptMeasureProfile => exact kept_finishVisit s _ _ _ State.keeps_takeMeasureProfile
  | adoptPowerProfile k => exact kept_finishVisit s _ _ _ fun t p => t.keeps_takePowerProfile p k
  | adoptCadenceProfile => exact kept_finishVisit s _ _ _ State.keeps_takeCadenceProfile
  | adoptSmokeProfile => exact kept_finishVisit s _ _ _ State.keeps_takeSmokeProfile
  | adoptLampProfile => exact kept_finishVisit s _ _ _ State.keeps_takeLampProfile
  | adoptSoundProfile => exact kept_finishVisit s _ _ _ State.keeps_takeSoundProfile
  | adoptRadioProfile => exact kept_finishVisit s _ _ _ State.keeps_takeRadioProfile
  | adoptFunctionMap => exact kept_finishVisit s _ _ _ State.keeps_takeFunctionMap
  | adoptDriveDirective => exact kept_finishVisit s _ _ _ State.keeps_takeDriveDirective
  | adoptSmokeDirective => exact kept_finishVisit s _ _ _ State.keeps_takeSmokeDirective
  | adoptLampDirective => exact kept_finishVisit s _ _ _ State.keeps_takeLampDirective
  | adoptSoundDirective => exact kept_finishVisit s _ _ _ State.keeps_takeSoundDirective
  | adoptFunctionDirective => exact kept_finishVisit s _ _ _ State.keeps_takeFunctionDirective
  | rampStep =>
    exact .guarded fun _ => (s.keeps_withDrive _).mono.trans ((State.keeps_rampMoved _).mono.trans
      ((State.keeps_settleDrive _).mono.trans (State.keeps_settleQuiesce _)))
  | trip c k => exact kept_trip s c k
  | retryTimerExpiry =>
    exact .guarded fun _ => (s.keeps_withDrive _).mono.trans ((State.keeps_setDirection _ _).mono.trans
      ((State.keeps_enterDriveState _ _ _).mono.trans (State.keeps_settleDrive _)))
  | forgiveTimerExpiry => exact .guarded fun _ => s.keeps_withDrive _
  | windowPeriodExpiry => exact .guarded fun _ => (s.keeps_withDrive _).trans (State.keeps_latchBridge _)
  | settleTimerExpiry =>
    exact .guarded (l := [.drive, .sequencer]) fun _ =>
      (s.keeps_withDrive _).mono.trans (State.keeps_withSequencer _ _).mono
  | windowLimitExpiry =>
    exact .guarded fun _ => (s.keeps_withDrive _).trans
      ((State.keeps_latchBridge _).trans (State.keeps_settleWindow _))
  | driveReadingsTimer a b =>
    exact .guarded (l := [.drive, .store]) fun _ =>
      (s.keeps_withDrive _).mono.trans (State.keeps_writeDriveReadings _).mono
  | scanTimerExpiry k =>
    exact .guarded (l := Component.ofReset) fun _ => (s.keeps_withSequencer _).mono.trans
      (.ite (fun _ => (State.keeps_startPass _ _).mono.trans (State.keeps_settleQuiesce _))
        fun _ => (State.keeps_withSequencer _ _).mono)
  | deferredPassStart k =>
    exact .guarded fun _ => (s.keeps_startPass k).mono.trans (State.keeps_settleQuiesce _)
  | emfRequestServe => exact .next (.ite (fun _ => .refl _ _) fun _ => s.keeps_beginConversion)
  | adcConversionComplete raw k => exact kept_adcConversionComplete s raw k
  | outageTick k =>
    exact .guarded (l := Component.ofReset) fun _ => (s.keeps_withPower _).mono.trans
      (.ite (fun _ => (State.keeps_enterSpent _ _ _).mono.trans (State.keeps_settleQuiesce _)) fun _ => .refl _ _)
  | powerReadingsTimer =>
    exact .guarded (l := [.power, .store]) fun _ =>
      (s.keeps_withPower _).mono.trans (State.keeps_writePowerReadings _).mono
  | camEdge p =>
    exact .next (.ite (fun _ => .refl _ _) fun _ => .ite (fun _ => (s.keeps_withCadence _).mono)
      fun _ => s.keeps_acceptEdge _)
  | wheelStoppedExpiry => exact .guarded fun _ => (s.keeps_withCadence _).mono.trans (State.keeps_settleSource _)
  | syntheticChuffExpiry =>
    refine .guarded (l := Component.ofChuff) fun _ => ?_
    split
    · exact s.keeps_syntheticChuff _
    · exact .refl _ _
  | cadenceReadingsTimer =>
    exact .guarded (l := [.cadence, .store]) fun _ =>
      (s.keeps_withCadence _).mono.trans (State.keeps_writeCadenceReadings _).mono
  | heatStaleExpiry =>
    exact .guarded fun _ => s.keeps_withSmoke _ fun h => by exact h.setHeater 0 (absurd rfl)
  | idleTimerExpiry => exact kept_idleTimerExpiry s
  | pulseTimerExpiry => exact .guarded fun _ => (s.keeps_withSmoke _).trans (State.keeps_rereadFan _)
  | idlePuffExpiry => exact .guarded fun _ => (s.keeps_withSmoke _).trans (State.keeps_fanPulse _)
  | cooldownExpiry => exact .guarded fun _ => (s.keeps_withSmoke _).trans (State.keeps_rereadFan _)
  | budgetTick =>
    exact .guarded (l := Component.ofDry) fun _ => (s.keeps_withSmoke _).mono.trans
      ((State.keeps_budgetTick _).trans (State.keeps_writeSmokeReadings _).mono)
  | effectTick => exact kept_effectTick s
  | mountHeaderRead => exact kept_mountHeaderRead s
  | mountComplete => exact kept_mountComplete s
  | cueSlotScan =>
    exact .guarded (l := Component.ofScan) fun _ => (s.keeps_withSound _).mono.trans
      ((State.Keeps.ite (fun _ => State.keeps_scanSlots _) fun _ => .refl _ _).trans
        (State.keeps_writeSoundReadings _).mono)
  | outputSample => exact .guarded fun _ => s.keeps_sampleVoices.mono.trans (State.keeps_settleQuiesce _)
  | ampHoldExpiry => exact .guarded fun _ => s.keeps_withSound _
  | radioByte input => exact kept_radioByte s input
  | gapTimerExpiry => exact .guarded fun _ => s.keeps_finderHunts
  | radioSpeed k => exact kept_takeFrame s _ _ fun t h => t.keeps_takeSpeed h k
  | radioHalt k => exact kept_takeFrame s _ _ fun t h => t.keeps_route _ h _ k fun u => (u.keeps_halt _).mono
  | radioFunction k => exact kept_takeFrame s _ _ fun t h => t.keeps_takeFunction h k
  | radioFunctionGroup k => exact kept_takeFrame s _ _ fun t h => t.keeps_takeFunctionGroup h k
  | radioCue k => exact kept_takeFrame s _ _ fun t h => t.keeps_takeCue h k
  | radioVolume => exact kept_takeFrame s _ _ fun t h => t.keeps_takeVolume h
  | radioUser => exact kept_takeFrame s _ _ fun t h => t.keeps_route _ h _ 0 fun u => .refl u _
  | radioUnknownCommand => exact kept_takeFrame s _ _ fun t _ => t.keeps_refuseCommand
  | silenceTimerExpiry => exact kept_silenceTimerExpiry s
  | elapsedTick => exact .guarded fun _ => s.keeps_withRadio _
  | radioReadingsTimer =>
    exact .guarded (l := [.radio, .store]) fun _ =>
      (s.keeps_withRadio _).mono.trans (State.keeps_writeRadioReadings _).mono
  | chipSelectRelease => exact .next (s.keeps_withPort _)
  | hostAddressComplete b a =>
    refine .guarded (l := [.port]) fun _ => ?_
    split
    · exact s.keeps_withPort _
    · exact s.keeps_withPort _
    · exact .refl _ _
  | bridgePwmPeriodStart => exact .next (s.keeps_withDrive _)
  | outputPwmPeriodStart =>
    exact .next (l := [.smoke, .lamps]) (State.Keeps.trans
      (s.keeps_withSmoke _ fun ⟨driven, free, _⟩ => by exact ⟨driven, free, Nat.le_refl _⟩).mono
      (State.keeps_withLamps _ _).mono)

end

/-! ### Every step -/

theorem step_keeps {s t : State} (h : step s = .next t) : s.Keeps t Component.everything := by
  unfold step at h
  split at h
  · cases h
    exact .refl _ _
  · rename_i c rest _
    obtain ⟨u, hu, kept⟩ := exec_keeps (s.withPending rest) c
    rw [hu] at h
    cases h
    exact (s.keeps_withPending rest).mono.trans kept

/-- Settles O56 (sections 10.1 and 10.6): only writes and resets reach the store, none the flash, and each keeps the
canonical form. -/
theorem stepKeepsMemoryCanonical : Obligations.StepKeepsMemoryCanonical :=
  fun _ _ h hstep => (step_keeps hstep).memory h

/-- Settles O57 (R115, R122, R125, R143, R147, R162, R172), from what each operation keeps of the lists. -/
theorem stepKeepsTheListsSound : Obligations.StepKeepsTheListsSound := by
  intro s t ⟨events, senders, inbound, nudges, voices⟩ hstep
  have kept := step_keeps hstep
  exact ⟨kept.events events, kept.senders senders, kept.inbound inbound, kept.nudges nudges, kept.voices voices⟩

/-- Settles O59 (R92, R107, R171), from what each operation keeps of ATTN, the heater and the LFSR. -/
theorem stepKeepsAttentionAndHeaterGuarded : Obligations.StepKeepsAttentionAndHeaterGuarded := by
  intro s t ⟨attn, heater, lfsr⟩ hstep
  have kept := step_keeps hstep
  exact ⟨kept.attn attn, kept.heater heater, kept.lfsr lfsr⟩

end Sys2Proof.Machine

/-! SUPPORT. What refutes O58: nothing in its invariants ties the settle timer to an open window. -/

namespace Sys2Proof.Machine

-- One proof at a time: proofs that wait for one another would each hold a thread.
set_option Elab.async false

/-- A channel that drives its bridge at the duty 100 of V = 100 under the default trim. -/
def drivenChannel : ChannelState := { ChannelState.reset with command := 100, duty := 100, pwm := 100 }

/-- A drive at its target, whose settle timer runs although its window is CLOSED, with that timer's expiry waiting. -/
def settlingOutsideWindow : State :=
  { State.reset with
    part := .run
    drive := { Drive.reset with
      target := ⟨100, .fwd, .host⟩
      ramp := 1600
      state := .running
      settleTimer := .running 0
      channels := ⟨drivenChannel, drivenChannel⟩ }
    pending := [.settleTimerExpiry] }

/-- Refutes O58: the expiry brings SAMPLING, where R19 holds the applied duty at 0, and latches no bridge, since a drive
that is SETTLING has been latched before; with the window CLOSED until then, the bridge stays driven at 100. -/
theorem not_stepKeepsTheDriveConsistent : ¬ Obligations.StepKeepsTheDriveConsistent := by
  intro h
  have consistent : settlingOutsideWindow.RampHeld ∧ settlingOutsideWindow.RampFollows ∧
      settlingOutsideWindow.DutyFormed ∧ settlingOutsideWindow.BridgeLatched ∧
      settlingOutsideWindow.SourceSettled :=
    ⟨by decide +kernel, by decide +kernel, fun c => by cases c <;> decide +kernel,
      fun c => by cases c <;> decide +kernel, by decide +kernel⟩
  obtain ⟨-, -, -, latched, -⟩ := h settlingOutsideWindow _ consistent rfl
  exact absurd (latched .a) (by decide +kernel)

end Sys2Proof.Machine

/-! ## The small laws: conversions, duties, events, outputs and requests -/

namespace Sys2Proof.Machine

-- One proof at a time: proofs that wait for one another would each hold a thread.
set_option Elab.async false

/-! ### The queue and the reset state -/

/-- Settles O55: by the two cases of the queue. -/
theorem stepTakesTheQueueHead : Obligations.StepTakesTheQueueHead := by
  intro c s rest
  refine ⟨fun h => ?_, fun h => ?_⟩ <;> simp only [step, h]
  rfl

/-- Every field of a channel of the reset state, by which the drive's invariants hold there. -/
theorem reset_drive_sound : State.reset.RampHeld ∧ State.reset.RampFollows ∧ State.reset.DutyFormed ∧
    State.reset.BridgeLatched ∧ State.reset.SourceSettled := by
  refine ⟨fun _ => rfl, ⟨rfl, rfl, fun _ => rfl, fun _ => ⟨rfl, rfl⟩⟩, ?_, ?_, rfl⟩ <;> intro c <;> cases c
  · exact ⟨rfl, fun _ => ⟨rfl, rfl⟩, rfl⟩
  · exact ⟨rfl, fun _ => ⟨rfl, rfl⟩, rfl⟩
  · exact Nat.zero_le _
  · exact Nat.zero_le _

/-- Settles O60: the memory, the lists and the drive by their own lemmas, attention and heater as they stand. -/
theorem resetMeetsTheInvariants : Obligations.ResetMeetsTheInvariants := by
  obtain ⟨events, senders, inbound, nudges, voices⟩ := reset_lists_sound
  obtain ⟨held, follows, duty, latched, settled⟩ := reset_drive_sound
  exact ⟨reset_memory_wellFormed, events, senders, inbound, nudges, voices, held, follows, duty, latched, settled,
    by decide, ⟨by decide, by decide, by decide⟩, by decide⟩

/-! ### Interpolation, commands and duties -/

/-- The quotient rounded toward zero, of a number that is not negative. -/
theorem truncDiv_natCast (x d : Nat) : truncDiv (x : Int) (d : Int) = ((x / d : Nat) : Int) := by
  simp [truncDiv]

/-- The quotient rounded toward zero, of a number that is not positive. -/
theorem truncDiv_neg_natCast (x d : Nat) : truncDiv (-(x : Int)) (d : Int) = -((x / d : Nat) : Int) := by
  simp [truncDiv]

/-- A step between two points, by the signed distance between them. -/
theorem stepToDu_between (p : SpeedTable) (k : Fin 15) (f : Nat) (hf : f < 8) (h0 : 0 < 8 * k.val + f) :
    stepToDu p (8 * k.val + f) =
      ((p[k.val] : Int) + truncDiv (((p[k.val + 1] : Int) - p[k.val]) * f) 8).toNat := by
  have hk : (8 * k.val + f) / 8 = k.val := by omega
  have hr : 8 * k.val + f - 8 * k.val = f := by omega
  have hlo : p.toList.getD k.val 0 = p[k.val] := by
    rw [List.getD_eq_getElem?_getD, List.getElem?_eq_getElem (by simp; omega)]
    simp
  have hhi : p.toList.getD (k.val + 1) 0 = p[k.val + 1] := by
    rw [List.getD_eq_getElem?_getD, List.getElem?_eq_getElem (by simp; omega)]
    simp
  simp only [stepToDu, if_neg (show ¬ 8 * k.val + f = 0 by omega), hk, hr, hlo, hhi,
    if_neg (show ¬ 15 ≤ k.val by omega)]

/-- The eighths of a distance do not exceed it. -/
theorem eighths_le (n f : Nat) (hf : f < 8) : n * f / 8 ≤ n :=
  Nat.div_le_of_le_mul (by rw [Nat.mul_comm 8 n]; exact Nat.mul_le_mul_left n hf.le)

/-- Settles O1, by the sign of the distance between the two points. -/
theorem stepConversionInterpolates : Obligations.StepConversionInterpolates := by
  intro p k f hf
  refine ⟨by simp [stepToDu], by simp [stepToDu], fun h0 => ?_⟩
  rw [stepToDu_between p k f hf h0]
  generalize p[k.val] = lo
  generalize p[k.val + 1] = hi
  refine ⟨fun hle => ?_, fun hle => ?_⟩
  · have hd : ((hi : Int) - lo) * f = (((hi - lo) * f : Nat) : Int) := by push_cast [Nat.cast_sub hle]; ring
    have hb := eighths_le (hi - lo) f hf
    rw [hd, show (8 : Int) = ((8 : Nat) : Int) from rfl, truncDiv_natCast]
    omega
  · have hd : ((hi : Int) - lo) * f = -(((lo - hi) * f : Nat) : Int) := by push_cast [Nat.cast_sub hle]; ring
    have hb := eighths_le (lo - hi) f hf
    rw [hd, show (8 : Int) = ((8 : Nat) : Int) from rfl, truncDiv_neg_natCast]
    omega

/-- C of a channel that runs, within 0 to 1023 (R14). -/
theorem trimCommand_enabled (t : Trim) (ramp : Nat) (he : t.enabled = true) (hr : 16 ≤ ramp) :
    (trimCommand t ramp : Int) =
      max 0 (min 1023 (((ramp / 16 * (128 + t.gain) / 256 : Nat) : Int) + t.offset)) := by
  have hv : ¬ ramp / 16 = 0 := by omega
  have hq := truncDiv_natCast (ramp / 16 * (128 + t.gain)) 256
  push_cast at hq
  simp only [trimCommand, he, Bool.not_true, Bool.false_eq_true, if_false, hv, clampInt_eq _ 0 1023 (by omega)]
  push_cast
  rw [hq]
  omega

/-- C is nothing while the channel is disabled or V is 0. -/
theorem trimCommand_eq_zero (t : Trim) (ramp : Nat) (h : t.enabled = false ∨ ramp < 16) : trimCommand t ramp = 0 := by
  rcases h with h | h
  · simp [trimCommand, h]
  · simp [trimCommand, show ramp / 16 = 0 by omega]

/-- D of a command and a correction: clamped, and under the ceiling while BRIDGING (R18). -/
theorem State.computedDuty_eq (s : State) (command : Nat) (correction : Int) :
    (s.computedDuty command correction : Int) =
      if s.power.state = .bridging then min (max 0 (min 1023 (command + correction))) s.power.profile.ceiling
      else max 0 (min 1023 (command + correction)) := by
  simp only [State.computedDuty, clampInt_eq _ 0 1023 (by omega)]
  split <;> omega

/-- Settles O2. -/
theorem commandAndDutyArithmetic : Obligations.CommandAndDutyArithmetic := by
  intro s t ramp command correction
  refine ⟨trimCommand_eq_zero t ramp, trimCommand_enabled t ramp, fun h => ?_, fun h => ?_⟩ <;>
    rw [State.computedDuty_eq] <;> simp [h]

/-! ### Alarm events -/

/-- Settles O17: the three rows of the alarm event exclude one another. -/
theorem alarmChangesRaiseEvents : Obligations.AlarmChangesRaiseEvents := by
  intro s k x y v
  refine ⟨fun hy hx => ?_, fun hx hy => ?_, fun hx hy => ?_, fun hx hy hs => ?_⟩ <;> simp only [State.alarmEvent]
  · rw [if_pos ⟨hy, hx⟩]
    cases y.side <;> rfl
  · rw [if_neg (fun h => hy h.1), if_pos ⟨hx, hy⟩]
  · rw [if_neg (fun h => hy h.1), if_neg (fun h => hx h.1)]
  · rw [if_neg (fun h => h.2.elim (· hx) (· hs)), if_neg (fun h => h.2 hy)]

/-! ### The PWM period starts -/

@[simp] theorem State.appliedDuty_of_zeroDuty (s : State) (c : Channel) (h : s.zeroDuty = true) : s.appliedDuty c = 0 := by
  simp [State.appliedDuty, h]

/-- Outside STARTING a bridge that does not drive has no duty. -/
theorem State.zeroDuty_of_not_driving (s : State) (h : s.bridgeMode ≠ .drive) (hp : s.part ≠ .starting) :
    s.zeroDuty = true := by
  by_contra hz
  simp only [State.zeroDuty, DriveState.stopped, Level.holds, Bool.or_eq_true, not_or, Bool.not_eq_true] at hz
  obtain ⟨⟨⟨⟨⟨⟨⟨stopped, idle⟩, holds⟩, window⟩, spent⟩, quiet⟩, resetting⟩, forced⟩ := hz
  apply h
  cases hs : s.drive.state <;> cases hl : s.drive.level <;> simp_all [State.bridgeMode]

/-- Outside STARTING a bridge that drives has its duty. -/
theorem State.zeroDuty_of_driving (s : State) (h : s.bridgeMode = .drive) : s.zeroDuty = false := by
  unfold State.bridgeMode at h
  cases hs : s.drive.state <;> cases hl : s.drive.level <;>
    simp_all [State.zeroDuty, DriveState.stopped, Level.holds, ite_eq_iff]

/-- A braking bridge is not in STARTING. -/
theorem State.part_of_braking (s : State) (h : s.bridgeMode = .brake) : s.part ≠ .starting := by
  intro hp
  simp [State.bridgeMode, hp] at h

/-- The bridges' outputs brought to the applied duties. -/
def State.drivenBridges (s : State) : State :=
  s.withDrive { s.drive with channels := s.drive.channels.map fun c x => { x with pwm := s.appliedDuty c } }

@[simp] theorem State.drivenBridges_channel (s : State) (c : Channel) :
    s.drivenBridges.drive.channels.get c = { s.drive.channels.get c with pwm := s.appliedDuty c } := by
  simp [State.drivenBridges]

@[simp] theorem State.drivenBridges_mode (s : State) : s.drivenBridges.bridgeMode = s.bridgeMode := rfl

/-- Settles O54: the counts driven are the applied duties, and the mode of a bridge gives its lines. -/
theorem periodStartsLatchTheDuties : Obligations.PeriodStartsLatchTheDuties := by
  intro s
  refine ⟨⟨s.drivenBridges, rfl, fun c => ⟨s.drivenBridges_channel c, fun h => ?_, fun h => ⟨?_, fun hp => ?_⟩,
    fun h => ⟨?_, ?_⟩⟩, s.sameExcept_withDrive _⟩, ⟨_, rfl, rfl, rfl, fun k => ?_, rfl, ?_⟩⟩
  · simp [State.bridgePins, h, State.appliedDuty, s.zeroDuty_of_driving h]
  · simp [State.bridgePins, h]
  · exact s.appliedDuty_of_zeroDuty c (s.zeroDuty_of_not_driving (by simp [h]) hp)
  · simp [State.bridgePins, h]
  · exact s.appliedDuty_of_zeroDuty c (s.zeroDuty_of_not_driving (by simp [h]) (s.part_of_braking h))
  · simp [-Fin.getElem_fin, State.lampPin, vecMap_get]
  · exact State.sameExcept_trans (State.sameExcept_mono (s.sameExcept_withSmoke _) (by simp))
      (State.sameExcept_mono (State.sameExcept_withLamps _ _) (by simp))

/-! ### Requests a part state does not take -/

/-- A request that the part state does not take is refused and changes nothing else (R166). -/
theorem State.takeCommand_refused (s : State) {code : Nat → Bool} {taken : PartState → Bool} {act : State → State}
    (hc : code s.command.toNat = true) (ht : taken s.part = false) :
    s.takeCommand code taken act = { s with command := 0#8, commandResult := .refused } := by
  simp only [State.takeCommand, hc, ht, if_true, Bool.false_eq_true, if_false]
  rfl

/-- Settles O42, row by row. -/
theorem commandsRefusedByPartState : Obligations.CommandsRefusedByPartState := by
  intro s hs
  refine ⟨fun h _ _ => ?_, fun h _ => ?_, fun h _ _ => ?_, fun h hp => ?_, fun h => ?_⟩ <;>
    refine congrArg Host.Outcome.next (s.takeCommand_refused ?_ ?_)
  · simp [h]
  · simp [*]
  · simp [h]
  · simp [*]
  · simp [h]
  · simp [*]
  · simp [h]
  · simp [*]
  · simpa using h
  · rfl

/-! ### Sweeps and visits -/

/-- A section is due where its revision is not 0 and stands unanswered (R161). -/
theorem State.isDue_iff (s : State) (k : Fin 15) : s.isDue k = true ↔
    s.storeAt (sectionBase k) ≠ 0#8 ∧
      (s.storeAt (sectionBase k) ≠ s.storeAt (sectionBase k + 1) ∨ s.adoption.adopted[k] = false) := by
  simp [-Fin.getElem_fin, State.isDue, State.revision, State.adoptedByte]

/-- VISIT_BEGIN of a unit that is free in RUN. -/
theorem exec_visitBegin_free (s : State) (hp : s.part = .run) (hv : s.adoption.visit = none) :
    exec .visitBegin s = .next s.nextVisit :=
  congrArg Host.Outcome.next (if_pos ⟨hp, hv⟩)

/-- The next visit is to the front of the nudge list. -/
theorem State.nextVisit_nudge (s : State) (k : Fin 15) (ks : List (Fin 15)) (hn : s.adoption.nudges = k :: ks) :
    s.nextVisit = (s.withAdoption { s.adoption with nudges := ks }).beginVisit k := by
  simp only [State.nextVisit, hn]

/-- With no nudge the next visit is the sweep's. -/
theorem State.nextVisit_sweep (s : State) (k : Fin 15) (hn : s.adoption.nudges = []) (hs : s.adoption.sweep = some k.val) :
    s.nextVisit = (s.withAdoption { s.adoption with sweep := some (k.val + 1) }).beginVisit k := by
  unfold State.nextVisit
  split
  · simp_all
  · split
    · rename_i n h
      cases (hs.symm.trans h)
      rw [dif_pos k.isLt]
    · simp_all

/-- Settles O48: the timer and the deferred sweep by what is in progress, a visit by the list it comes from. -/
theorem sweepsAndVisitsBegin : Obligations.SweepsAndVisitsBegin := by
  intro s
  refine ⟨fun hr => ⟨fun hs => ?_, fun hs => ?_⟩, fun hd hs => ?_, fun h => ?_, fun hp hv => ⟨fun k ks hn => ?_,
    fun k hn hs => ?_, fun hn hs => ?_⟩, fun h => ?_⟩
  · simp only [exec, execSweepTimerExpiry, hr, hs, if_true, Option.isSome_none, Bool.false_eq_true, if_false]
    rfl
  · have hsome : s.adoption.sweep.isSome = true := by simpa [Option.isSome_iff_ne_none] using hs
    simp only [exec, execSweepTimerExpiry, hr, hsome, if_true]
    rfl
  · exact congrArg Host.Outcome.next (if_pos ⟨hd, hs⟩)
  · exact congrArg Host.Outcome.next (if_neg fun hx => h.elim (by simp [hx.1]) (· hx.2))
  · rw [exec_visitBegin_free s hp hv]
    have due := State.isDue_iff (s.withAdoption { s.adoption with nudges := ks }) k
    refine ⟨fun hd => ?_, fun hd => ?_⟩ <;> simp only [State.nextVisit_nudge s k ks hn, State.beginVisit]
    · rw [if_pos (due.mpr hd)]
      rfl
    · rw [if_neg (fun hx => hd (due.mp hx))]
      rfl
  · rw [exec_visitBegin_free s hp hv]
    have due := State.isDue_iff (s.withAdoption { s.adoption with sweep := some (k.val + 1) }) k
    refine ⟨fun hd => ?_, fun hd => ?_⟩ <;> simp only [State.nextVisit_sweep s k hn hs, State.beginVisit]
    · rw [if_pos (due.mpr hd)]
      rfl
    · rw [if_neg (fun hx => hd (due.mp hx))]
      rfl
  · rw [exec_visitBegin_free s hp hv]
    simp [State.nextVisit, hn, hs]
  · exact congrArg Host.Outcome.next (if_neg fun hx => h.elim (· hx.1) (· hx.2))

end Sys2Proof.Machine

/-! ## The frame finder and the event list -/

namespace Sys2Proof.Machine

-- One proof at a time: proofs that wait for one another would each hold a thread.
set_option Elab.async false

/-! ### The frame finder -/

/-- The finder's return to HUNT counts a frame in LENGTH, BODY or CHECK as abandoned (R139). -/
theorem FinderState.inFrame_iff (f : FinderState) :
    f.inFrame = true ↔ f = .length ∨ f = .body ∨ f = .check := by
  cases f <;> simp [FinderState.inFrame]

/-- The finder back in HUNT, with what it counts. -/
theorem State.finderHunts_eq (s : State) (counted : Bool)
    (h : counted = true ↔ s.radio.finder = .length ∨ s.radio.finder = .body ∨ s.radio.finder = .check) :
    s.finderHunts = { s with radio := { s.radio with
      finder := .hunt, buffer := .empty, gapTimer := .stopped,
      abandoned := if counted then s.radio.abandoned + 1#16 else s.radio.abandoned } } := by
  have hc : s.radio.finder.inFrame = counted := by
    rw [Bool.eq_iff_iff, FinderState.inFrame_iff, h]
  simp only [State.finderHunts, Radio.toHunt, hc]
  rfl

/-- A byte is taken in an active part state. -/
theorem exec_radioByte_byte (s : State) (b : Byte) (h : s.part.active = true) :
    exec (.radioByte (.byte b)) s = .next (s.finderByte b) :=
  congrArg Host.Outcome.next (if_pos h)

theorem exec_radioByte_framingError (s : State) (h : s.part.active = true) :
    exec (.radioByte .framingError) s = .next s.finderError :=
  congrArg Host.Outcome.next (if_pos h)

/-- A framing error outside HUNT brings the finder back there. -/
theorem State.finderError_of_ne_hunt (s : State) (h : s.radio.finder ≠ .hunt) : s.finderError = s.finderHunts := by
  unfold State.finderError
  split <;> first | rfl | contradiction

/-- In BODY the byte joins the body, which is complete at its length. -/
theorem State.finderByte_body (s : State) (b : Byte) (h : s.radio.finder = .body) :
    s.finderByte b =
      s.finderGoesOn (if s.radio.buffer.body.length + 1 < s.radio.buffer.len.toNat then .body else .check)
        { s.radio.buffer with body := s.radio.buffer.body ++ [b] } := by
  have hl : (if s.radio.buffer.len.toNat ≤ (s.radio.buffer.body ++ [b]).length then FinderState.check else .body) =
      if s.radio.buffer.body.length + 1 < s.radio.buffer.len.toNat then .body else .check := by
    rw [List.length_append, List.length_singleton]
    split <;> split <;> first | rfl | omega
  simp only [State.finderByte, h, ← hl]

/-- Settles O34: by the finder's states, a return to HUNT by what it counts. -/
theorem frameFinderMovesOnEachByte : Obligations.FrameFinderMovesOnEachByte := by
  intro s b
  refine ⟨fun hp input => ?_, fun ha => ⟨fun h => ⟨?_, ?_⟩, fun h => ⟨?_, ?_⟩, fun h => ?_, fun h => ?_, fun h hc => ?_,
    fun high h hc => ?_, fun h => ?_⟩, fun h => ?_, fun h => ?_⟩
  · have ha : ¬ s.part.active = true := by rcases hp with hp | hp <;> simp [hp, PartState.active]
    exact congrArg Host.Outcome.next (if_neg ha)
  · rw [exec_radioByte_byte s b ha]
    simp only [State.finderByte, h]
    split <;> rfl
  · rw [exec_radioByte_framingError s ha]
    simp only [State.finderError, h]
  · rw [exec_radioByte_byte s b ha]
    simp only [State.finderByte, h, s.finderHunts_eq false (by simp [h])]
    split
    · rfl
    · split <;> rfl
  · rw [exec_radioByte_framingError s ha, s.finderError_of_ne_hunt (by simp [h]),
      s.finderHunts_eq false (by simp [h])]
  · rw [exec_radioByte_byte s b ha]
    simp only [State.finderByte, h, s.finderHunts_eq true (by simp [h])]
    split <;> rfl
  · rw [exec_radioByte_byte s b ha, s.finderByte_body b h]
    rfl
  · rw [exec_radioByte_byte s b ha]
    simp only [State.finderByte, h, hc]
    rfl
  · rw [exec_radioByte_byte s b ha]
    simp only [State.finderByte, h, hc]
    rfl
  · rw [exec_radioByte_framingError s ha, s.finderError_of_ne_hunt (by rcases h with h | h | h <;> simp [h]),
      s.finderHunts_eq true (by simpa using h)]
  · refine congrArg Host.Outcome.next (if_neg ?_)
    rw [h]
    exact Bool.false_ne_true
  · have he : exec .gapTimerExpiry s = .next s.finderHunts := congrArg Host.Outcome.next (if_pos h)
    rw [he, s.finderHunts_eq (decide (_ ∨ _ ∨ _)) decide_eq_true_iff]

/-! ### The event list -/

/-- In a list that is sound the records below FAULT are those that hold no LOCKOUT. -/
theorem State.capped_eq (s : State) (h : s.EventListSound) :
    s.events.toList.countP EventRecord.capped =
      s.events.toList.countP fun e => e.filled && e.kind != some .lockout := by
  refine List.countP_congr fun e he => ?_
  obtain ⟨i, hi, rfl⟩ := List.getElem_of_mem he
  rw [Vector.length_toList] at hi
  have hk := h.2.1 ⟨i, hi⟩
  simp only [Fin.getElem_fin] at hk
  rw [Vector.getElem_toList]
  generalize s.events[i] = e at hk ⊢
  obtain ⟨filled, kind⟩ := e
  cases filled
  · simp [EventRecord.capped]
  · cases kind with
    | none => simp at hk
    | some k => cases k <;> simp [EventRecord.capped, EventKind.severity]

/-- A FILLED record of the kind and subject is the one a repeat finds. -/
theorem State.findRepeat_of_same (s : State) (h : s.EventListSound) (k : EventKind) (subject : Byte) (i : Fin 24)
    (hf : s.events[i].filled = true) (hk : s.events[i].kind = some k) (hs : s.events[i].subject = subject) :
    s.findRepeat k subject = some i := by
  cases hr : s.findRepeat k subject with
  | none => exact absurd ⟨hk, hs⟩ (State.findRepeat_none hr i hf)
  | some j =>
    obtain ⟨jf, jk, js⟩ := State.findRepeat_some hr
    rw [h.1 i j hf jf (.inl ⟨by rw [hk, jk], by rw [hs, js]⟩)]

/-- The first of the numbers in order that meets a test. -/
theorem find_finRange_eq_some {n : Nat} {p : Fin n → Bool} {i : Fin n} (hi : p i = true)
    (hj : ∀ j : Fin n, j < i → p j = false) : (List.finRange n).find? p = some i := by
  refine List.find?_eq_some_iff_getElem.mpr ⟨hi, i.val, by simp, by simp, fun j h => ?_⟩
  have := hj ⟨j, by omega⟩ h
  simp [this]

/-- The record a fill takes is the lowest FREE one. -/
theorem State.freeEvent_of_lowest (s : State) (i : Fin 24) (hi : s.events[i].filled = false)
    (hj : ∀ j : Fin 24, j < i → s.events[j].filled = true) : s.freeEvent = some i :=
  find_finRange_eq_some (by simpa using hi) fun j h => by simpa using hj j h

theorem State.freeEvent_of_full (s : State) (h : ∀ i : Fin 24, s.events[i].filled = true) : s.freeEvent = none :=
  List.find?_eq_none.mpr fun i _ => by simpa using h i

/-- No FILLED record of the kind and subject: no repeat. -/
theorem State.findRepeat_of_none (s : State) (k : EventKind) (subject : Byte)
    (h : ∀ i : Fin 24, ¬ (s.events[i].filled = true ∧ s.events[i].kind = some k ∧ s.events[i].subject = subject)) :
    s.findRepeat k subject = none :=
  List.find?_eq_none.mpr fun i _ => by simpa [-Fin.getElem_fin, and_assoc] using h i

/-- The next seq stands in no FILLED record. -/
theorem State.seqs_free_iff (s : State) :
    (s.events.toList.all fun e => !(e.filled && e.seq == s.nextEventSeq)) = true ↔
      ¬ ∃ i : Fin 24, s.events[i].filled = true ∧ s.events[i].seq = s.nextEventSeq := by
  rw [List.all_eq_true]
  refine ⟨fun h ⟨i, hf, hs⟩ => ?_, fun h e he => ?_⟩
  · simpa [-Fin.getElem_fin, hf, hs] using h s.events[i] (by simp)
  · obtain ⟨i, hi, rfl⟩ := List.getElem_of_mem he
    rw [Vector.length_toList] at hi
    rw [Vector.getElem_toList]
    by_contra hn
    exact h ⟨⟨i, hi⟩, by simpa using hn⟩

/-- LOCKOUT is the one kind of severity FAULT. -/
theorem EventKind.severity_eq_fault (k : EventKind) : k.severity = .fault ↔ k = .lockout := by
  cases k <;> simp [EventKind.severity]

/-- The record a fill takes: none without room under the cap or with the seq taken, else the lowest FREE one. -/
theorem State.eventRoom_eq (s : State) (h : s.EventListSound) (k : EventKind) :
    s.eventRoom k =
      if (k = .lockout ∨ s.events.toList.countP (fun e => e.filled && e.kind != some .lockout) < 20) ∧
          ¬ ∃ i : Fin 24, s.events[i].filled = true ∧ s.events[i].seq = s.nextEventSeq
      then s.freeEvent else none := by
  unfold State.eventRoom
  simp only [s.seqs_free_iff, s.capped_eq h, EventKind.severity_eq_fault]

/-- A repeat, in an active part state. -/
theorem State.event_repeat (s : State) {k : EventKind} {subject : Byte} {i : Fin 24} (detail : Half)
    (ha : s.part.active = true) (h : s.findRepeat k subject = some i) :
    s.event k subject detail = (s.withEvents (s.events.set i (s.repeatedRecord s.events[i] detail))).raise .event := by
  simp only [State.event, ha, h, Bool.not_true, Bool.false_eq_true, if_false]

/-- A fill, in an active part state. -/
theorem State.event_fill (s : State) {k : EventKind} {subject : Byte} {i : Fin 24} (detail : Half)
    (ha : s.part.active = true) (h : s.findRepeat k subject = none) (hr : s.eventRoom k = some i) :
    s.event k subject detail =
      ((s.withEvents (s.events.set i (s.filledRecord k subject detail))).withEventSeq s.nextEventSeq).raise .event := by
  simp only [State.event, ha, h, hr, Bool.not_true, Bool.false_eq_true, if_false]

/-- A dropped event, in an active part state. -/
theorem State.event_drop (s : State) {k : EventKind} {subject : Byte} (detail : Half)
    (ha : s.part.active = true) (h : s.findRepeat k subject = none) (hr : s.eventRoom k = none) :
    s.event k subject detail = s.raise .listFull := by
  simp only [State.event, ha, h, hr, Bool.not_true, Bool.false_eq_true, if_false]

/-- In an active part state a raise sets its flag. -/
theorem State.raise_active (s : State) (a : AttnSource) (h : s.part.active = true) :
    s.raise a = s.setPending a.index true := if_pos h

@[simp] theorem State.raise_events (s : State) (a : AttnSource) : (s.raise a).events = s.events :=
  s.sameExcept_raise a .events (by simp)

@[simp] theorem State.raise_eventSeq (s : State) (a : AttnSource) : (s.raise a).eventSeq = s.eventSeq :=
  s.sameExcept_raise a .eventSeq (by simp)

/-- What a raise leaves in the attention unit depends on the unit, the part state and the configuration alone. -/
theorem State.raise_attention_congr {s t : State} (a : AttnSource) (hp : t.part = s.part)
    (hs : ∀ n, t.storeAt n = s.storeAt n) (h : t.attention = s.attention) :
    (t.raise a).attention = (s.raise a).attention := by
  simp only [State.raise, hp]
  split
  · simp only [State.setPending, State.evaluateAttn, State.attnLevel, State.attnListens, State.withAttention_attention,
      State.storeAt_withAttention, hs, h]
    rfl
  · exact h

/-- Settles O53: a repeat, a fill or a drop, by what the list holds of the kind, the cap and the seq. -/
theorem eventsRepeatFillOrDrop : Obligations.EventsRepeatFillOrDrop := by
  intro s k subject detail hs
  refine ⟨fun hp => ?_, fun ha => ⟨fun i ⟨hf, hk, hb⟩ => ?_, fun hn hroom hseq i hi hj => ?_, fun hn hdrop => ?_⟩,
    s.sameExcept_event k subject detail⟩
  · have ha : (!s.part.active) = true := by rcases hp with hp | hp <;> simp [hp, PartState.active]
    exact if_pos ha
  · rw [s.event_repeat detail ha (s.findRepeat_of_same hs k subject i hf hk hb)]
    refine ⟨by simp [State.repeatedRecord], fun j hj => ?_, by simp, State.raise_attention_congr _ rfl (fun _ => rfl) rfl⟩
    simp [Fin.val_ne_of_ne hj.symm]
  · have room : s.eventRoom k = some i := by
      rw [s.eventRoom_eq hs, if_pos ⟨hroom, hseq⟩]
      exact s.freeEvent_of_lowest i hi hj
    rw [s.event_fill detail ha (s.findRepeat_of_none k subject hn) room]
    refine ⟨by simp [State.filledRecord, State.nextEventSeq], fun j hj => ?_, by simp [State.nextEventSeq],
      State.raise_attention_congr _ rfl (fun _ => rfl) rfl⟩
    simp [Fin.val_ne_of_ne hj.symm]
  · have room : s.eventRoom k = none := by
      rw [s.eventRoom_eq hs]
      split
      · rename_i h
        rcases hdrop with hd | hd | hd
        · exact absurd h.1 hd
        · exact absurd hd h.2
        · exact s.freeEvent_of_full hd
      · rfl
    rw [s.event_drop detail ha (s.findRepeat_of_none k subject hn) room]
    exact ⟨by simp, by simp, rfl⟩

end Sys2Proof.Machine

/-! ## Frames read off, and what the event list and ATTN depend on -/

namespace Sys2Proof.Machine

-- One proof at a time: proofs that wait for one another would each hold a thread.
set_option Elab.async false

/-- A component outside a footprint stands. -/
theorem State.Keeps.same {s t : State} {l : List Component} (h : s.Keeps t l) (c : Component)
    (hc : c ∉ l := by decide) : c.same s t :=
  h.frame c hc

/-! ### The bytes below the readings groups -/

/-- `t` is `s` but for the components named, and of the store the readings groups alone. -/
def State.Shows (s t : State) (l : List Component) : Prop :=
  s.SameExcept t l ∧ ∀ a, a < readingsBase → t.storeAt a = s.storeAt a

namespace State.Shows
variable {s t u : State} {l m : List Component}

theorem refl (s : State) (l : List Component) : s.Shows s l := ⟨s.sameExcept_refl l, fun _ _ => rfl⟩

theorem trans (h : s.Shows t l) (k : t.Shows u l) : s.Shows u l :=
  ⟨sameExcept_trans h.1 k.1, fun a ha => (k.2 a ha).trans (h.2 a ha)⟩

theorem mono (h : s.Shows t l) (sub : l ⊆ m := by decide) : s.Shows t m := ⟨sameExcept_mono h.1 sub, h.2⟩

theorem ite {c : Prop} [Decidable c] (ht : c → s.Shows t l) (hu : ¬ c → s.Shows u l) :
    s.Shows (if c then t else u) l := by
  split
  · exact ht ‹_›
  · exact hu ‹_›

/-- A component outside the footprint stands. -/
theorem same (h : s.Shows t l) (c : Component) (hc : c ∉ l := by decide) : c.same s t := h.1 c hc

/-- A frame that leaves the store alone. -/
theorem of_frame (h : s.SameExcept t l) (hl : .store ∉ l := by decide) : s.Shows t l := ⟨h, fun a _ => h .store hl a⟩

/-- The same of an operation's footprint. -/
theorem of_keeps (h : s.Keeps t l) (hl : .store ∉ l := by decide) : s.Shows t l := of_frame h.frame hl

end State.Shows

/-- A write at or behind the readings groups. -/
theorem State.shows_writeStore (s : State) (a : Nat) (bs : List Byte) (h : readingsBase ≤ a) :
    s.Shows (s.writeStore a bs) [.store] :=
  ⟨s.sameExcept_writeStore a bs, fun n hn => s.storeAt_writeStore_outside a n bs (.inl (by omega))⟩

theorem State.shows_writeGroup (s : State) (base offset : Nat) (fields : List Byte)
    (h : readingsBase ≤ base := by decide) : s.Shows (s.writeGroup base offset fields) [.store] :=
  (s.shows_writeStore _ _ (by omega)).trans (State.shows_writeStore _ _ _ h)

/-! ### What events and raises depend on -/

/-- `t` attends as `s` does: the part state, the time, the attention configuration, the event list, its counter and the
attention unit stand, so that an event or a raise does the same in both (R170 to R173). -/
def State.AttendsAs (t s : State) : Prop :=
  (t.part = s.part ∧ t.time = s.time ∧ ∀ a, 0x20 ≤ a → a < 0x39 → t.storeAt a = s.storeAt a) ∧ t.EventsAs s

namespace State.AttendsAs
variable {s t u : State} {l : List Component}

theorem refl (s : State) : s.AttendsAs s := ⟨⟨rfl, rfl, fun _ _ _ => rfl⟩, rfl, rfl, rfl⟩

theorem trans (h : t.AttendsAs s) (k : u.AttendsAs t) : u.AttendsAs s := by
  obtain ⟨⟨p, m, c⟩, e, q, a⟩ := h
  obtain ⟨⟨p', m', c'⟩, e', q', a'⟩ := k
  exact ⟨⟨p'.trans p, m'.trans m, fun n h₁ h₂ => (c' n h₁ h₂).trans (c n h₁ h₂)⟩, e'.trans e, q'.trans q, a'.trans a⟩

theorem symm (h : t.AttendsAs s) : s.AttendsAs t := by
  obtain ⟨⟨p, m, c⟩, e, q, a⟩ := h
  exact ⟨⟨p.symm, m.symm, fun n h₁ h₂ => (c n h₁ h₂).symm⟩, e.symm, q.symm, a.symm⟩

/-- A footprint beside the part state, the time and the lists, which of the store holds the readings at most. -/
theorem of_shows (h : s.Shows t l)
    (hl : .part ∉ l ∧ .time ∉ l ∧ .events ∉ l ∧ .eventSeq ∉ l ∧ .attention ∉ l := by decide) : t.AttendsAs s := by
  obtain ⟨hp, ht, he, hq, ha⟩ := hl
  refine ⟨⟨h.1 .part hp, h.1 .time ht, fun a _ h₂ => h.2 a ?_⟩, h.1 .events he, h.1 .eventSeq hq, h.1 .attention ha⟩
  simp only [readingsBase]
  omega

theorem of_frame (h : s.SameExcept t l)
    (hl : .part ∉ l ∧ .time ∉ l ∧ .events ∉ l ∧ .eventSeq ∉ l ∧ .attention ∉ l := by decide)
    (hs : .store ∉ l := by decide) : t.AttendsAs s :=
  of_shows (.of_frame h hs) hl

theorem of_keeps (h : s.Keeps t l)
    (hl : .part ∉ l ∧ .time ∉ l ∧ .events ∉ l ∧ .eventSeq ∉ l ∧ .attention ∉ l := by decide)
    (hs : .store ∉ l := by decide) : t.AttendsAs s :=
  of_frame h.frame hl hs

theorem attnListens (h : t.AttendsAs s) (n : Fin 12) : t.attnListens n = s.attnListens n := by
  obtain ⟨⟨-, -, c⟩, -⟩ := h
  have hb : attnConfigBase = 0x20 := rfl
  have hn := n.isLt
  simp only [State.attnListens, c (attnConfigBase + n.val) (by omega) (by omega),
    c (attnConfigBase + 12 + n.val) (by omega) (by omega), c (attnConfigBase + 24) (by omega) (by omega)]

theorem setPending (h : t.AttendsAs s) (n : Fin 12) (b : Bool) : (t.setPending n b).AttendsAs (s.setPending n b) := by
  have listens := h.attnListens
  obtain ⟨fixed, e, q, a⟩ := h
  refine ⟨fixed, e, q, ?_⟩
  have level : ∀ (v : Vector Bool 12), (List.finRange 12).any (fun n => v[n] && t.attnListens n) =
      (List.finRange 12).any fun n => v[n] && s.attnListens n := fun v => by simp only [listens]
  have := level (s.attention.pending.set n b)
  show (⟨_, _⟩ : Attention) = ⟨_, _⟩
  rw [a]
  exact congrArg _ this

theorem raise (h : t.AttendsAs s) (a : AttnSource) : (t.raise a).AttendsAs (s.raise a) := by
  have hp := h.1.1
  simp only [State.raise, hp]
  split
  · exact h.setPending _ _
  · exact h

theorem event (h : t.AttendsAs s) (k : EventKind) (subject : Byte) (detail : Half) :
    (t.event k subject detail).AttendsAs (s.event k subject detail) := by
  have lists := h
  obtain ⟨⟨hp, ht, hc⟩, he, hq, ha⟩ := h
  have hrep : t.findRepeat k subject = s.findRepeat k subject := by simp only [State.findRepeat, he]
  have hroom : t.eventRoom k = s.eventRoom k := by
    simp only [State.eventRoom, State.freeEvent, State.nextEventSeq, he, hq]
    rfl
  have fill : ∀ (x : Vector EventRecord 24) (n : Half),
      ((t.withEvents x).withEventSeq n).AttendsAs ((s.withEvents x).withEventSeq n) :=
    fun _ _ => ⟨⟨hp, ht, hc⟩, rfl, rfl, ha⟩
  have put : ∀ x : Vector EventRecord 24, (t.withEvents x).AttendsAs (s.withEvents x) :=
    fun _ => ⟨⟨hp, ht, hc⟩, rfl, hq, ha⟩
  have hup : t.uptime = s.uptime := by simp only [State.uptime, ht]
  have hseq : t.nextEventSeq = s.nextEventSeq := by simp only [State.nextEventSeq, hq]
  simp only [State.event, hp, hrep, hroom, he]
  split
  · exact lists
  · split
    · rw [show t.repeatedRecord = s.repeatedRecord by unfold State.repeatedRecord; rw [hup]]
      exact (put _).raise _
    · split
      · rw [show t.filledRecord k subject detail = s.filledRecord k subject detail by
          unfold State.filledRecord; rw [hup, hseq], hseq]
        exact (fill _ _).raise _
      · exact lists.raise _

end State.AttendsAs

end Sys2Proof.Machine

/-! ## Forwards, chuffs and the cam -/

namespace Sys2Proof.Machine

-- One proof at a time: proofs that wait for one another would each hold a thread.
set_option Elab.async false

/-! ### The inbound list -/

/-- The record a forward takes: none while the next seq is taken, else the lowest FREE one. -/
theorem State.inboundRoom_of_free (s : State) (i : Fin 8)
    (ht : ¬ ∃ j : Fin 8, s.inbound[j].filled = true ∧ s.inbound[j].seq = s.radio.inboundSeq + 1#8)
    (hi : s.inbound[i].filled = false) (hj : ∀ j : Fin 8, j < i → s.inbound[j].filled = true) :
    s.inboundRoom = some i := by
  unfold State.inboundRoom
  rw [if_neg, find_finRange_eq_some (by simpa using hi) fun j h => by simpa using hj j h]
  rw [List.any_eq_true]
  rintro ⟨r, hr, hp⟩
  obtain ⟨j, hj, rfl⟩ := List.getElem_of_mem hr
  rw [Vector.length_toList] at hj
  rw [Vector.getElem_toList] at hp
  exact ht ⟨⟨j, hj⟩, by simpa using hp⟩

theorem State.inboundRoom_of_full (s : State)
    (h : (∃ j : Fin 8, s.inbound[j].filled = true ∧ s.inbound[j].seq = s.radio.inboundSeq + 1#8) ∨
      ∀ j : Fin 8, s.inbound[j].filled = true) : s.inboundRoom = none := by
  unfold State.inboundRoom
  rcases h with ⟨j, hf, hs⟩ | h
  · rw [if_pos]
    exact List.any_eq_true.mpr ⟨s.inbound[j], by simp, by simpa using ⟨hf, hs⟩⟩
  · split
    · rfl
    · exact List.find?_eq_none.mpr fun i _ => by simpa using h i

/-- Two bytes side by side, the first the high one. -/
theorem append_eq_ofNat (a b : Byte) : a ++ b = BitVec.ofNat 16 (a.toNat * 256 + b.toNat) := by
  apply BitVec.eq_of_toNat_eq
  rw [BitVec.toNat_append, BitVec.toNat_ofNat, Nat.shiftLeft_eq, Nat.mod_eq_of_lt (by omega),
    ← Nat.shiftLeft_eq, ← Nat.shiftLeft_add_eq_or_of_lt b.isLt, Nat.shiftLeft_eq]

/-- A forward with room fills its record (R147). -/
theorem State.forward_fill (s : State) (h : Heard) {i : Fin 8} (hr : s.inboundRoom = some i) :
    s.forward h = ((s.withInbound (s.inbound.set i
      ⟨true, s.radio.inboundSeq + 1#8, h.sender, h.counter, h.command, h.via, h.payload⟩)).withRadio
        { s.radio with inboundSeq := s.radio.inboundSeq + 1#8 }).raise .inbox := by
  simp only [State.forward, hr]

/-- A forward without room is dropped, counted and raised (R148). -/
theorem State.forward_drop (s : State) (h : Heard) (hr : s.inboundRoom = none) :
    s.forward h = ((s.withRadio { s.radio with inboundDropped := s.radio.inboundDropped + 1#16 }).event
      .inboxDropped 0#8 (h.sender ++ h.command)).raise .inboxFull := by
  simp only [State.forward, hr, append_eq_ofNat]

@[simp] theorem State.raise_inbound (s : State) (a : AttnSource) : (s.raise a).inbound = s.inbound :=
  (s.keeps_raise a).same .inbound

@[simp] theorem State.raise_radio (s : State) (a : AttnSource) : (s.raise a).radio = s.radio :=
  (s.keeps_raise a).same .radio

/-- Settles O38: by the room the list has. -/
theorem forwardFillsOrDrops : Obligations.ForwardFillsOrDrops := by
  intro s h
  dsimp only
  refine ⟨fun i ht hi hj => ?_, fun hd => ?_⟩
  · rw [s.forward_fill h (s.inboundRoom_of_free i ht hi hj)]
    refine ⟨by simp, fun j hj => by simp [Fin.val_ne_of_ne hj.symm], by simp,
      (State.AttendsAs.raise (s := s) ?_ .inbox).2.2.2, ?_⟩
    · exact ⟨⟨rfl, rfl, fun _ _ _ => rfl⟩, rfl, rfl, rfl⟩
    · exact State.sameExcept_trans (State.sameExcept_mono (s.sameExcept_withInbound _) (by simp))
        (State.sameExcept_trans (State.sameExcept_mono (State.sameExcept_withRadio _ _) (by simp))
          (State.sameExcept_mono (State.sameExcept_raise _ _) (by simp)))
  · have attends : (s.withRadio { s.radio with inboundDropped := s.radio.inboundDropped + 1#16 }).AttendsAs s :=
      .of_frame (s.sameExcept_withRadio _)
    rw [s.forward_drop h (s.inboundRoom_of_full hd)]
    refine ⟨?_, ?_, ((attends.event .inboxDropped 0#8 (h.sender ++ h.command)).raise .inboxFull).2, ?_⟩
    · rw [State.raise_inbound]
      exact (State.keeps_event _ _ _ _).same .inbound
    · rw [State.raise_radio]
      exact (State.keeps_event _ _ _ _).same .radio
    · exact State.sameExcept_trans (State.sameExcept_mono (s.sameExcept_withRadio _) (by simp))
        (State.sameExcept_trans (State.sameExcept_mono (State.sameExcept_event _ _ _ _) (by simp))
          (State.sameExcept_mono (State.sameExcept_raise _ _) (by simp)))

/-! ### A chuff at its receivers -/

section
variable (s : State)

/-- A START keeps the count of the last chuff, the bank and its tables. -/
theorem State.startCue_sound (n : Nat) (gain : Option Nat) (source : CueSource) :
    (s.startCue n gain source).1.sound.lastChuff = s.sound.lastChuff ∧
      (s.startCue n gain source).1.sound.bank = s.sound.bank ∧
      (s.startCue n gain source).1.sound.cues = s.sound.cues := by
  rcases s.startCue_cases n gain source with ⟨-, e⟩ | ⟨-, -, e⟩ | ⟨-, -, -, e⟩ | ⟨r, -, -, -, h⟩
  · simp [e]
  · simp [e]
  · simp [e]
  · rcases h with ⟨v, -, -, e⟩ | ⟨v, -, -, e⟩ | ⟨v, -, -, e⟩ | ⟨v, -, -, -, e⟩ | ⟨-, -, -, e⟩
    · simp [e]
    · simp [e, Sound.startVoice]
    · simp [e, Sound.startVoice]
    · simp [e, Sound.startVoice]
    · have : (s.refuseNoVoice n source).sound = { s.sound with noVoice := s.sound.noVoice + 1#16 } :=
        (State.keeps_event _ _ _ _).same .sound
      rw [e]
      simp [this]

/-- The engine after a chuff: its count stored. -/
theorem State.soundChuff_sound (count : Half) :
    (s.soundChuff count).sound.lastChuff = count ∧ (s.soundChuff count).sound.bank = s.sound.bank := by
  unfold State.soundChuff
  dsimp only
  split
  · exact ⟨rfl, rfl⟩
  · obtain ⟨last, bank, -⟩ := State.startCue_sound (s.withSound { s.sound with lastChuff := count }) _ _ .chuff
    exact ⟨last, bank⟩

/-- A chuff delivered: the count, its time, and the engine's count of it (R86). -/
theorem State.deliverChuff_cadence :
    s.deliverChuff.cadence = { s.cadence with chuffs := s.cadence.chuffs + 1#16, lastChuff := some s.time } :=
  ((State.keeps_smokeChuff _).same .cadence).trans ((State.keeps_soundChuff _ _).same .cadence)

theorem State.deliverChuff_sound : s.deliverChuff.sound.lastChuff = s.cadence.chuffs + 1#16 := by
  rw [show s.deliverChuff.sound = _ from (State.keeps_smokeChuff _).same .sound]
  exact (State.soundChuff_sound _ _).1

/-- A synthetic chuff: as any chuff, with the timer set one interval on (R85). -/
theorem State.syntheticChuff_cadence (i : Nat) :
    (s.syntheticChuff i).cadence = { s.cadence with
      chuffs := s.cadence.chuffs + 1#16, lastChuff := some s.time,
      chuffTimer := .running (millis s.time + millis i) } := by
  have ht : s.deliverChuff.time = s.time := s.keeps_deliverChuff.same .time
  simp only [State.syntheticChuff, State.withCadence_cadence, s.deliverChuff_cadence, State.startTimer, ht]

end

/-! ### The choice of source -/

section
variable (s : State)

/-- A source that stands settled stays. -/
theorem State.settleSource_of_settled (h : s.SourceSettled) : s.settleSource = s :=
  if_pos h.symm

/-- A source that settles as CAM: the interval and its timer go if it was SYNTHETIC (R83). -/
theorem State.settleSource_of_cam (h : settledSource s.cadence.profile.mode s.cadence.cam = .cam) :
    ∃ (i : Option Nat) (t : Timer), s.settleSource =
      s.withCadence { s.cadence with source := .cam, interval := i, chuffTimer := t } := by
  unfold State.settleSource
  dsimp only
  rw [h]
  split
  · rename_i hs
    exact ⟨s.cadence.interval, s.cadence.chuffTimer, by rw [hs]; rfl⟩
  · exact ⟨none, .stopped, rfl⟩

/-- The synthetic interval of the constant and the held V (R84). -/
theorem syntheticInterval_eq (k v : Nat) : syntheticInterval k v = max 20 (min 5000 (k * 256 / v)) :=
  clampNat_eq _ _ _ (by omega)

/-- With a held V of 0 there is no interval and no timer. -/
theorem State.recomputeInterval_still (h : s.cadence.heldV = 0) :
    s.recomputeInterval = s.withCadence { s.cadence with interval := none, chuffTimer := .stopped } :=
  if_pos h

/-- The time since the last chuff has reached the interval. -/
theorem State.chuffDue_iff (i : Nat) :
    s.chuffDue i = true ↔ ∀ last, s.cadence.lastChuff = some last → i ≤ s.time - last := by
  unfold State.chuffDue State.sinceChuff
  cases s.cadence.lastChuff <;> simp

/-- An interval that has been reached brings a chuff at once. -/
theorem State.recomputeInterval_due (hv : 0 < s.cadence.heldV)
    (hd : s.chuffDue (syntheticInterval s.cadence.profile.constant s.cadence.heldV) = true) :
    s.recomputeInterval =
      (s.withCadence { s.cadence with
        interval := some (syntheticInterval s.cadence.profile.constant s.cadence.heldV) }).syntheticChuff
          (syntheticInterval s.cadence.profile.constant s.cadence.heldV) := by
  unfold State.recomputeInterval
  dsimp only
  rw [if_neg (by omega), if_pos]
  exact hd

/-- One that has not sets the timer from the last chuff. -/
theorem State.recomputeInterval_early (hv : 0 < s.cadence.heldV)
    (hd : s.chuffDue (syntheticInterval s.cadence.profile.constant s.cadence.heldV) = false) :
    s.recomputeInterval =
      s.withCadence { s.cadence with
        interval := some (syntheticInterval s.cadence.profile.constant s.cadence.heldV)
        chuffTimer := .running (millis (s.cadence.lastChuff.getD 0 +
          syntheticInterval s.cadence.profile.constant s.cadence.heldV)) } := by
  exact (if_neg (by omega)).trans (if_neg (show ¬ s.chuffDue _ = true by simp [hd]))

end

/-! ### The cam -/

/-- The record of an accepted edge at time `now` (R79 to R82). -/
def State.edgeSeen (s : State) (now : Nat) : Cadence :=
  let c := s.cadence
  { c with
    period := match c.lastEdge with
      | none => 0
      | some e => min (now - e) 16777215
    speed := match c.lastEdge with
      | none => 0
      | some e => wheelSpeed (min (now - e) 16777215) c.profile.pulses
    lastEdge := some now, odometer := c.odometer + 1#32,
    stoppedTimer := s.startTimer wheelStoppedInterval, cam := .live }

/-- An accepted edge records itself, settles the source, and is a chuff where the source is CAM. -/
theorem State.acceptEdge_eq (s : State) (now : Nat) :
    s.acceptEdge now =
      match (s.withCadence (s.edgeSeen now)).settleSource.cadence.source with
      | .cam => (s.withCadence (s.edgeSeen now)).settleSource.deliverChuff
      | .synthetic => (s.withCadence (s.edgeSeen now)).settleSource := by
  unfold State.acceptEdge State.edgeSeen
  dsimp only
  cases s.cadence.lastEdge <;> rfl

/-- In mode SYNTHETIC a settled source stays SYNTHETIC. -/
theorem State.acceptEdge_synthetic (s : State) (now : Nat) (hm : s.cadence.profile.mode = .synthetic)
    (hs : s.SourceSettled) : s.acceptEdge now = s.withCadence (s.edgeSeen now) := by
  have source : s.cadence.source = .synthetic := by rw [hs, hm]; rfl
  have settled : (s.withCadence (s.edgeSeen now)).SourceSettled := by
    show s.cadence.source = settledSource s.cadence.profile.mode .live
    rw [source, hm]
    rfl
  rw [State.acceptEdge_eq, State.settleSource_of_settled _ settled]
  show (match s.cadence.source with | .cam => _ | .synthetic => _) = _
  rw [source]

/-- In the other modes a live cam is the source, and the edge a chuff. -/
theorem State.acceptEdge_cam (s : State) (now : Nat) (hm : s.cadence.profile.mode ≠ .synthetic) :
    ∃ (i : Option Nat) (t : Timer), s.acceptEdge now =
      (s.withCadence { s.edgeSeen now with source := .cam, interval := i, chuffTimer := t }).deliverChuff := by
  have source : settledSource (s.withCadence (s.edgeSeen now)).cadence.profile.mode .live = .cam := by
    show settledSource s.cadence.profile.mode .live = .cam
    cases hc : s.cadence.profile.mode <;> simp_all [settledSource]
  obtain ⟨i, t, h⟩ := State.settleSource_of_cam (s.withCadence (s.edgeSeen now)) source
  exact ⟨i, t, by rw [State.acceptEdge_eq, h]; rfl⟩

/-- An edge in an active part state is judged against the debounce. -/
theorem exec_camEdge_active (s : State) (phase : Nat) (h : s.part.active = true) :
    exec (.camEdge phase) s = .next
      (if s.cadence.bounces (s.time * 100 + phase) then
        s.withCadence { s.cadence with rejected := s.cadence.rejected + 1#16 }
      else s.acceptEdge (s.time * 100 + phase)) := by
  simp only [exec, execCamEdge, h, Bool.not_true, Bool.false_eq_true, if_false]

/-- Settles O21: an edge inside the debounce is rejected, another accepted by the source mode. -/
theorem camEdgeAcceptedOrRejected : Obligations.CamEdgeAcceptedOrRejected := by
  intro s phase _ hs
  refine ⟨fun hp => ?_, fun e ha he hb => ?_, fun ha hb => ?_⟩
  · have ha : (!s.part.active) = true := by rcases hp with hp | hp <;> simp [hp, PartState.active]
    exact congrArg Host.Outcome.next (if_pos ha)
  · rw [exec_camEdge_active s phase ha, if_pos (by simp [Cadence.bounces, he, hb])]
    rfl
  · have accepted : s.cadence.bounces (s.time * 100 + phase) = false := by
      unfold Cadence.bounces
      cases he : s.cadence.lastEdge with
      | none => rfl
      | some e => exact decide_eq_false (by have := hb e he; omega)
    refine ⟨_, exec_camEdge_active s phase ha, ?_⟩
    rw [accepted, if_neg Bool.false_ne_true]
    by_cases hm : s.cadence.profile.mode = .synthetic
    · rw [s.acceptEdge_synthetic _ hm hs]
      refine ⟨rfl, rfl, rfl, rfl, rfl, fun hn => ?_, fun e he => ?_, fun _ => ⟨rfl, s.sameExcept_withCadence _⟩,
        fun h => absurd hm h, ?_, rfl, rfl, State.sameExcept_mono (s.sameExcept_withCadence _) (by simp)⟩
      · simp [State.edgeSeen, hn]
      · simp [State.edgeSeen, he, wheelSpeed]
      · show s.cadence.source = settledSource s.cadence.profile.mode .live
        rw [hs, hm]
        rfl
    · obtain ⟨i, t, h⟩ := s.acceptEdge_cam (s.time * 100 + phase) hm
      rw [h]
      have cadence := State.deliverChuff_cadence
        (s.withCadence { s.edgeSeen (s.time * 100 + phase) with source := .cam, interval := i, chuffTimer := t })
      refine ⟨by rw [cadence]; rfl, by rw [cadence]; rfl, by rw [cadence]; rfl, by rw [cadence]; rfl, by rw [cadence]; rfl,
        fun hn => ?_, fun e he => ?_, fun h => absurd h hm, fun _ => ⟨by rw [cadence]; rfl, by rw [cadence]; rfl, by rw [cadence]; rfl,
        State.deliverChuff_sound _⟩, ?_, by rw [cadence]; rfl, by rw [cadence]; rfl, ?_⟩
      · rw [cadence]
        simp [State.edgeSeen, hn]
      · rw [cadence]
        simp [State.edgeSeen, he, wheelSpeed]
      · show _ = settledSource _ _
        rw [cadence]
        show ChuffSource.cam = settledSource s.cadence.profile.mode .live
        cases hc : s.cadence.profile.mode <;> simp_all [settledSource]
      · exact State.sameExcept_trans (State.sameExcept_mono (s.sameExcept_withCadence _) (by simp))
          (State.sameExcept_mono (State.keeps_deliverChuff _).frame (by decide))

end Sys2Proof.Machine

/-! ## The stopped wheel and the synthetic chuff -/

namespace Sys2Proof.Machine

-- One proof at a time: proofs that wait for one another would each hold a thread.
set_option Elab.async false

/-! ### The stopped wheel -/

/-- The record of a wheel that has stopped, with a source (R81). -/
def Cadence.wheelStopped (c : Cadence) (source : ChuffSource) : Cadence :=
  { c with stoppedTimer := .stopped, cam := .stopped, speed := 0, source := source }

/-- In CAM and SYNTHETIC a stopped wheel leaves the source. -/
theorem exec_wheelStopped_kept (s : State) (he : s.hasExpired s.cadence.stoppedTimer = true)
    (hm : s.cadence.profile.mode ≠ .auto) (hs : s.SourceSettled) :
    exec .wheelStoppedExpiry s = .next (s.withCadence (s.cadence.wheelStopped s.cadence.source)) := by
  have taken : exec .wheelStoppedExpiry s =
      .next (s.withCadence (s.cadence.wheelStopped s.cadence.source)).settleSource := congrArg Host.Outcome.next (if_pos he)
  rw [taken, State.settleSource_of_settled]
  show s.cadence.source = settledSource s.cadence.profile.mode .stopped
  rw [hs]
  cases hc : s.cadence.profile.mode <;> first | rfl | exact absurd hc hm

/-- In AUTO the source becomes SYNTHETIC, and its interval is formed. -/
theorem exec_wheelStopped_auto (s : State) (he : s.hasExpired s.cadence.stoppedTimer = true)
    (hc : s.cadence.cam = .live) (hm : s.cadence.profile.mode = .auto) (hs : s.SourceSettled) :
    exec .wheelStoppedExpiry s = .next (s.withCadence (s.cadence.wheelStopped .synthetic)).recomputeInterval := by
  have source : s.cadence.source = .cam := by rw [hs, hm, hc]; rfl
  have taken : exec .wheelStoppedExpiry s =
      .next (s.withCadence (s.cadence.wheelStopped s.cadence.source)).settleSource := congrArg Host.Outcome.next (if_pos he)
  have new : settledSource (s.withCadence (s.cadence.wheelStopped s.cadence.source)).cadence.profile.mode
      (s.withCadence (s.cadence.wheelStopped s.cadence.source)).cadence.cam = .synthetic := by
    show settledSource s.cadence.profile.mode .stopped = .synthetic
    rw [hm]
    rfl
  rw [taken]
  unfold State.settleSource
  dsimp only
  rw [new]
  exact congrArg Host.Outcome.next (if_neg (show ¬ ChuffSource.synthetic = s.cadence.source by simp [source]))

/-- The cadence unit after a recomputed interval that has been reached. -/
theorem State.recomputeInterval_due_cadence (s : State) (hv : 0 < s.cadence.heldV)
    (hd : s.chuffDue (syntheticInterval s.cadence.profile.constant s.cadence.heldV) = true) :
    s.recomputeInterval.cadence = { s.cadence with
      interval := some (syntheticInterval s.cadence.profile.constant s.cadence.heldV)
      chuffs := s.cadence.chuffs + 1#16, lastChuff := some s.time
      chuffTimer := .running (millis s.time +
        millis (syntheticInterval s.cadence.profile.constant s.cadence.heldV)) } := by
  rw [s.recomputeInterval_due hv hd, State.syntheticChuff_cadence]
  rfl

/-- Settles O22: by the source mode, in AUTO by the held V and the interval reached. -/
theorem wheelStoppedSettlesTheSource : Obligations.WheelStoppedSettlesTheSource := by
  intro s
  refine ⟨fun he => ?_, fun he hc hs => ?_⟩
  · exact congrArg Host.Outcome.next (if_neg (by simp [he]))
  dsimp only
  by_cases hm : s.cadence.profile.mode = .auto
  · refine ⟨_, exec_wheelStopped_auto s he hc hm hs, ?_⟩
    have wide : s.SameExcept (s.withCadence (s.cadence.wheelStopped .synthetic)).recomputeInterval
        [.cadence, .sound, .smoke, .events, .eventSeq, .attention] :=
      State.sameExcept_trans (State.sameExcept_mono (s.sameExcept_withCadence _) (by simp))
        (State.sameExcept_mono (State.keeps_recomputeInterval _).frame (by decide))
    have settled : ChuffSource.synthetic = settledSource s.cadence.profile.mode .stopped := by rw [hm]; rfl
    rcases Nat.eq_zero_or_pos s.cadence.heldV with hv | hv
    · rw [State.recomputeInterval_still (s.withCadence (s.cadence.wheelStopped .synthetic)) hv] at wide ⊢
      refine ⟨rfl, rfl, rfl, rfl, rfl, rfl, settled, fun _ => ⟨rfl, ?_⟩, fun _ _ => ⟨rfl, rfl⟩, fun _ h => ?_, wide⟩
      · exact State.sameExcept_trans (s.sameExcept_withCadence _) (State.sameExcept_withCadence _ _)
      · omega
    · have due := State.chuffDue_iff (s.withCadence (s.cadence.wheelStopped .synthetic))
        (syntheticInterval s.cadence.profile.constant s.cadence.heldV)
      cases hd : (s.withCadence (s.cadence.wheelStopped .synthetic)).chuffDue
        (syntheticInterval s.cadence.profile.constant s.cadence.heldV)
      · rw [State.recomputeInterval_early (s.withCadence (s.cadence.wheelStopped .synthetic)) hv hd] at wide ⊢
        rw [hd, syntheticInterval_eq] at due
        refine ⟨rfl, rfl, rfl, rfl, rfl, rfl, settled, fun h => ?_, fun _ h => ?_, fun _ _ =>
          ⟨congrArg some (syntheticInterval_eq _ _), fun h => ?_, fun _ => ⟨rfl, ?_, fun last hl => ?_⟩⟩, wide⟩
        · exact absurd hm (h.resolve_right (by omega))
        · omega
        · exact absurd (due.mpr h) Bool.false_ne_true
        · exact State.sameExcept_trans (s.sameExcept_withCadence _) (State.sameExcept_withCadence _ _)
        · show Timer.running (millis (s.cadence.lastChuff.getD 0 + _)) = _
          rw [hl, ← syntheticInterval_eq]
          rfl
      · rw [hd, syntheticInterval_eq] at due
        have cadence := State.recomputeInterval_due_cadence (s.withCadence (s.cadence.wheelStopped .synthetic)) hv hd
        generalize State.recomputeInterval _ = t at cadence wide ⊢
        have source : t.SourceSettled := by
          show t.cadence.source = settledSource t.cadence.profile.mode t.cadence.cam
          rw [cadence]
          exact settled
        rw [cadence]
        refine ⟨rfl, rfl, rfl, rfl, rfl, rfl, source, fun h => ?_, fun _ h => ?_, fun _ _ =>
          ⟨congrArg some (syntheticInterval_eq _ _), fun _ => ⟨rfl, rfl, ?_⟩, fun h => ?_⟩, wide⟩
        · exact absurd hm (h.resolve_right (by omega))
        · omega
        · rw [← syntheticInterval_eq]
          rfl
        · exact absurd (due.mp rfl) h
  · refine ⟨_, exec_wheelStopped_kept s he hm hs, rfl, rfl, rfl, rfl, rfl, rfl, ?_, fun _ => ⟨rfl, s.sameExcept_withCadence _⟩,
      fun h => absurd h hm, fun h => absurd h hm, State.sameExcept_mono (s.sameExcept_withCadence _) (by simp)⟩
    show s.cadence.source = settledSource s.cadence.profile.mode .stopped
    rw [hs]
    cases hc : s.cadence.profile.mode <;> first | rfl | exact absurd hc hm

/-! ### The synthetic chuff -/

section
variable (s : State)

/-- A START does the same whatever the cadence unit holds. -/
theorem State.startCue_withCadence (c : Cadence) (n : Nat) (gain : Option Nat) (source : CueSource) :
    ((s.withCadence c).startCue n gain source).1.sound = (s.startCue n gain source).1.sound ∧
      ((s.withCadence c).startCue n gain source).1.EventsAs (s.startCue n gain source).1 := by
  have attends (x : Sound) : ((s.withCadence c).withSound x).AttendsAs (s.withSound x) :=
    .of_frame (l := [.cadence]) fun d hd => by cases d <;> simp_all [Component.same, State.storeAt]
  rcases s.startCue_cases n gain source with ⟨p, -⟩ | ⟨p, b, -⟩ | ⟨p, b, q, -⟩ | ⟨r, p, b, q, h⟩
  · simp [State.startCue, p, State.EventsAs]
  · simp [State.startCue, p, b, State.EventsAs]
  · simp [State.startCue, p, b, q, State.EventsAs]
  · rcases h with ⟨v, hold, k, -⟩ | ⟨v, hold, k, -⟩ | ⟨v, hold, f, -⟩ | ⟨v, hold, f, w, -⟩ | ⟨hold, f, w, e⟩
    · simp [State.startCue, p, b, q, hold, k, State.EventsAs]
    · simp [State.startCue, p, b, q, hold, k, State.EventsAs]
    · simp [State.startCue, p, b, q, hold, f, State.EventsAs]
    · simp [State.startCue, p, b, q, hold, f, w, State.EventsAs]
    · have refused : ((s.withCadence c).startCue n gain source).1 = (s.withCadence c).refuseNoVoice n source := by
        simp [State.startCue, p, b, q, hold, f, w]
      rw [e, refused]
      refine ⟨?_, ((attends _).event _ _ _).2⟩
      have same : (s.refuseNoVoice n source).sound = { s.sound with noVoice := s.sound.noVoice + 1#16 } :=
        (State.keeps_event _ _ _ _).same .sound
      rw [same]
      exact (State.keeps_event _ _ _ _).same .sound

/-- The number of the first CHUFF cue (R134). -/
theorem Sound.chuffCue_of_first (e : Sound) {n : Nat} {r : CueRecord} (hn : e.cues[n]? = some r) (hk : r.kind = 2)
    (hf : ∀ (m : Nat) (q : CueRecord), m < n → e.cues[m]? = some q → q.kind ≠ 2) : e.chuffCue = n + 1 := by
  obtain ⟨hlt, hget⟩ := List.getElem?_eq_some_iff.mp hn
  have : e.cues.findIdx? (fun r => r.kind == kindChuff) = some n := by
    rw [List.findIdx?_eq_some_iff_getElem]
    refine ⟨hlt, by rw [hget, hk]; rfl, fun m hm => ?_⟩
    simpa [kindChuff] using hf m _ hm (List.getElem?_eq_getElem (by omega))
  simp only [Sound.chuffCue, this]

theorem Sound.chuffCue_of_none (e : Sound) (h : ∀ r ∈ e.cues, r.kind ≠ 2) : e.chuffCue = 0 := by
  have : e.cues.findIdx? (fun r => r.kind == kindChuff) = none :=
    List.findIdx?_eq_none_iff.mpr fun r hr => by simpa [kindChuff] using h r hr
  simp only [Sound.chuffCue, this]

/-- The chuff gain as the rule states it (R129). -/
theorem chuffGain_eq (gain : Nat) (load : Bool) (command duty : Nat) :
    chuffGain gain load command duty =
      (max 0 (min 255 (Int.tdiv (gain *
        (256 + 2 * (if load then max (-64) (min 63 ((duty : Int) - command)) else 0))) 256))).toNat := by
  simp only [chuffGain, clampInt_eq _ (-64) 63 (by omega), clampInt_eq _ 0 255 (by omega)]
  rfl

/-- A chuff with a READY bank that holds no CHUFF cue only stores the count. -/
theorem State.soundChuff_none (n : Half) (hb : s.sound.bank = .ready) (h : ∀ r ∈ s.sound.cues, r.kind ≠ 2) :
    s.soundChuff n = s.withSound { s.sound with lastChuff := n } :=
  if_pos ⟨hb, Sound.chuffCue_of_none { s.sound with lastChuff := n } h⟩

/-- Outside RUN a chuff only stores the count. -/
theorem State.soundChuff_dropped (n : Half) (hp : s.part ≠ .run) :
    s.soundChuff n = s.withSound { s.sound with lastChuff := n } := by
  unfold State.soundChuff
  dsimp only
  split
  · rfl
  · simp [State.startCue, hp]

/-- A bank that is not READY refuses the START of a chuff. -/
theorem State.soundChuff_noBank (n : Half) (hp : s.part = .run) (hb : s.sound.bank ≠ .ready) :
    s.soundChuff n = s.withSound { s.sound with lastChuff := n, noBank := s.sound.noBank + 1#16 } := by
  unfold State.soundChuff
  dsimp only
  rw [if_neg (fun h => hb h.1)]
  simp only [State.startCue, State.withSound_part, hp, State.withSound_sound, hb, ne_eq, not_true, if_false,
    not_false_eq_true, if_true]
  rfl

/-- A READY bank starts its first CHUFF cue at the chuff gain. -/
theorem State.soundChuff_starts (count : Half) {n : Nat} {r : CueRecord}
    (hn : s.sound.cues[n]? = some r) (hk : r.kind = 2)
    (hf : ∀ (m : Nat) (q : CueRecord), m < n → s.sound.cues[m]? = some q → q.kind ≠ 2) :
    s.soundChuff count = ((s.withSound { s.sound with lastChuff := count }).startCue (n + 1)
      (some (chuffGain r.gain s.sound.chuffLoad s.drive.channels.a.command s.drive.channels.a.duty)) .chuff).1 := by
  have number := Sound.chuffCue_of_first { s.sound with lastChuff := count } hn hk hf
  have own : (({ s.sound with lastChuff := count } : Sound).cue (n + 1)) = some r := by
    simpa [Sound.cue] using hn
  refine (if_neg (show ¬ (s.sound.bank = .ready ∧ ({ s.sound with lastChuff := count } : Sound).chuffCue = 0) by
    simp [number])).trans ?_
  simp only [State.withSound_sound, number, own]
  rfl

/-- In WARMING and READY a chuff pulses the fan, in the other states it does nothing (R98). -/
theorem State.smokeChuff_smoke :
    s.smokeChuff.smoke =
      if s.smoke.state = .warming ∨ s.smoke.state = .ready then
        { s.smoke with
          pulseTimer := .running (millis s.time + millis s.smoke.profile.pulseLength)
          fan := s.smokeChuff.fanDuty, fanPwm := min s.smoke.fanPwm s.smokeChuff.fanDuty }
      else s.smoke := by
  unfold State.smokeChuff
  cases h : s.smoke.state <;> rfl

end

/-- Settles O23: the smoke unit by its state, the sound engine by the part state and the bank. -/
theorem syntheticChuffDelivered : Obligations.SyntheticChuffDelivered := by
  intro s i hi
  refine ⟨fun he => ?_, fun he => ?_⟩
  · exact congrArg Host.Outcome.next (if_neg (by simp [he]))
  dsimp only
  have taken : exec .syntheticChuffExpiry s = .next (s.syntheticChuff i) := by
    simp only [exec, execSyntheticChuffExpiry, he, if_true, hi]
  refine ⟨_, taken, s.syntheticChuff_cadence i, ?_⟩
  let u := s.withCadence { s.cadence with chuffs := s.cadence.chuffs + 1#16, lastChuff := some s.time }
  let v := u.soundChuff (s.cadence.chuffs + 1#16)
  have sound : (s.syntheticChuff i).sound = v.sound := v.keeps_smokeChuff.same .sound
  have lists : (s.syntheticChuff i).EventsAs v := ⟨v.keeps_smokeChuff.same .events, v.keeps_smokeChuff.same .eventSeq,
    v.keeps_smokeChuff.same .attention⟩
  have smoke : v.smoke = s.smoke := (u.keeps_soundChuff _).same .smoke
  have time : v.time = s.time := (u.keeps_soundChuff _).same .time
  have pulse : (s.syntheticChuff i).smoke = v.smokeChuff.smoke := rfl
  rw [sound]
  refine ⟨(u.soundChuff_sound _).1, (u.soundChuff_sound _).2, fun hp => ?_, fun hp => ?_, fun hp => ?_, fun hp hb => ?_,
    fun hb hn => ?_, fun n r hp hb hn hk hf => ?_, ?_⟩
  · rw [pulse, v.smokeChuff_smoke, if_pos (by rwa [smoke]), smoke, time]
    rfl
  · rw [pulse, v.smokeChuff_smoke, if_neg (by rwa [smoke]), smoke]
  · have e : v = u.withSound { s.sound with lastChuff := s.cadence.chuffs + 1#16 } := u.soundChuff_dropped _ hp
    rw [e] at lists ⊢
    exact ⟨rfl, lists⟩
  · have e : v = u.withSound { s.sound with lastChuff := s.cadence.chuffs + 1#16, noBank := s.sound.noBank + 1#16 } :=
      u.soundChuff_noBank _ hp hb
    rw [e] at lists ⊢
    exact ⟨rfl, lists⟩
  · have e : v = u.withSound { s.sound with lastChuff := s.cadence.chuffs + 1#16 } := u.soundChuff_none _ hb hn
    rw [e] at lists ⊢
    exact ⟨rfl, lists⟩
  · have e : v = ((u.withSound { s.sound with lastChuff := s.cadence.chuffs + 1#16 }).startCue (n + 1) _ .chuff).1 :=
      u.soundChuff_starts _ hn hk hf
    rw [chuffGain_eq] at e
    obtain ⟨same, listed⟩ := State.startCue_withCadence (s.withSound { s.sound with lastChuff := s.cadence.chuffs + 1#16 })
      u.cadence (n + 1) (some (max 0 (min 255 (Int.tdiv (r.gain * (256 + 2 * (if s.sound.chuffLoad then max (-64)
        (min 63 ((s.drive.channels.a.duty : Int) - s.drive.channels.a.command)) else 0))) 256))).toNat) .chuff
    rw [e] at lists ⊢
    exact ⟨same, lists.1.trans listed.1, lists.2.1.trans listed.2.1, lists.2.2.trans listed.2.2⟩
  · exact State.sameExcept_mono (s.keeps_syntheticChuff i).frame (by decide)

end Sys2Proof.Machine

/-! ## START and STOP -/

namespace Sys2Proof.Machine

-- One proof at a time: proofs that wait for one another would each hold a thread.
set_option Elab.async false

/-! ### The voice of a cue, a free voice, and the arbiter's victim -/

/-- In an engine whose voices are sound the busy voice that plays a cue is its holder. -/
theorem Sound.holder_of_busy {e : Sound} (h : e.VoicesSound) {n : Nat} {v : Fin 6} (hb : e.voices[v].busy = true)
    (hc : e.voices[v].cue = n) : e.holder n = some v := by
  cases hh : e.holder n with
  | none => exact absurd hc (Sound.holder_none hh v hb)
  | some w =>
    obtain ⟨busy, cue⟩ := Sound.holder_some hh
    rw [h.1 w v busy hb (cue.trans hc.symm)]

theorem Sound.holder_of_none {e : Sound} {n : Nat}
    (h : ∀ v : Fin 6, e.voices[v].busy = true → e.voices[v].cue ≠ n) : e.holder n = none :=
  List.find?_eq_none.mpr fun v _ => by simpa [-Fin.getElem_fin] using h v

theorem Sound.freeVoice_of_lowest {e : Sound} {v : Fin 6} (hv : e.voices[v].busy = false)
    (hw : ∀ w : Fin 6, w < v → e.voices[w].busy = true) : e.freeVoice = some v :=
  find_finRange_eq_some (by simpa using hv) fun w h => by simpa using hw w h

theorem Sound.freeVoice_of_full {e : Sound} (h : ∀ v : Fin 6, e.voices[v].busy = true) : e.freeVoice = none :=
  List.find?_eq_none.mpr fun v _ => by simpa using h v

/-- One step of the arbiter's search: a voice of a greater priority number than the best so far. -/
def Sound.arbiter (e : Sound) (p : Nat) (best : Option (Fin 6)) (v : Fin 6) : Option (Fin 6) :=
  if p < e.voicePriority v ∧ best.all (fun b => e.voicePriority b < e.voicePriority v) then some v else best

theorem Sound.victim_eq (e : Sound) (p : Nat) : e.victim p = e.order.foldl (e.arbiter p) none := rfl

/-- The best so far is always one of the voices looked at. -/
theorem Sound.arbiter_mem (e : Sound) (p : Nat) (l : List (Fin 6)) (best : Option (Fin 6)) (b : Fin 6)
    (h : l.foldl (e.arbiter p) best = some b) : b ∈ l ∨ best = some b := by
  induction l generalizing best with
  | nil => exact .inr h
  | cons v l ih =>
    rcases ih _ h with hb | hb
    · exact .inl (.tail v hb)
    · unfold Sound.arbiter at hb
      split at hb
      · cases hb
        exact .inl (.head l)
      · exact .inr hb

/-- The search passes over voices that are not of a greater priority number. -/
theorem Sound.arbiter_skip (e : Sound) (p : Nat) (l : List (Fin 6)) (best : Option (Fin 6))
    (h : ∀ w ∈ l, p < e.voicePriority w → ∃ b, best = some b ∧ e.voicePriority w ≤ e.voicePriority b) :
    l.foldl (e.arbiter p) best = best := by
  induction l with
  | nil => rfl
  | cons v l ih =>
    rw [List.foldl_cons, show e.arbiter p best v = best from if_neg ?_]
    · exact ih fun w hw => h w (.tail v hw)
    · rintro ⟨hp, hall⟩
      obtain ⟨b, rfl, hb⟩ := h v (.head l) hp
      simp at hall
      omega

/-- The victim is the voice of the greatest priority number, on a tie the one nearest the front of the start order
list (R125). -/
theorem Sound.victim_of_greatest {e : Sound} {p : Nat} {v : Fin 6} (hv : v ∈ e.order) (hp : p < e.voicePriority v)
    (hw : ∀ w : Fin 6, e.voicePriority w < e.voicePriority v ∨
      e.voicePriority w = e.voicePriority v ∧ e.order.idxOf v ≤ e.order.idxOf w) : e.victim p = some v := by
  obtain ⟨pre, post, hl, hpre⟩ := List.eq_append_cons_of_mem hv
  have before : ∀ w ∈ pre, e.voicePriority w < e.voicePriority v := fun w hm => by
    rcases hw w with h | ⟨-, h⟩
    · exact h
    · have hi := List.idxOf_lt_length_of_mem hm
      rw [hl, List.idxOf_append_of_notMem hpre, List.idxOf_append_of_mem hm] at h
      omega
  have best : e.arbiter p (pre.foldl (e.arbiter p) none) v = some v := by
    refine if_pos ⟨hp, ?_⟩
    cases hb : pre.foldl (e.arbiter p) none with
    | none => rfl
    | some b =>
      have hm := (e.arbiter_mem p pre none b hb).resolve_right (by simp)
      simpa using before b hm
  rw [Sound.victim_eq, hl, List.foldl_append, List.foldl_cons, best]
  exact e.arbiter_skip p post _ fun w _ _ => ⟨v, rfl, by have := hw w; omega⟩

theorem Sound.victim_of_none {e : Sound} {p : Nat} (h : ∀ v : Fin 6, e.voicePriority v ≤ p) : e.victim p = none :=
  e.arbiter_skip p e.order none fun w _ hp => absurd (h w) (by omega)

/-! ### A START -/

/-- A voice started with a cue: its record, the other voices, and the start order list. -/
theorem Sound.startVoice_voice (e : Sound) (v w : Fin 6) (n : Nat) (r : CueRecord) (g : Nat) :
    (e.startVoice v n r g).voices[w] =
      if w = v then ⟨.leading, n, .start, e.startClip r, 0, g, 320, false⟩ else e.voices[w] :=
  Vector.get_set_fin e.voices v w _

/-- What O30 says of the voice `v` that a START takes. -/
theorem State.started_voice (s : State) (v : Fin 6) (n : Nat) (r : CueRecord) (g : Nat) (steals : Half) (t : State)
    (ht : t = s.withSound { s.sound.startVoice v n r g with steals := steals }) :
    t.sound.voices[v] = ⟨.leading, n, .start,
        if r.kind = 2 then r.start + s.sound.lastChuff.toNat % 4 else r.start, 0, g, 320, false⟩ ∧
      (∀ w : Fin 6, w ≠ v → t.sound.voices[w] = s.sound.voices[w]) ∧
      t.sound.order = (s.sound.order.filter fun w => w != v) ++ [v] ∧ t.sound.ampEnabled = true ∧
      (s.sound.anyBusy = false → t.sound.ampTimer = .stopped) ∧ t.sound.steals = steals ∧ s.SameExcept t [.sound] := by
  subst ht
  refine ⟨?_, fun w hw => ?_, rfl, rfl, fun h => ?_, rfl, s.sameExcept_withSound _⟩
  · exact (s.sound.startVoice_voice v v n r g).trans (if_pos rfl)
  · exact (s.sound.startVoice_voice v w n r g).trans (if_neg hw)
  · exact if_neg (by simp [h])

/-- A START in RUN of a cue the READY bank holds. -/
theorem State.startCue_known (s : State) (n : Nat) (gain : Option Nat) (source : CueSource) (r : CueRecord)
    (hp : s.part = .run) (hb : s.sound.bank = .ready) (hr : s.sound.cue n = some r) :
    s.startCue n gain source =
      match s.sound.holder n with
      | some v =>
        if r.kind = kindHeld then (s, .ok) else (s.withSound (s.sound.startVoice v n r (gain.getD r.gain)), .ok)
      | none =>
        match s.sound.freeVoice with
        | some v => (s.withSound (s.sound.startVoice v n r (gain.getD r.gain)), .ok)
        | none =>
          match s.sound.victim r.priority with
          | some v => (s.withSound { s.sound.startVoice v n r (gain.getD r.gain) with
              steals := s.sound.steals + 1#16 }, .ok)
          | none => (s.refuseNoVoice n source, .noVoice) := by
  simp only [State.startCue, hp, hb, hr, ne_eq, not_true, if_false] <;> rfl

/-- Settles O30: by the voice the cue is in, the free voices, and the arbiter's choice. -/
theorem startTakesAVoiceOrIsRefused : Obligations.StartTakesAVoiceOrIsRefused := by
  intro s n gain source r hp hb hr hs
  have start := s.startCue_known n gain source r hp hb hr
  refine ⟨fun v hbusy hcue => ?_, fun hnone => ⟨fun v hfree hlow => ?_, fun hfull => ⟨fun v hprio hgreat => ?_,
    fun hlow => ?_⟩⟩⟩
  · rw [Sound.holder_of_busy hs hbusy hcue] at start
    refine ⟨fun hk => ?_, fun hk => ?_⟩
    · rw [start]
      simp [hk, kindHeld]
    · dsimp only at start
      rw [if_neg (show ¬ r.kind = kindHeld from hk)] at start
      rw [start]
      exact ⟨rfl, s.started_voice v n r _ s.sound.steals _ rfl⟩
  · rw [Sound.holder_of_none hnone, Sound.freeVoice_of_lowest hfree hlow] at start
    rw [start]
    exact ⟨rfl, s.started_voice v n r _ s.sound.steals _ rfl⟩
  · have hv : v ∈ s.sound.order := (hs.2.2 v).mpr (hfull v)
    rw [Sound.holder_of_none hnone, Sound.freeVoice_of_full hfull, Sound.victim_of_greatest hv hprio hgreat] at start
    rw [start]
    exact ⟨rfl, s.started_voice v n r _ _ _ rfl⟩
  · rw [Sound.holder_of_none hnone, Sound.freeVoice_of_full hfull, Sound.victim_of_none hlow] at start
    have attends : (s.withSound { s.sound with noVoice := s.sound.noVoice + 1#16 }).AttendsAs s :=
      .of_frame (s.sameExcept_withSound _)
    have raised := (attends.event .cueRefused (BitVec.ofNat 8 n) (BitVec.ofNat 16 source.code)).2
    dsimp only at start
    rw [start]
    refine ⟨rfl, (State.keeps_event _ _ _ _).same .sound, ?_, ?_⟩
    · cases source <;> exact raised
    exact State.sameExcept_trans (State.sameExcept_mono (s.sameExcept_withSound _) (by simp))
      (State.sameExcept_mono (State.sameExcept_event _ _ _ _) (by simp))

/-! ### A STOP -/

/-- A STOP of a cue in a voice (R126). -/
theorem State.stopCue_known (s : State) {n : Nat} {r : CueRecord} {v : Fin 6} (hp : s.part.active = true)
    (hb : s.sound.bank = .ready) (hr : s.sound.cue n = some r) (hv : s.sound.holder n = some v) :
    s.stopCue n = (s.settleVoices (vecModify s.sound.voices v fun x => x.stop r), .ok) := by
  simp only [State.stopCue, hp, hb, hr, hv, Bool.not_true, Bool.false_eq_true, ne_eq, not_true, if_false]

/-- A settled engine holds the voices it was given. -/
theorem State.settleVoices_voices (s : State) (voices : Vector Voice 6) :
    (s.settleVoices voices).sound.voices = voices := by
  obtain ⟨x, h⟩ := s.settleVoices_sound voices
  rw [h]

/-- How a voice answers a STOP: by its cue's kind and its state. -/
theorem Voice.stop_eq (x : Voice) (r : CueRecord) :
    (r.kind = 1 → x.state = .leading → x.stop r = { x with release := true }) ∧
    (r.kind = 1 → x.state = .looping → r.tail ≠ 0 →
      x.stop r = { x with state := .tailing, part := .tail, clip := r.tail, position := 0 }) ∧
    (r.kind = 1 → x.state = .looping → r.tail = 0 → x.stop r = { x with state := .free }) ∧
    (r.kind = 1 → x.state = .tailing ∨ x.state = .fading → x.stop r = x) ∧
    (r.kind ≠ 1 → x.state = .leading ∨ x.state = .looping ∨ x.state = .tailing →
      x.stop r = { x with state := .fading, fade := 320 }) ∧
    (r.kind ≠ 1 → x.state = .fading → x.stop r = x) := by
  refine ⟨fun hk hs => ?_, fun hk hs ht => ?_, fun hk hs ht => ?_, fun hk hs => ?_, fun hk hs => ?_, fun hk hs => ?_⟩
  · simp [Voice.stop, kindHeld, hk, hs]
  · simp [Voice.stop, Voice.toTail, kindHeld, kindChuff, hk, hs, ht]
  · simp [Voice.stop, Voice.toTail, kindHeld, kindChuff, hk, hs, ht]
  · rcases hs with hs | hs <;> simp [Voice.stop, kindHeld, hk, hs]
  · rcases hs with hs | hs | hs <;> simp [Voice.stop, Voice.toFading, kindHeld, hk, hs]
  · simp [Voice.stop, Voice.toFading, kindHeld, hk, hs]

/-- Settles O31: the cue's voice answers, and the others stand. -/
theorem stopReleasesOrFades : Obligations.StopReleasesOrFades := by
  intro s n r v hp hb hr hs hbusy hcue
  have stop := s.stopCue_known hp hb hr (Sound.holder_of_busy hs hbusy hcue)
  have frame := (s.keeps_stopCue n).frame
  have voice (w : Fin 6) : (s.stopCue n).1.sound.voices[w] =
      if w = v then s.sound.voices[v].stop r else s.sound.voices[w] := by
    rw [stop, State.settleVoices_voices, vecModify_get]
  dsimp only
  rw [voice v, if_pos rfl]
  obtain ⟨leading, looping, ended, held, fades, fading⟩ := s.sound.voices[v].stop_eq r
  exact ⟨by rw [stop], leading, looping, ended, held, fades, fading, fun w hw => by rw [voice w, if_neg hw], frame⟩

end Sys2Proof.Machine

/-! ## Runs of bytes in the store, field by field (12.6) -/

namespace Sys2Proof.Machine

-- One proof at a time: proofs that wait for one another would each hold a thread.
set_option Elab.async false

/-! ### Runs -/

/-- The run `bs` stands in the store from address `a` on. -/
def State.Holds (t : State) (a : Nat) (bs : List Byte) : Prop :=
  ∀ i, i < bs.length → t.storeAt (a + i) = bs.getD i 0#8

/-- A writing of a readings group puts its fields from offset 1 on. -/
theorem State.GroupWritten.holds {s t : State} {base : Nat} {fields : List Byte} (h : s.GroupWritten t base fields) :
    t.Holds (base + 1) fields :=
  h.2.1

section
variable (t : State)

/-- Runs side by side. -/
theorem State.holds_append (a : Nat) (xs ys : List Byte) :
    t.Holds a (xs ++ ys) ↔ t.Holds a xs ∧ t.Holds (a + xs.length) ys := by
  refine ⟨fun h => ⟨fun i hi => ?_, fun i hi => ?_⟩, fun ⟨hx, hy⟩ i hi => ?_⟩
  · rw [h i (by rw [List.length_append]; omega), List.getD_append _ _ _ _ hi]
  · have := h (xs.length + i) (by rw [List.length_append]; omega)
    rw [List.getD_append_right _ _ _ _ (by omega), Nat.add_sub_cancel_left] at this
    rwa [Nat.add_assoc]
  · by_cases hl : i < xs.length
    · rw [hx i hl, List.getD_append _ _ _ _ hl]
    · rw [List.length_append] at hi
      rw [List.getD_append_right _ _ _ _ (by omega), ← hy (i - xs.length) (by omega)]
      congr 1
      omega

@[simp] theorem State.holds_nil (a : Nat) : t.Holds a [] := fun _ h => absurd h (Nat.not_lt_zero _)

/-- A byte and the run behind it. -/
theorem State.holds_cons (a : Nat) (b : Byte) (bs : List Byte) :
    t.Holds a (b :: bs) ↔ t.storeAt a = b ∧ t.Holds (a + 1) bs := by
  rw [show b :: bs = [b] ++ bs from rfl, State.holds_append]
  refine and_congr_left fun _ => ⟨fun h => h 0 (by simp), fun h i hi => ?_⟩
  rw [List.length_singleton, Nat.lt_one_iff] at hi
  subst hi
  exact h

theorem State.holds_byte (a : Nat) (b : Byte) : t.Holds a [b] ↔ t.storeAt a = b := by
  rw [State.holds_cons]
  exact and_iff_left (t.holds_nil _)

/-- A byte of the store is a number's low byte. -/
theorem State.storeAt_ofNat (a n : Nat) : t.storeAt a = BitVec.ofNat 8 n ↔ t.storeNum a = n % 256 := by
  rw [State.storeNum, ← BitVec.toNat_inj, BitVec.toNat_ofNat]

theorem State.holds_le8 (a n : Nat) : t.Holds a (le8 n) ↔ t.storeNum a = n % 256 := by
  rw [le8, State.holds_byte, State.storeAt_ofNat]

theorem State.holds_le16 (a n : Nat) : t.Holds a (le16 n) ↔ t.storeNum16 a = n % 65536 := by
  rw [le16, State.holds_cons, State.holds_byte, State.storeAt_ofNat, State.storeAt_ofNat, State.storeNum16]
  have := (t.storeAt a).isLt
  have := (t.storeAt (a + 1)).isLt
  simp only [State.storeNum] at *
  omega

theorem State.holds_le24 (a n : Nat) :
    t.Holds a (le24 n) ↔ t.storeNum16 a + 65536 * t.storeNum (a + 2) = n % 16777216 := by
  rw [le24, State.holds_append, State.holds_le16, State.holds_byte, State.storeAt_ofNat,
    show (le16 n).length = 2 from rfl, State.storeNum16]
  have := (t.storeAt a).isLt
  have := (t.storeAt (a + 1)).isLt
  have := (t.storeAt (a + 2)).isLt
  simp only [State.storeNum] at *
  omega

theorem State.holds_le32 (a n : Nat) : t.Holds a (le32 n) ↔ t.storeNum32 a = n % 4294967296 := by
  rw [le32, State.holds_append, State.holds_le16, State.holds_le16, show (le16 n).length = 2 from rfl, State.storeNum32,
    State.storeNum16, State.storeNum16]
  have := (t.storeAt a).isLt
  have := (t.storeAt (a + 1)).isLt
  have := (t.storeAt (a + 2)).isLt
  have := (t.storeAt (a + 2 + 1)).isLt
  simp only [State.storeNum] at *
  omega

theorem State.holds_leSigned16 (a : Nat) (x : Int) :
    t.Holds a (leSigned16 x) ↔ BitVec.ofNat 16 (t.storeNum16 a) = BitVec.ofInt 16 x := by
  have hlt : t.storeNum16 a < 65536 := by
    have := (t.storeAt a).isLt
    have := (t.storeAt (a + 1)).isLt
    simp only [State.storeNum16, State.storeNum] at *
    omega
  rw [leSigned16, State.holds_le16, Nat.mod_eq_of_lt (BitVec.ofInt 16 x).isLt]
  constructor
  · intro h
    rw [h, BitVec.ofNat_toNat, BitVec.setWidth_eq]
  · intro h
    rw [← h, BitVec.toNat_ofNat, Nat.mod_eq_of_lt hlt]

/-- Records of `w` bytes side by side. -/
theorem State.holds_flatten {α : Type} (f : α → List Byte) (w : Nat) (hw : ∀ x, (f x).length = w) (xs : List α) (a : Nat) :
    t.Holds a (xs.map f).flatten ↔ ∀ (k : Nat) (hk : k < xs.length), t.Holds (a + w * k) (f xs[k]) := by
  induction xs generalizing a with
  | nil => simp
  | cons x xs ih =>
    rw [List.map_cons, List.flatten_cons, State.holds_append, ih, hw]
    refine ⟨fun ⟨hx, hxs⟩ k hk => ?_, fun h => ⟨h 0 (by simp), fun k hk => ?_⟩⟩
    · cases k with
      | zero => exact hx
      | succ k =>
        have := hxs k (by simpa using hk)
        rwa [show a + w + w * k = a + w * (k + 1) by ring] at this
    · have := h (k + 1) (by simpa using hk)
      rwa [show a + w * (k + 1) = a + w + w * k by ring] at this

/-- The same for the records of a vector. -/
theorem State.holds_records {α : Type} {n : Nat} (f : α → List Byte) (w : Nat) (hw : ∀ x, (f x).length = w)
    (v : Vector α n) (a : Nat) :
    t.Holds a (v.toList.map f).flatten ↔ ∀ k : Fin n, t.Holds (a + w * k.val) (f v[k]) := by
  rw [t.holds_flatten f w hw]
  exact ⟨fun h k => h k.val (by simp), fun h k hk => h ⟨k, by simpa using hk⟩⟩

end

/-! ### Lengths, flags and masks -/

@[simp] theorem le8_length (n : Nat) : (le8 n).length = 1 := rfl
@[simp] theorem le16_length (n : Nat) : (le16 n).length = 2 := rfl
@[simp] theorem le24_length (n : Nat) : (le24 n).length = 3 := rfl
@[simp] theorem le32_length (n : Nat) : (le32 n).length = 4 := rfl
@[simp] theorem leSigned16_length (x : Int) : (leSigned16 x).length = 2 := rfl

theorem flatten_map_length {α : Type} (f : α → List Byte) (w : Nat) (hw : ∀ x, (f x).length = w) (xs : List α) :
    (xs.map f).flatten.length = w * xs.length := by
  induction xs with
  | nil => rfl
  | cons x xs ih =>
    rw [List.map_cons, List.flatten_cons, List.length_append, hw, ih, List.length_cons]
    ring

theorem flagByte_num {t : State} {a : Nat} {b : Bool} (h : t.storeAt a = flagByte b) :
    t.storeNum a = if b then 1 else 0 := by
  rw [State.storeNum, h]
  cases b <;> rfl

/-- A mask of at most `n` flags is below 2 to the `n`. -/
theorem maskOf_lt (bs : List Bool) : maskOf bs < 2 ^ bs.length := by
  induction bs with
  | nil => simp [maskOf]
  | cons b bs ih =>
    rw [maskOf, List.length_cons, pow_succ]
    split <;> omega

/-- A mask of few flags read from the store. -/
theorem mask16_testBit {t : State} {a : Nat} {bs : List Bool} (h : t.storeNum16 a = maskOf bs % 65536)
    (hl : bs.length ≤ 16) (n : Nat) : (t.storeNum16 a).testBit n = bs.getD n false := by
  have hlt := Nat.lt_of_lt_of_le (maskOf_lt bs) (Nat.pow_le_pow_right (by omega) hl)
  rw [h, Nat.mod_eq_of_lt hlt, testBit_maskOf]

/-- A field that holds a half word. -/
theorem half_num {n : Nat} {x : Half} (h : n = x.toNat % 65536) : n = x.toNat := by
  rw [h, Nat.mod_eq_of_lt x.isLt]

end Sys2Proof.Machine

/-! ## Readings groups as the host finds them (12.6) -/

namespace Sys2Proof.Machine

-- One proof at a time: proofs that wait for one another would each hold a thread.
set_option Elab.async false

/-- An element of a vector, read from its list with another behind it. -/
theorem getD_toList_append {n : Nat} (v : Vector Bool n) (bs : List Bool) (k : Fin n) :
    (v.toList ++ bs).getD k.val false = v[k] := by
  rw [List.getD_append _ _ _ _ (by simp), List.getD_eq_getElem _ _ (by simp), Vector.getElem_toList]
  rfl

theorem getD_toList {α : Type} {n : Nat} (v : Vector α n) (d : α) (k : Fin n) : v.toList.getD k.val d = v[k] := by
  rw [List.getD_eq_getElem _ _ (by simp), Vector.getElem_toList]
  rfl

/-! ### The drive group -/

/-- A channel's part of the drive group, at its offsets. -/
theorem State.channelShown (s : State) (c : Channel) (a : Nat) (h : s.Holds a (s.channelBytes c)) :
    s.storeNum16 a = (s.drive.channels.get c).command % 65536 ∧
      s.storeNum16 (a + 2) = (s.drive.channels.get c).duty % 65536 ∧ s.storeNum16 (a + 4) = s.appliedDuty c % 65536 ∧
      s.storeNum (a + 6) = [.drive, .coast, .brake].idxOf s.bridgeMode ∧
      BitVec.ofNat 16 (s.storeNum16 (a + 8)) = BitVec.ofInt 16 (s.drive.channels.get c).integral ∧
      BitVec.ofNat 16 (s.storeNum16 (a + 10)) = BitVec.ofInt 16 (s.drive.channels.get c).correction ∧
      s.storeNum16 (a + 12) = (s.drive.channels.get c).lastEmf % 65536 := by
  simp only [State.channelBytes, State.holds_append, State.holds_le16, State.holds_le8, State.holds_byte,
    State.holds_leSigned16, List.length_append, le8_length, le16_length, leSigned16_length, List.length_singleton,
    and_assoc] at h
  obtain ⟨command, duty, applied, mode, -, integral, correction, emf⟩ := h
  refine ⟨command, duty, applied, mode.trans ?_, integral, correction, emf⟩
  cases s.bridgeMode <;> rfl

/-- The drive group shows the drive's values (R43). -/
theorem State.driveGroupShows_of_holds (s : State) (h : s.Holds 0x0801 s.driveBytes) : s.DriveGroupShows := by
  simp only [State.driveBytes, State.holds_append, State.holds_le16, State.holds_le8, List.length_append, le8_length,
    le16_length, Nat.reduceAdd, and_assoc] at h
  obtain ⟨state, direction, level, causes, magnitude, targetDirection, source, halt, trips, target, ramp, shorts, window,
    completed, closed, timedOut, a, b⟩ := h
  have length : (s.channelBytes .a).length = 14 := rfl
  have cause := mask16_testBit causes (by simp)
  refine ⟨state.trans ?_, direction.trans ?_, level.trans ?_, fun k => ?_, ?_, magnitude, targetDirection.trans ?_,
    source.trans ?_, halt.trans ?_, trips, target, ramp, shorts.trans ?_, window.trans ?_, half_num completed,
    half_num closed, half_num timedOut, fun c => ?_⟩
  · cases s.drive.state <;> rfl
  · cases s.drive.direction <;> rfl
  · cases s.drive.level <;> rfl
  · exact (cause k.val).trans (getD_toList_append _ _ k)
  · refine (cause 12).trans ?_
    simp
  · cases s.drive.target.direction <;> rfl
  · cases s.drive.target.source <;> rfl
  · cases s.drive.haltSource <;> rfl
  · cases s.drive.shortA <;> cases s.drive.shortB <;> rfl
  · cases s.drive.window <;> rfl
  · cases c
    · exact s.channelShown .a _ a
    · exact s.channelShown .b _ b

/-! ### The power group -/

/-- The power group shows the supervisor's values (R75). -/
theorem State.powerGroupShows_of_holds (s : State) (h : s.Holds 0x08C1 s.power.groupBytes) : s.PowerGroupShows := by
  simp only [Power.groupBytes, State.holds_append, State.holds_le16, State.holds_le8, List.length_append, le8_length,
    le16_length, List.length_singleton, Nat.reduceAdd, and_assoc] at h
  obtain ⟨state, inputs, -, bridge, outage, last, count, spent, ceiling, factor, attenuation⟩ := h
  refine ⟨state.trans ?_, inputs.trans ?_, bridge, outage, last, half_num count, half_num spent, ceiling.trans ?_,
    factor.trans ?_, attenuation.trans ?_⟩
  · cases s.power.state <;> rfl
  · cases s.power.trackLost <;> cases s.power.storeLow <;> cases s.power.charge <;> rfl
  · unfold Power.ceilingInForce
    split <;> rfl
  · unfold Power.lampFactor
    cases s.power.state <;> rfl
  · unfold Power.attenuation
    cases s.power.state <;> rfl

/-! ### The cadence group -/

/-- The cadence group shows the cadence unit's values (R87). -/
theorem State.cadenceGroupShows_of_holds (s : State) (h : s.Holds 0x08E1 s.cadenceBytes) : s.CadenceGroupShows := by
  simp only [State.cadenceBytes, State.holds_append, State.holds_le16, State.holds_le8, State.holds_le24, State.holds_le32,
    List.length_append, le8_length, le16_length, le24_length, le32_length, List.length_singleton, Nat.reduceAdd,
    and_assoc] at h
  obtain ⟨mode, source, cam, period, -, speed, rejected, odometer, held, interval, chuff, chuffs⟩ := h
  refine ⟨mode.trans ?_, source.trans ?_, cam.trans ?_, period, speed, half_num rejected, odometer.trans ?_, held, interval,
    chuff.trans ?_, half_num chuffs⟩
  · cases s.cadence.profile.mode <;> rfl
  · cases s.cadence.source <;> rfl
  · cases s.cadence.cam <;> rfl
  · exact Nat.mod_eq_of_lt s.cadence.odometer.isLt
  · unfold State.sinceChuff
    cases s.cadence.lastChuff with
    | none => rfl
    | some t =>
      refine Nat.mod_eq_of_lt ?_
      simp only [Option.map_some, Option.getD_some]
      omega

/-! ### The sequencer group -/

/-- The sequencer group shows the sequencer's values (R63). -/
theorem State.sequencerGroupShows_of_holds (s : State) (h : s.Holds 0x0841 s.sequencer.groupBytes) :
    s.SequencerGroupShows := by
  simp only [Sequencer.groupBytes, State.holds_append, State.holds_le16, State.holds_le8, State.holds_byte,
    State.holds_leSigned16, s.holds_records Slot.bytes 8 (fun _ => rfl), List.length_append, le8_length, le16_length,
    leSigned16_length, List.length_singleton, Nat.reduceAdd, and_assoc] at h
  obtain ⟨counter, offset, flags, zero, heat, board, slots⟩ := h
  refine ⟨?_, offset, flags.trans ?_, ?_, heat, board, fun k => ?_⟩
  · exact congrArg BitVec.toNat (counter.trans (BitVec.setWidth_eq _))
  · cases s.sequencer.profile.correction <;> cases s.sequencer.waiting.isSome <;> rfl
  · exact congrArg BitVec.toNat zero
  · have slot := slots k
    simp only [Slot.bytes, State.holds_append, State.holds_le16, State.holds_le8, State.holds_byte, List.length_append,
      le8_length, le16_length, Nat.reduceAdd, and_assoc] at slot
    obtain ⟨raw, value, count, alarm, side, substituted⟩ := slot
    have base : 0x0840 + (10 + 8 * k.val) = 2122 + 8 * k.val := by omega
    rw [← base] at raw value count alarm side substituted
    refine ⟨raw, value, count, alarm.trans ?_, side.trans ?_, flagByte_num substituted⟩
    · cases s.sequencer.slots[k].alarm <;> rfl
    · cases s.sequencer.slots[k].side <;> rfl

/-! ### The smoke group -/

/-- The smoke group shows the smoke unit's values, the retained group its fluid budget (R102). -/
theorem State.smokeGroupShows_of_holds (s : State) (h : s.Holds 0x0901 s.smoke.groupBytes)
    (hb : s.Holds 0x0A78 (le24 s.smoke.budget)) : s.SmokeGroupShows := by
  simp only [Smoke.groupBytes, State.holds_append, State.holds_le16, State.holds_le8, State.holds_byte, State.holds_le24,
    List.length_append, le8_length, le16_length, le24_length, List.length_singleton, Nat.reduceAdd, and_assoc] at h
  obtain ⟨state, enable, flags, holds, drys, temperature, setpoint, computed, heater, fan, zero, budget, zero', capacity⟩ := h
  refine ⟨state.trans ?_, enable.trans ?_, flags.trans ?_, fun n hn => ⟨?_, ?_⟩, temperature, setpoint, computed, heater,
    fan, ?_, budget, ?_, capacity, (s.holds_le24 _ _).mp hb⟩
  · cases s.smoke.state <;> rfl
  · cases s.smoke.directive.enable <;> rfl
  · simp only [Smoke.lowMark]
    by_cases hl : s.smoke.budget < s.smoke.profile.capacity * 256 / 8 <;> simp only [hl, decide_true, decide_false] <;>
      cases s.smoke.enabled <;> cases s.smoke.powerHold <;> cases s.smoke.stale <;>
      cases s.smoke.pulseTimer.isRunning <;> cases s.smoke.cooldownTimer.isRunning <;> rfl
  · exact mask16_testBit holds (by simp) n
  · exact mask16_testBit drys (by simp) n
  · exact congrArg BitVec.toNat zero
  · exact congrArg BitVec.toNat zero'

/-! ### The lamp group -/

/-- A gate allows a direction where it is that direction's or any. -/
theorem Gate.allows_iff (g : Gate) (d : Direction) :
    g.allows d = true ↔ g = .any ∨ g = .fwd ∧ d = .fwd ∨ g = .rev ∧ d = .rev := by
  cases g <;> cases d <;> simp [Gate.allows]

/-- The lamp group shows the lamp unit's values (R114). -/
theorem State.lampGroupShows_of_holds (s : State) (h : s.Holds 0x0931 s.lamps.groupBytes) : s.LampGroupShows := by
  simp only [Lamps.groupBytes, State.holds_append, State.holds_le16, State.holds_le8,
    s.holds_flatten s.lamps.lampBytes 6 (fun _ => rfl), List.length_append, le8_length, le16_length, Nat.reduceAdd,
    and_assoc] at h
  obtain ⟨flags, lfsr, factor, lamps⟩ := h
  refine ⟨flags.trans ?_, half_num lfsr, factor, fun k => ?_⟩
  · cases s.lamps.direction <;> cases s.lamps.standing <;> rfl
  · have lamp := lamps k.val (by simp)
    rw [List.getElem_finRange] at lamp
    simp only [Lamps.lampBytes, State.holds_append, State.holds_le8, State.holds_byte, List.length_append, le8_length,
      Nat.reduceAdd, and_assoc, Fin.cast_mk, Fin.eta] at lamp
    obtain ⟨lit, phase, count, level, duty, zero⟩ := lamp
    have base : 0x0930 + (6 + 6 * k.val) = 2358 + 6 * k.val := by omega
    rw [← base] at lit phase count level duty zero
    refine ⟨lit.trans ?_, phase.trans ?_, count, level, duty, ?_⟩
    · have := Gate.allows_iff s.lamps.profile[k].gate s.lamps.direction
      simp only [Lamps.lit, ← this]
      cases s.lamps.lamps[k].active <;> cases s.lamps.profile[k].gate.allows s.lamps.direction <;> rfl
    · cases s.lamps.lamps[k].phase <;> rfl
    · exact congrArg BitVec.toNat zero

end Sys2Proof.Machine

/-! ## The sound and radio groups, and the readings timers -/

namespace Sys2Proof.Machine

-- One proof at a time: proofs that wait for one another would each hold a thread.
set_option Elab.async false

/-! ### The sound group -/

theorem Sound.orderBytes_length (e : Sound) : e.orderBytes.length = 6 := by
  simp only [Sound.orderBytes, List.length_take, List.length_append, List.length_map, List.length_replicate]
  omega

/-- Place `n` of the start order list, 0xFF where it is unused. -/
theorem Sound.orderBytes_getD (e : Sound) (n : Nat) (hn : n < 6) :
    (e.orderBytes.getD n 0#8).toNat = (match e.order[n]? with
      | some v => v.val
      | none => 0xFF) := by
  rw [List.getD_eq_getElem?_getD, Sound.orderBytes, List.getElem?_take_of_lt hn, List.getElem?_append]
  split
  · rename_i hl
    rw [List.length_map] at hl
    rw [List.getElem?_map, List.getElem?_eq_getElem hl]
    have := e.order[n].isLt
    simp only [Option.map_some, Option.getD_some, BitVec.toNat_ofNat]
    omega
  · rename_i hl
    rw [List.length_map] at hl
    rw [List.getElem?_eq_none (l := e.order) (by omega), List.length_map, List.getElem?_replicate, if_pos (by omega)]
    rfl

/-- A voice at its offsets. -/
theorem State.voiceShown (s : State) (x : Voice) (a : Nat) (h : s.Holds a x.bytes) :
    s.storeNum a = [.free, .leading, .looping, .tailing, .fading].idxOf x.state ∧ s.storeNum (a + 1) = x.cue % 256 ∧
      s.storeNum (a + 2) = [.start, .loop, .tail].idxOf x.part ∧ s.storeNum (a + 3) = x.clip % 256 ∧
      s.storeNum16 (a + 4) + 65536 * s.storeNum (a + 6) = x.position % 16777216 ∧ s.storeNum (a + 7) = x.gain % 256 ∧
      s.storeNum16 (a + 8) = x.fade % 65536 ∧ s.storeNum (a + 10) = (if x.release then 1 else 0) ∧
      s.storeNum (a + 11) = 0 := by
  simp only [Voice.bytes, State.holds_append, State.holds_le16, State.holds_le8, State.holds_cons,
    State.holds_le24, List.length_append, le8_length, le16_length, le24_length, Nat.reduceAdd, and_assoc] at h
  obtain ⟨state, cue, part, clip, position, gain, fade, release, zero, -⟩ := h
  refine ⟨state.trans ?_, cue, part.trans ?_, clip, position, gain, fade, flagByte_num release, congrArg BitVec.toNat zero⟩
  · cases x.state <;> rfl
  · cases x.part <;> rfl

/-- The sound group shows the sound engine's values (R134). -/
theorem State.soundGroupShows_of_holds (s : State) (h : s.Holds 0x0971 s.sound.groupBytes) : s.SoundGroupShows := by
  delta Sound.groupBytes at h
  simp only [State.holds_append, State.holds_le16, State.holds_le8, State.holds_byte, State.holds_le24,
    s.holds_records Voice.bytes 12 (fun _ => rfl), Sound.orderBytes_length, List.length_append, le8_length, le16_length,
    le24_length, List.length_singleton, Nat.reduceAdd, and_assoc] at h
  obtain ⟨bank, fault, cues, clips, chuff, progress, length, volume, load, attenuation, effective, amp, count, order,
    zero, clip, noBank, noCue, noVoice, badAction, steals, last, voices⟩ := h
  refine ⟨bank.trans ?_, fault.trans ?_, fun hn => ?_, fun x hx => ?_, fun hn => ?_, fun n r hr hk hf => ?_, progress,
    volume, flagByte_num load, attenuation, effective, flagByte_num amp, count, fun n hn => ?_, congrArg BitVec.toNat zero,
    half_num clip, half_num noBank, half_num noCue, half_num noVoice, half_num badAction, half_num steals, half_num last,
    fun v => ?_⟩
  · cases s.sound.bank <;> rfl
  · cases s.sound.fault <;> rfl
  · rw [hn] at cues clips length
    exact ⟨cues, clips, length⟩
  · rw [hx] at cues clips length
    exact ⟨cues, clips, length⟩
  · rw [Sound.chuffCue_of_none _ hn] at chuff
    exact chuff
  · rw [Sound.chuffCue_of_first _ hr hk hf] at chuff
    exact chuff
  · have place := congrArg BitVec.toNat (order n (by rwa [Sound.orderBytes_length]))
    rw [Sound.orderBytes_getD _ n hn] at place
    rw [show 2435 + n = 0x0970 + (19 + n) by omega] at place
    exact place
  · have base : 0x0970 + (40 + 12 * v.val) = 2456 + 12 * v.val := by omega
    have voice := voices v
    rw [← base] at voice
    exact s.voiceShown _ _ voice

/-! ### The radio group -/

/-- The bytes of the recent-senders table are those of its first 8 entries, and zeros. -/
theorem Radio.senderBytes_eq (r : Radio) :
    r.senderBytes = ((r.senders.take 8).map fun e => [e.sender, e.counter] ++ le32 e.heard).flatten ++
      (List.replicate (8 - (r.senders.take 8).length) (List.replicate 6 0#8)).flatten := by
  simp only [Radio.senderBytes, List.flatten_append, List.length_map]

theorem Radio.senderBytes_length (r : Radio) : r.senderBytes.length = 48 := by
  rw [Radio.senderBytes_eq, List.length_append, flatten_map_length _ 6 fun _ => rfl]
  simp only [List.flatten_replicate_replicate, List.length_replicate, List.length_take]
  omega

/-- The radio group shows the receiver's values and the function table's (R155). -/
theorem State.radioGroupShows_of_holds (s : State) (h : s.Holds 0x09F1 s.radioBytes) : s.RadioGroupShows := by
  simp only [State.radioBytes, State.holds_append, State.holds_le16, State.holds_le8, State.holds_byte, State.holds_le32,
    Radio.senderBytes_length, List.length_append, le8_length, le16_length, le32_length, List.length_singleton,
    Nat.reduceAdd, and_assoc] at h
  obtain ⟨finder, silence, heard, good, crc, abandoned, addressed, duplicates, refused, held, dropped, elapsed, left, seq,
    filled, count, senders, flags, sources⟩ := h
  refine ⟨finder.trans ?_, silence.trans ?_, flagByte_num heard, half_num good, half_num crc, half_num abandoned,
    half_num addressed, half_num duplicates, half_num refused, half_num held, half_num dropped, elapsed, left.trans ?_,
    congrArg BitVec.toNat seq, filled.trans (Nat.mod_eq_of_lt ?_), count, fun i e hi he => ?_, fun n => ⟨?_, ?_⟩⟩
  · cases s.radio.finder <;> rfl
  · cases s.radio.silence <;> rfl
  · unfold State.timeLeft
    cases s.radio.silenceTimer <;> rfl
  · exact Nat.lt_of_le_of_lt List.countP_le_length (by simp)
  · rw [Radio.senderBytes_eq, State.holds_append, s.holds_flatten _ 6 fun _ => rfl] at senders
    obtain ⟨hlt, hget⟩ := List.getElem?_eq_some_iff.mp he
    have entry := senders.1 i (by rw [List.length_take]; omega)
    rw [List.getElem_take, hget] at entry
    simp only [State.holds_append, State.holds_cons, State.holds_le32, List.length_cons, List.length_nil, Nat.reduceAdd,
      and_assoc] at entry
    obtain ⟨sender, counter, -, time⟩ := entry
    rw [show 2570 + 6 * i = 0x09F0 + (26 + 6 * i) by omega] at sender
    rw [show 2570 + 6 * i + 1 = 0x09F0 + (27 + 6 * i) by omega] at counter
    rw [show 2570 + 6 * i + 2 = 0x09F0 + (28 + 6 * i) by omega] at time
    exact ⟨congrArg BitVec.toNat sender, congrArg BitVec.toNat counter, time⟩
  · have hlt : maskOf (s.functions.flags.toList.map (·.on)) < 4294967296 :=
      Nat.lt_of_lt_of_eq (maskOf_lt _) (by simp)
    have mask := flags.trans (Nat.mod_eq_of_lt hlt)
    show (s.storeNum32 (0x09F0 + 74)).testBit n.val = _
    rw [mask, testBit_maskOf, List.getD_eq_getElem _ _ (by simp), List.getElem_map, Vector.getElem_toList]
    rfl
  · have byte := congrArg BitVec.toNat (sources n.val (by simp))
    rw [List.getD_eq_getElem _ _ (by simp), List.getElem_map, Vector.getElem_toList] at byte
    rw [show 2622 + n.val = 0x09F0 + (78 + n.val) by omega] at byte
    refine byte.trans ?_
    show (BitVec.ofNat 8 s.functions.flags[n].source.code).toNat = _
    cases s.functions.flags[n].source <;> rfl

/-! ### Writings -/

section
variable (s : State)

/-- A writing of the drive group shows the drive's values. -/
theorem State.writeDriveReadings_shows :
    s.writeDriveReadings.DriveGroupShows ∧ s.GroupWritten s.writeDriveReadings driveGroup s.writeDriveReadings.driveBytes := by
  have w : s.GroupWritten s.writeDriveReadings driveGroup s.writeDriveReadings.driveBytes :=
    s.groupWritten_writeGroup driveGroup s.driveBytes
  exact ⟨s.writeDriveReadings.driveGroupShows_of_holds w.holds, w⟩

theorem State.writePowerReadings_shows :
    s.writePowerReadings.PowerGroupShows ∧ s.GroupWritten s.writePowerReadings powerGroup s.power.groupBytes := by
  have w := s.groupWritten_writeGroup powerGroup s.power.groupBytes
  exact ⟨s.writePowerReadings.powerGroupShows_of_holds w.holds, w⟩

theorem State.writeRadioReadings_shows :
    s.writeRadioReadings.RadioGroupShows ∧ s.GroupWritten s.writeRadioReadings radioGroup s.writeRadioReadings.radioBytes := by
  have w : s.GroupWritten s.writeRadioReadings radioGroup s.writeRadioReadings.radioBytes :=
    s.groupWritten_writeGroup radioGroup s.radioBytes
  exact ⟨s.writeRadioReadings.radioGroupShows_of_holds w.holds, w⟩

theorem State.writeSequencerReadings_shows :
    s.writeSequencerReadings.SequencerGroupShows ∧
      s.GroupWritten s.writeSequencerReadings sequencerGroup s.sequencer.groupBytes := by
  have w := s.groupWritten_writeGroup sequencerGroup s.sequencer.groupBytes
  exact ⟨s.writeSequencerReadings.sequencerGroupShows_of_holds w.holds, w⟩

theorem State.writeLampReadings_shows :
    s.writeLampReadings.LampGroupShows ∧ s.GroupWritten s.writeLampReadings lampGroup s.lamps.groupBytes := by
  have w := s.groupWritten_writeGroup lampGroup s.lamps.groupBytes
  exact ⟨s.writeLampReadings.lampGroupShows_of_holds w.holds, w⟩

theorem State.writeSoundReadings_shows :
    s.writeSoundReadings.SoundGroupShows ∧ s.GroupWritten s.writeSoundReadings soundGroup s.sound.groupBytes := by
  have w := s.groupWritten_writeGroup soundGroup s.sound.groupBytes
  exact ⟨s.writeSoundReadings.soundGroupShows_of_holds w.holds, w⟩

theorem Smoke.groupBytes_length (u : Smoke) : u.groupBytes.length = 21 := rfl

/-- A byte of the smoke group or of the retained group after a writing of the smoke readings. -/
theorem State.storeAt_writeSmokeReadings (a : Nat) :
    s.writeSmokeReadings.storeAt a =
      if a = 0x0A70 then s.storeAt 0x0A70 + 1#8
      else if 0x0A78 ≤ a ∧ a < 0x0A7B then (le24 s.smoke.budget).getD (a - 0x0A78) 0#8
      else if a = 0x0900 then s.storeAt 0x0900 + 1#8
      else if 0x0901 ≤ a ∧ a < 0x0916 then s.smoke.groupBytes.getD (a - 0x0901) 0#8
      else s.storeAt a := by
  rw [State.writeSmokeReadings, State.storeAt_writeGroup, State.storeAt_writeGroup, State.storeAt_writeGroup,
    Smoke.groupBytes_length]
  rfl

theorem State.writeSmokeReadings_shows : s.writeSmokeReadings.SmokeGroupShows := by
  refine State.smokeGroupShows_of_holds _ (fun i hi => ?_) (fun i hi => ?_)
  · have hi : i < 21 := hi
    rw [State.storeAt_writeSmokeReadings, if_neg (by omega), if_neg (by omega), if_neg (by omega), if_pos (by omega),
      show 0x0901 + i - 0x0901 = i by omega]
    rfl
  · have hi : i < 3 := hi
    rw [State.storeAt_writeSmokeReadings, if_neg (by omega), if_pos (by omega), show 0x0A78 + i - 0x0A78 = i by omega]
    rfl

theorem State.cadenceBytes_length : s.cadenceBytes.length = 23 := rfl

/-- A byte of the store after a writing of the cadence readings. -/
theorem State.storeAt_writeCadenceReadings (a : Nat) :
    s.writeCadenceReadings.storeAt a =
      if a = 0x0A70 then s.storeAt 0x0A70 + 1#8
      else if 0x0A74 ≤ a ∧ a < 0x0A78 then (le32 s.cadence.odometer.toNat).getD (a - 0x0A74) 0#8
      else if a = 0x08E0 then s.storeAt 0x08E0 + 1#8
      else if 0x08E1 ≤ a ∧ a < 0x08F8 then s.cadenceBytes.getD (a - 0x08E1) 0#8
      else s.storeAt a := by
  rw [State.writeCadenceReadings, State.storeAt_writeGroup, State.storeAt_writeGroup, State.storeAt_writeGroup,
    State.cadenceBytes_length]
  rfl

/-- The cadence group stands after a writing of the cadence readings. -/
theorem State.writeCadenceReadings_holds : s.writeCadenceReadings.Holds 0x08E1 s.writeCadenceReadings.cadenceBytes := by
  intro i hi
  have hi : i < 23 := hi
  rw [State.storeAt_writeCadenceReadings, if_neg (by omega), if_neg (by omega), if_neg (by omega), if_pos (by omega),
    show 0x08E1 + i - 0x08E1 = i by omega]
  rfl

end

/-- The four bytes of a word, least significant first. -/
theorem le32_getD (x : Word) (i : Nat) (hi : i < 4) : (le32 x.toNat).getD i 0#8 = x.extractLsb' (8 * i) 8 := by
  apply BitVec.eq_of_toNat_eq
  rw [BitVec.extractLsb'_toNat, Nat.shiftRight_eq_div_pow]
  interval_cases i <;> simp [le32, le16, Nat.div_div_eq_div_mul]

/-- Settles O24: each group by its fields, the odometer and the budget by the retained group's. -/
theorem readingsTimersWriteTheirGroups : Obligations.ReadingsTimersWriteTheirGroups := by
  intro s
  refine ⟨fun h a b => ?_, fun h => ?_, fun h => ?_, fun h => ?_,
    ⟨s.writeSequencerReadings_shows.1, s.writeSequencerReadings_shows.2, s.sameExcept_writeGroup _ _ _⟩,
    ⟨s.writeSmokeReadings_shows, ?_, ?_, fun a h₁ h₂ h₃ => ?_, s.sameExcept_writeSmokeReadings⟩,
    ⟨s.writeLampReadings_shows.1, s.writeLampReadings_shows.2, s.sameExcept_writeGroup _ _ _⟩,
    ⟨s.writeSoundReadings_shows.1, s.writeSoundReadings_shows.2, s.sameExcept_writeGroup _ _ _⟩⟩
  · obtain ⟨shows, written⟩ := State.writeDriveReadings_shows (s.withDrive { s.drive with
      readingsTimer := s.startTimer readingsInterval, shortA := a, shortB := b })
    exact ⟨_, congrArg Host.Outcome.next (if_pos h), rfl, shows, written, State.sameExcept_trans
      (State.sameExcept_mono (s.sameExcept_withDrive _) (by simp)) (State.sameExcept_mono (State.sameExcept_writeGroup _ _ _ _) (by simp))⟩
  · obtain ⟨shows, written⟩ := State.writePowerReadings_shows (s.withPower { s.power with
      readingsTimer := s.startTimer readingsInterval })
    exact ⟨_, congrArg Host.Outcome.next (if_pos h), rfl, shows, written, State.sameExcept_trans
      (State.sameExcept_mono (s.sameExcept_withPower _) (by simp)) (State.sameExcept_mono (State.sameExcept_writeGroup _ _ _ _) (by simp))⟩
  · obtain ⟨shows, written⟩ := State.writeRadioReadings_shows (s.withRadio { s.radio with
      readingsTimer := s.startTimer readingsInterval })
    exact ⟨_, congrArg Host.Outcome.next (if_pos h), rfl, shows, written, State.sameExcept_trans
      (State.sameExcept_mono (s.sameExcept_withRadio _) (by simp)) (State.sameExcept_mono (State.sameExcept_writeGroup _ _ _ _) (by simp))⟩
  · let u := s.withCadence { s.cadence with readingsTimer := s.startTimer readingsInterval }
    have byte := u.storeAt_writeCadenceReadings
    refine ⟨u.writeCadenceReadings, congrArg Host.Outcome.next (if_pos h), rfl,
      State.cadenceGroupShows_of_holds _ u.writeCadenceReadings_holds, ?_, u.writeCadenceReadings_holds, ?_, fun i hi => ?_,
      fun a h₁ h₂ h₃ => ?_, ?_⟩
    · rw [byte]
      rfl
    · rw [byte]
      rfl
    · rw [byte, retainedGroup, if_neg (by omega), if_pos (by omega), show 0x0A70 + 4 + i - 0x0A74 = i by omega,
        le32_getD _ i hi]
      rfl
    · have hl : u.writeCadenceReadings.cadenceBytes.length = 23 := rfl
      rw [hl] at h₁
      simp only [cadenceGroup, retainedGroup] at h₁ h₂ h₃
      rw [byte, if_neg (by omega), if_neg (by omega), if_neg (by omega), if_neg (by omega)]
      rfl
    · exact State.sameExcept_trans (State.sameExcept_mono (s.sameExcept_withCadence _) (by simp))
        (State.sameExcept_trans (State.sameExcept_mono (State.sameExcept_writeGroup _ _ _ _) (by simp))
          (State.sameExcept_mono (State.sameExcept_writeGroup _ _ _ _) (by simp)))
  · rw [State.storeAt_writeSmokeReadings]
    rfl
  · rw [State.storeAt_writeSmokeReadings]
    rfl
  · rw [State.storeAt_writeSmokeReadings, if_neg (by omega), if_neg (by omega), if_neg (by omega), if_neg (by omega)]

end Sys2Proof.Machine

/-! ## The mount of a sound bank -/

namespace Sys2Proof.Machine

-- One proof at a time: proofs that wait for one another would each hold a thread.
set_option Elab.async false

/-! ### A change of bank -/

/-- A change of bank attends as before: it writes the engine and its readings alone. -/
theorem State.changeBank_attends (s : State) (e : Sound) : (s.changeBank e).AttendsAs s :=
  .of_shows (l := [.sound, .store]) (((State.Shows.of_frame (s.sameExcept_withSound e)).mono).trans
    (State.shows_writeGroup _ _ _ _).mono)

theorem State.sameExcept_changeBank (s : State) (e : Sound) : s.SameExcept (s.changeBank e) [.sound, .store] :=
  State.sameExcept_trans (State.sameExcept_mono (s.sameExcept_withSound _) (by simp))
    (State.sameExcept_mono (State.sameExcept_writeGroup _ _ _ _) (by simp))

/-- A change of bank that an event and a raise follow: the engine, its readings, and what is raised. -/
theorem State.changeBank_raised (s : State) (e : Sound) (k : EventKind) (subject : Byte) (detail : Half) (a : AttnSource) :
    let t := ((s.changeBank e).event k subject detail).raise a
    t.sound = e ∧ t.EventsAs ((s.event k subject detail).raise a) ∧ t.SoundGroupShows ∧
      s.GroupWritten t soundGroup t.sound.groupBytes ∧
      s.SameExcept t [.sound, .store, .events, .eventSeq, .attention] := by
  have after : (s.changeBank e).Keeps (((s.changeBank e).event k subject detail).raise a) Component.ofEvent :=
    (State.keeps_event _ k subject detail).trans (State.keeps_raise _ a).mono
  have sound : (((s.changeBank e).event k subject detail).raise a).sound = e := after.same .sound
  have store : ∀ n, (((s.changeBank e).event k subject detail).raise a).storeAt n = (s.changeBank e).storeAt n :=
    after.same .store
  have written := ((s.withSound e).writeSoundReadings_shows).2
  have group : s.GroupWritten (((s.changeBank e).event k subject detail).raise a) soundGroup e.groupBytes :=
    ⟨(store _).trans written.1, fun i hi => (store _).trans (written.2.1 i hi),
      fun n hn => (store _).trans (written.2.2 n hn)⟩
  dsimp only
  rw [sound]
  refine ⟨rfl, (((s.changeBank_attends e).event k subject detail).raise a).2, ?_, group, ?_⟩
  · refine State.soundGroupShows_of_holds _ ?_
    rw [sound]
    exact group.holds
  · exact State.sameExcept_trans (State.sameExcept_mono (s.sameExcept_changeBank e) (by simp))
      (State.sameExcept_mono after.frame (by decide))

/-! ### The header -/

/-- A number of three bytes, most significant first, from the flash. -/
theorem State.flashRun_three (s : State) (a : Nat) :
    bigEndian (s.flashRun a 3) =
      (s.flashAt a).toNat * 65536 + (s.flashAt (a + 1)).toNat * 256 + (s.flashAt (a + 2)).toNat := by
  show ((0 * 256 + (s.flashAt a).toNat) * 256 + (s.flashAt (a + 1)).toNat) * 256 + (s.flashAt (a + 2)).toNat = _
  ring

theorem State.flashRun_four (s : State) (a : Nat) :
    bigEndian (s.flashRun a 4) = (s.flashAt a).toNat * 16777216 + (s.flashAt (a + 1)).toNat * 65536 +
      (s.flashAt (a + 2)).toNat * 256 + (s.flashAt (a + 3)).toNat := by
  show (((0 * 256 + (s.flashAt a).toNat) * 256 + (s.flashAt (a + 1)).toNat) * 256 + (s.flashAt (a + 2)).toNat) * 256 +
    (s.flashAt (a + 3)).toNat = _
  ring

/-- The header as the flash gives it. -/
def State.headerRead (s : State) : BankHeader :=
  ⟨(s.flashAt 1).toNat, (s.flashAt 2).toNat,
    (s.flashAt 4).toNat * 65536 + (s.flashAt 5).toNat * 256 + (s.flashAt 6).toNat,
    BitVec.ofNat 32 ((s.flashAt 8).toNat * 16777216 + (s.flashAt 9).toNat * 65536 + (s.flashAt 10).toNat * 256 +
      (s.flashAt 11).toNat)⟩

/-- The counts of a header exceed the bank or its length (R119). -/
def BankHeader.Short (h : BankHeader) : Prop :=
  63 < h.cueCount ∨ h.length < 32 + 8 * h.cueCount + 8 * h.clipCount

/-- The judgement of the header: FORMAT, COUNTS, or the pass begins (R119). -/
theorem exec_mountHeaderRead_judges (s : State) (hp : s.part = .run) (hb : s.sound.bank = .mounting)
    (hh : s.sound.header = none) :
    ((s.flashAt 0).toNat ≠ 1 → exec .mountHeaderRead s = .next (s.failMount .format 0)) ∧
    ((s.flashAt 0).toNat = 1 → s.headerRead.Short → exec .mountHeaderRead s = .next (s.failMount .counts 0)) ∧
    ((s.flashAt 0).toNat = 1 → ¬ s.headerRead.Short →
      exec .mountHeaderRead s = .next (s.withSound { s.sound with header := some s.headerRead, progress := 32 })) := by
  have clips : (s.flashAt 2).toNat < 256 := (s.flashAt 2).isLt
  have goes : s.mountGoesOn = true := by simp [State.mountGoesOn, hp, hb]
  have length := s.flashRun_three 4
  have crc := s.flashRun_four 8
  have judged : exec .mountHeaderRead s = .next
      (if (s.flashAt 0).toNat ≠ 1 then s.failMount .format 0
      else if 63 < (s.flashAt 1).toNat ∨ 255 < (s.flashAt 2).toNat then s.failMount .counts 0
      else if bigEndian (s.flashRun 4 3) < 32 + 8 * (s.flashAt 1).toNat + 8 * (s.flashAt 2).toNat then
        s.failMount .counts 0
      else s.withSound { s.sound with
        header := some ⟨(s.flashAt 1).toNat, (s.flashAt 2).toNat, bigEndian (s.flashRun 4 3),
          BitVec.ofNat 32 (bigEndian (s.flashRun 8 4))⟩, progress := 32 }) :=
    congrArg Host.Outcome.next (if_pos ⟨goes, hh⟩)
  simp only [Nat.reduceAdd] at length crc
  rw [length, crc] at judged
  unfold BankHeader.Short State.headerRead
  dsimp only
  refine ⟨fun hf => ?_, fun hf hc => ?_, fun hf hc => ?_⟩ <;> rw [judged]
  · rw [if_pos hf]
  · rw [if_neg (not_not.mpr hf)]
    split
    · rfl
    · exact congrArg Host.Outcome.next (if_pos (hc.resolve_left (by omega)))
  · rw [if_neg (not_not.mpr hf), if_neg (by omega), if_neg (by omega)]

/-- A pass that goes on reads 1280 bytes a millisecond. -/
theorem State.mountProgress_goes (s : State) {h : BankHeader} (hg : s.mountGoesOn = true) (hh : s.sound.header = some h) :
    s.mountProgress = s.withSound { s.sound with
      progress := min h.length (s.sound.progress + 1280)
      cues := s.cuesRead h (min h.length (s.sound.progress + 1280))
      clips := s.clipsRead h (min h.length (s.sound.progress + 1280)) } := by
  unfold State.mountProgress
  rw [hg, hh]
  rfl

/-- Outside a pass nothing is read. -/
theorem State.mountProgress_rests (s : State) (h : ¬ (s.mountGoesOn = true ∧ s.sound.header.isSome = true)) :
    s.mountProgress = s := by
  unfold State.mountProgress
  split
  · rename_i hg hh
    exact absurd ⟨hg, by rw [hh]; rfl⟩ h
  · rfl

/-- Settles O28: the tick by whether a pass goes on, the header by its judgement. -/
theorem mountHeaderAndProgress : Obligations.MountHeaderAndProgress := by
  intro s
  have goes : s.mountGoesOn = true ↔ s.part = .run ∧ s.sound.bank = .mounting := by
    simp [State.mountGoesOn, and_comm]
  refine ⟨fun hn => ?_, fun hp => ?_, fun h hp hb hh => ?_, fun hp hb hh => ?_⟩
  · refine congrArg Host.Outcome.next ((s.withTime (s.time + 1)).mountProgress_rests fun h => hn ?_)
    obtain ⟨hr, hm⟩ := goes.mp h.1
    exact ⟨hr, hm, h.2⟩
  · exact congrArg Host.Outcome.next (if_neg fun h => hp (goes.mp h.1).1)
  · have read := (s.withTime (s.time + 1)).mountProgress_goes (goes.mpr ⟨hp, hb⟩) hh
    refine ⟨_, rfl, ?_, ?_, ?_⟩ <;> rw [read]
    · rfl
    · rfl
    · exact State.sameExcept_trans (State.sameExcept_mono (s.sameExcept_withTime _) (by simp))
        (State.sameExcept_mono (State.sameExcept_withSound _ _) (by simp))
  · obtain ⟨format, counts, begins⟩ := exec_mountHeaderRead_judges s hp hb hh
    dsimp only
    by_cases hf : (s.flashAt 0).toNat = 1
    · rw [if_neg (not_not.mpr hf)]
      by_cases hc : 63 < (s.flashAt 1).toNat ∨
          (s.flashAt 4).toNat * 65536 + (s.flashAt 5).toNat * 256 + (s.flashAt 6).toNat <
            32 + 8 * (s.flashAt 1).toNat + 8 * (s.flashAt 2).toNat
      · rw [if_pos hc]
        exact ⟨_, counts hf hc, fun h => absurd h (by simp),
          fun _ => s.changeBank_raised _ .bankFaulty 2#8 0#16 .soundBank⟩
      · rw [if_neg hc]
        exact ⟨_, begins hf hc, fun _ => ⟨rfl, s.sameExcept_withSound _⟩, fun h => absurd rfl h⟩
    · rw [if_pos hf]
      exact ⟨_, format hf, fun h => absurd h (by simp), fun _ => s.changeBank_raised _ .bankFaulty 1#8 0#16 .soundBank⟩

/-! ### The tables -/

/-- A cue record that passes R120's check, `before` telling whether a CHUFF cue came before it. -/
def CueRecord.Fine (clipCount : Nat) (before : Prop) (r : CueRecord) : Prop :=
  0 < r.start ∧ r.start ≤ clipCount ∧ r.priority ≤ 7 ∧ r.kind ≤ 2 ∧
    (r.kind ≠ 2 → r.loop ≤ clipCount ∧ r.tail ≤ clipCount) ∧ (r.kind = 2 → r.start + 3 ≤ clipCount ∧ ¬ before)

/-- A clip record that passes R120's check. -/
def ClipRecord.Fine (tablesEnd bankLength : Nat) (r : ClipRecord) : Prop :=
  0 < r.length ∧ r.length ≤ 1048576 ∧ tablesEnd ≤ r.address ∧ r.address + r.length ≤ bankLength

/-- One step of the judgement of the cue records. -/
theorem badCue_cons (clipCount n : Nat) (seen : Bool) (r : CueRecord) (rs : List CueRecord) :
    (r.Fine clipCount (seen = true) → badCue clipCount n seen (r :: rs) =
      badCue clipCount (n + 1) (seen || r.kind == 2) rs) ∧
    (¬ r.Fine clipCount (seen = true) → badCue clipCount n seen (r :: rs) = some n) := by
  refine ⟨fun h => if_neg ?_, fun h => if_pos ?_⟩
  · unfold CueRecord.Fine at h
    simp only [kindChuff]
    cases seen <;> simp at h ⊢ <;> omega
  · by_contra hn
    refine h ?_
    unfold CueRecord.Fine
    simp only [kindChuff] at hn
    cases seen <;> simp at hn ⊢ <;> omega

/-- The judgement of the cue records: the first that is not fine. -/
theorem badCue_eq (clipCount : Nat) (rs : List CueRecord) (m : Nat) (seen : Bool) (fine : Nat → Prop)
    (hf : ∀ (i : Nat) (hi : i < rs.length),
      fine i ↔ rs[i].Fine clipCount (seen = true ∨ ∃ (j : Nat) (hj : j < i), rs[j].kind = 2)) :
    ((∀ i, i < rs.length → fine i) → badCue clipCount m seen rs = none) ∧
      ∀ n, n < rs.length → (∀ i, i < n → fine i) → ¬ fine n → badCue clipCount m seen rs = some (m + n) := by
  induction rs generalizing m seen fine with
  | nil => exact ⟨fun _ => rfl, fun n hn => absurd hn (Nat.not_lt_zero n)⟩
  | cons r rs ih =>
    obtain ⟨passes, fails⟩ := badCue_cons clipCount m seen r rs
    have first : fine 0 ↔ r.Fine clipCount (seen = true) := by
      rw [hf 0 (by simp)]
      simp
    have rest := ih (m + 1) (seen || r.kind == 2) (fun i => fine (i + 1)) fun i hi => by
      rw [hf (i + 1) (by simpa using hi)]
      have : (seen = true ∨ ∃ (j : Nat) (hj : j < i + 1), ((r :: rs)[j]'(by simp; omega)).kind = 2) ↔
          ((seen || r.kind == 2) = true ∨ ∃ (j : Nat) (hj : j < i), rs[j].kind = 2) := by
        rw [Bool.or_eq_true, beq_iff_eq, or_assoc]
        refine or_congr_right ⟨fun ⟨j, hj, hk⟩ => ?_, fun h => ?_⟩
        · cases j with
          | zero => exact .inl hk
          | succ j => exact .inr ⟨j, by omega, hk⟩
        · rcases h with hk | ⟨j, hj, hk⟩
          · exact ⟨0, by omega, hk⟩
          · exact ⟨j + 1, by omega, hk⟩
      simp only [List.getElem_cons_succ, this]
    refine ⟨fun h => ?_, fun n hn h hbad => ?_⟩
    · rw [passes (first.mp (h 0 (by simp)))]
      exact rest.1 fun i hi => h (i + 1) (by simpa using hi)
    · cases n with
      | zero => exact fails fun h => hbad (first.mpr h)
      | succ n =>
        rw [passes (first.mp (h 0 (by omega))), rest.2 n (by simpa using hn) (fun i hi => h (i + 1) (by omega)) hbad]
        congr 1
        omega

/-- The judgement of the clip records: the first that is not fine. -/
theorem badClip_eq (tablesEnd bankLength : Nat) (rs : List ClipRecord) (m : Nat) (fine : Nat → Prop)
    (hf : ∀ (i : Nat) (hi : i < rs.length), fine i ↔ rs[i].Fine tablesEnd bankLength) :
    ((∀ i, i < rs.length → fine i) → badClip tablesEnd bankLength m rs = none) ∧
      ∀ n, n < rs.length → (∀ i, i < n → fine i) → ¬ fine n → badClip tablesEnd bankLength m rs = some (m + n) := by
  induction rs generalizing m fine with
  | nil => exact ⟨fun _ => rfl, fun n hn => absurd hn (Nat.not_lt_zero n)⟩
  | cons r rs ih =>
    have first : fine 0 ↔ r.Fine tablesEnd bankLength := hf 0 (by simp)
    have passes : r.Fine tablesEnd bankLength → badClip tablesEnd bankLength m (r :: rs) =
        badClip tablesEnd bankLength (m + 1) rs := fun h => if_neg (by unfold ClipRecord.Fine at h; omega)
    have fails : ¬ r.Fine tablesEnd bankLength → badClip tablesEnd bankLength m (r :: rs) = some m :=
      fun h => if_pos (by unfold ClipRecord.Fine at h; omega)
    have rest := ih (m + 1) (fun i => fine (i + 1)) fun i hi => hf (i + 1) (by simpa using hi)
    refine ⟨fun h => ?_, fun n hn h hbad => ?_⟩
    · rw [passes (first.mp (h 0 (by simp)))]
      exact rest.1 fun i hi => h (i + 1) (by simpa using hi)
    · cases n with
      | zero => exact fails fun h => hbad (first.mpr h)
      | succ n =>
        rw [passes (first.mp (h 0 (by omega))), rest.2 n (by simpa using hn) (fun i hi => h (i + 1) (by omega)) hbad]
        congr 1
        omega

/-! ### The end of the mount -/

/-- The engine once the pass has reached the bank length: the tables stand whole. -/
def State.tablesRead (s : State) (h : BankHeader) : Sound :=
  { s.sound with
    progress := h.length
    cues := (List.range h.cueCount).map s.cueRecordAt
    clips := (List.range h.clipCount).map (s.clipRecordAt h.cueCount) }

/-- A completed mount is judged: CRC, cue records, clip records (R120). -/
theorem exec_mountComplete_judges (s : State) (h : BankHeader) (hp : s.part = .run) (hb : s.sound.bank = .mounting)
    (hh : s.sound.header = some h) (hl : 32 + 8 * h.cueCount + 8 * h.clipCount ≤ h.length) :
    exec .mountComplete s = .next
      (if crc32 (s.flashRun 32 (h.length - 32)) ≠ h.crc then (s.withSound (s.tablesRead h)).failMount .crc 0
      else match badCue h.clipCount 1 false (s.tablesRead h).cues with
        | some n => (s.withSound (s.tablesRead h)).failMount .cueRecord n
        | none =>
          match badClip (32 + 8 * h.cueCount + 8 * h.clipCount) h.length 1 (s.tablesRead h).clips with
          | some n => (s.withSound (s.tablesRead h)).failMount .clipRecord n
          | none =>
            (((s.withSound (s.tablesRead h)).changeBank { s.tablesRead h with bank := .ready }).event .bankReady 0#8
              (BitVec.ofNat 16 h.cueCount)).raise .soundBank) := by
  have goes : s.mountGoesOn = true := by simp [State.mountGoesOn, hp, hb]
  have cues : s.cuesRead h h.length = (s.tablesRead h).cues := by
    rw [State.cuesRead, min_eq_left (by omega)]
    rfl
  have clips : s.clipsRead h h.length = (s.tablesRead h).clips := by
    rw [State.clipsRead, min_eq_left (by omega)]
    rfl
  show execMountComplete s = _
  unfold execMountComplete
  rw [goes, hh]
  dsimp only
  rw [cues, clips]
  rfl

/-- Cue record `i` of the flash passes R120's check. -/
def State.CueFine (s : State) (h : BankHeader) (i : Nat) : Prop :=
  0 < (s.cueRecordAt i).start ∧ (s.cueRecordAt i).start ≤ h.clipCount ∧ (s.cueRecordAt i).priority ≤ 7 ∧
    (s.cueRecordAt i).kind ≤ 2 ∧
    ((s.cueRecordAt i).kind ≠ 2 → (s.cueRecordAt i).loop ≤ h.clipCount ∧ (s.cueRecordAt i).tail ≤ h.clipCount) ∧
    ((s.cueRecordAt i).kind = 2 →
      (s.cueRecordAt i).start + 3 ≤ h.clipCount ∧ ∀ j, j < i → (s.cueRecordAt j).kind ≠ 2)

/-- Clip record `i` of the flash passes R120's check. -/
def State.ClipFine (s : State) (h : BankHeader) (i : Nat) : Prop :=
  (s.clipRecordAt h.cueCount i).Fine (32 + 8 * h.cueCount + 8 * h.clipCount) h.length

/-- The judgement of the tables read, record by record. -/
theorem State.badCue_tables (s : State) (h : BankHeader) :
    ((∀ i, i < h.cueCount → s.CueFine h i) → badCue h.clipCount 1 false (s.tablesRead h).cues = none) ∧
      ∀ n, n < h.cueCount → (∀ i, i < n → s.CueFine h i) → ¬ s.CueFine h n →
        badCue h.clipCount 1 false (s.tablesRead h).cues = some (1 + n) := by
  have cues : (s.tablesRead h).cues.length = h.cueCount := by simp [State.tablesRead]
  rw [← cues]
  exact badCue_eq h.clipCount (s.tablesRead h).cues 1 false (s.CueFine h) fun i hi => by
    simp [State.tablesRead, State.CueFine, CueRecord.Fine]

theorem State.badClip_tables (s : State) (h : BankHeader) :
    ((∀ i, i < h.clipCount → s.ClipFine h i) →
      badClip (32 + 8 * h.cueCount + 8 * h.clipCount) h.length 1 (s.tablesRead h).clips = none) ∧
    ∀ n, n < h.clipCount → (∀ i, i < n → s.ClipFine h i) → ¬ s.ClipFine h n →
      badClip (32 + 8 * h.cueCount + 8 * h.clipCount) h.length 1 (s.tablesRead h).clips = some (1 + n) := by
  have clips : (s.tablesRead h).clips.length = h.clipCount := by simp [State.tablesRead]
  rw [← clips]
  exact badClip_eq _ h.length (s.tablesRead h).clips 1 (s.ClipFine h) fun i hi => by
    simp [State.tablesRead, State.ClipFine]

/-- The first record that fails, if any does. -/
theorem first_failing {fine : Nat → Prop} {count : Nat} (h : ¬ ∀ i, i < count → fine i) :
    ∃ n, n < count ∧ (∀ i, i < n → fine i) ∧ ¬ fine n := by
  classical
  have h : ∃ n, n < count ∧ ¬ fine n := by simpa using h
  obtain ⟨lt, bad⟩ := Nat.find_spec h
  exact ⟨Nat.find h, lt, fun i hi => by_contra fun hf => Nat.find_min h hi ⟨by omega, hf⟩, bad⟩

/-- A record that is the first to fail is the only one. -/
theorem first_failing_unique {fine : Nat → Prop} {m n : Nat} (hm : ∀ i, i < m → fine i) (hm' : ¬ fine m)
    (hn : ∀ i, i < n → fine i) (hn' : ¬ fine n) : m = n := by
  rcases Nat.lt_trichotomy m n with h | h | h
  · exact absurd (hn m h) hm'
  · exact h
  · exact absurd (hm n h) hn'

/-- What O29 says of a mount that ends FAULTY. -/
theorem State.failMount_tables (s : State) (h : BankHeader) (why : BankFault) (record : Nat) :
    let t := (s.withSound (s.tablesRead h)).failMount why record
    t.sound = { s.sound with bank := .faulty, fault := why, progress := h.length, cues := [], clips := [] } ∧
      t.EventsAs ((s.event .bankFaulty (BitVec.ofNat 8 why.code) (BitVec.ofNat 16 record)).raise .soundBank) ∧
      t.SoundGroupShows ∧ s.GroupWritten t soundGroup t.sound.groupBytes ∧
      s.SameExcept t [.sound, .store, .events, .eventSeq, .attention] :=
  s.changeBank_raised { s.tablesRead h with bank := .faulty, fault := why, cues := [], clips := [] } .bankFaulty _ _
    .soundBank

/-- Settles O29: the CRC, then the first cue record that fails, then the first clip record that fails. -/
theorem mountCompleteJudgesTheBank : Obligations.MountCompleteJudgesTheBank := by
  intro s h hb hh hl
  refine ⟨fun hp => ?_, fun hp => ?_⟩
  · have rests : s.mountGoesOn = false := by simp [State.mountGoesOn, hp]
    show execMountComplete s = _
    unfold execMountComplete
    rw [rests]
  have judged := exec_mountComplete_judges s h hp hb hh hl
  obtain ⟨noCue, someCue⟩ := s.badCue_tables h
  obtain ⟨noClip, someClip⟩ := s.badClip_tables h
  by_cases hcrc : crc32 (s.flashRun 32 (h.length - 32)) = h.crc
  · rw [if_neg (not_not.mpr hcrc)] at judged
    by_cases hcue : ∀ i, i < h.cueCount → s.CueFine h i
    · rw [noCue hcue] at judged
      by_cases hclip : ∀ i, i < h.clipCount → s.ClipFine h i
      · rw [noClip hclip] at judged
        obtain ⟨sound, lists, shows, written, frame⟩ := s.changeBank_raised { s.tablesRead h with bank := .ready }
          .bankReady 0#8 (BitVec.ofNat 16 h.cueCount) .soundBank
        exact ⟨_, judged, fun _ _ _ => ⟨sound, lists⟩, fun hn => absurd hcrc hn,
          fun n _ hn _ hbad => absurd (hcue n hn) hbad, fun n _ _ hn _ hbad => absurd (hclip n hn) hbad, shows, written,
          frame⟩
      · obtain ⟨m, lt, before, bad⟩ := first_failing hclip
        rw [someClip m lt before bad] at judged
        obtain ⟨sound, lists, shows, written, frame⟩ := s.failMount_tables h .clipRecord (1 + m)
        refine ⟨_, judged, fun _ _ hall => absurd hall hclip, fun hn => absurd hcrc hn,
          fun n _ hn _ hbad => absurd (hcue n hn) hbad, fun n _ _ hn hbefore hbad => ⟨sound, ?_⟩, shows, written, frame⟩
        rw [first_failing_unique hbefore hbad before bad, Nat.add_comm m 1]
        exact lists
    · obtain ⟨m, lt, before, bad⟩ := first_failing hcue
      rw [someCue m lt before bad] at judged
      obtain ⟨sound, lists, shows, written, frame⟩ := s.failMount_tables h .cueRecord (1 + m)
      refine ⟨_, judged, fun _ hall _ => absurd hall hcue, fun hn => absurd hcrc hn,
        fun n _ hn hbefore hbad => ⟨sound, ?_⟩, fun n _ hall => absurd hall hcue, shows, written, frame⟩
      rw [first_failing_unique hbefore hbad before bad, Nat.add_comm m 1]
      exact lists
  · rw [if_pos hcrc] at judged
    obtain ⟨sound, lists, shows, written, frame⟩ := s.failMount_tables h .crc 0
    exact ⟨_, judged, fun hc => absurd hc hcrc, fun _ => ⟨sound, lists⟩, fun n hc => absurd hc hcrc,
      fun n hc => absurd hc hcrc, shows, written, frame⟩

end Sys2Proof.Machine

/-! ## The effect tick -/

namespace Sys2Proof.Machine

-- One proof at a time: proofs that wait for one another would each hold a thread.
set_option Elab.async false

/-! ### Every lamp formed again -/

/-- A lamp with its level and duty formed anew (R112). -/
def State.lampFormed (s : State) (k : Fin 8) : Lamp :=
  { s.lamps.lamps[k] with
    level := s.lamps.levelOf k
    duty := s.lampDuty (s.lamps.levelOf k)
    pwm := min s.lamps.lamps[k].pwm (s.lampDuty (s.lamps.levelOf k)) }

/-- Two lamp units that differ in levels, duties and counts driven alone. -/
def Lamps.SameCounters (u v : Lamps) : Prop :=
  v.profile = u.profile ∧ v.lfsr = u.lfsr ∧ v.direction = u.direction ∧ v.standing = u.standing ∧ v.factor = u.factor ∧
    ∀ k : Fin 8, v.lamps[k].active = u.lamps[k].active ∧ v.lamps[k].phase = u.lamps[k].phase ∧
      v.lamps[k].count = u.lamps[k].count

/-- A level depends on no level, duty or count driven. -/
theorem Lamps.SameCounters.levelOf {u v : Lamps} (h : u.SameCounters v) (k : Fin 8) : v.levelOf k = u.levelOf k := by
  obtain ⟨profile, lfsr, direction, standing, -, lamps⟩ := h
  have active (k) := (lamps k).1
  have phase (k) := (lamps k).2.1
  have count (k) := (lamps k).2.2
  simp only [Lamps.levelOf, Lamps.lit, Lamps.effectLevel, Lamps.alternateLevel, profile, lfsr, direction, standing,
    active, phase, count] <;> rfl

/-- The lamps of `l` formed anew, the others as they were. -/
def State.lampsFormed (s : State) (l : List (Fin 8)) : Vector Lamp 8 :=
  vecTab 8 fun k => if k ∈ l then s.lampFormed k else s.lamps.lamps[k]

theorem State.lampsFormed_get (s : State) (l : List (Fin 8)) (k : Fin 8) :
    (s.lampsFormed l)[k] = if k ∈ l then s.lampFormed k else s.lamps.lamps[k] :=
  vecTab_get _ _ k

theorem State.lampsFormed_counters (s : State) (l : List (Fin 8)) :
    s.lamps.SameCounters { s.lamps with lamps := s.lampsFormed l } := by
  refine ⟨rfl, rfl, rfl, rfl, rfl, fun k => ?_⟩
  show (s.lampsFormed l)[k].active = _ ∧ (s.lampsFormed l)[k].phase = _ ∧ (s.lampsFormed l)[k].count = _
  rw [s.lampsFormed_get]
  split <;> exact ⟨rfl, rfl, rfl⟩

/-- One lamp formed behind others. -/
theorem State.formLamp_lampsFormed (s : State) (l : List (Fin 8)) (k : Fin 8) (hk : k ∉ l) :
    (s.withLamps { s.lamps with lamps := s.lampsFormed l }).formLamp k =
      s.withLamps { s.lamps with lamps := s.lampsFormed (k :: l) } := by
  have level := (s.lampsFormed_counters l).levelOf k
  have formed : vecModify (s.lampsFormed l) k (fun x => { x with
      level := s.lamps.levelOf k, duty := s.lampDuty (s.lamps.levelOf k),
      pwm := min x.pwm (s.lampDuty (s.lamps.levelOf k)) }) = s.lampsFormed (k :: l) := by
    refine Vector.ext fun i hi => ?_
    have hget := vecModify_get (s.lampsFormed l) k ⟨i, hi⟩ fun x => { x with
      level := s.lamps.levelOf k, duty := s.lampDuty (s.lamps.levelOf k),
      pwm := min x.pwm (s.lampDuty (s.lamps.levelOf k)) }
    have old := s.lampsFormed_get l ⟨i, hi⟩
    have new := s.lampsFormed_get (k :: l) ⟨i, hi⟩
    have own := s.lampsFormed_get l k
    rw [if_neg hk] at own
    refine hget.trans (Eq.trans ?_ new.symm)
    by_cases he : (⟨i, hi⟩ : Fin 8) = k
    · rw [if_pos he, own, he, if_pos (List.mem_cons_self ..)]
      rfl
    · rw [if_neg he, old]
      simp [he]
  unfold State.formLamp
  dsimp only [State.withLamps_lamps]
  rw [level]
  exact congrArg (fun x => s.withLamps { s.lamps with lamps := x }) formed

/-- Every lamp is formed of the counters as they stand (R112). -/
theorem State.formLamps_eq (s : State) :
    s.formLamps = s.withLamps { s.lamps with lamps := vecTab 8 s.lampFormed } := by
  have fold (l m : List (Fin 8)) (hn : l.Nodup) (hd : ∀ k ∈ l, k ∉ m) :
      l.foldl State.formLamp (s.withLamps { s.lamps with lamps := s.lampsFormed m }) =
        s.withLamps { s.lamps with lamps := s.lampsFormed (l.reverse ++ m) } := by
    induction l generalizing m with
    | nil => rfl
    | cons k l ih =>
      obtain ⟨hk, hn⟩ := List.nodup_cons.mp hn
      rw [List.foldl_cons, s.formLamp_lampsFormed m k (hd k (by simp)), ih (k :: m) hn fun j hj hm => ?_]
      · simp
      · rcases List.mem_cons.mp hm with rfl | hm
        · exact hk hj
        · exact hd j (by simp [hj]) hm
  have start : s.withLamps { s.lamps with lamps := s.lampsFormed [] } = s := by
    have : s.lampsFormed [] = s.lamps.lamps := Vector.ext fun i hi => by
      simpa using s.lampsFormed_get [] ⟨i, hi⟩
    rw [this]
    rfl
  have whole := fold (List.finRange 8) [] (List.nodup_finRange 8) fun _ _ => by simp
  rw [start] at whole
  refine whole.trans (congrArg (fun x => s.withLamps { s.lamps with lamps := x }) ?_)
  refine Vector.ext fun i hi => ?_
  have h₁ := s.lampsFormed_get ((List.finRange 8).reverse ++ []) ⟨i, hi⟩
  have h₂ := vecTab_get (n := 8) s.lampFormed ⟨i, hi⟩
  rw [if_pos (by simp)] at h₁
  exact h₁.trans h₂.symm

/-- A lamp after all have been formed. -/
theorem State.formLamps_get (s : State) (k : Fin 8) : s.formLamps.lamps.lamps[k] = s.lampFormed k := by
  rw [s.formLamps_eq]
  exact vecTab_get _ _ k

/-- The counters, and with them the levels, stand while the lamps are formed. -/
theorem State.formLamps_counters (s : State) : s.lamps.SameCounters s.formLamps.lamps := by
  rw [s.formLamps_eq]
  refine ⟨rfl, rfl, rfl, rfl, rfl, fun k => ?_⟩
  show (vecTab 8 s.lampFormed)[k].active = _ ∧ (vecTab 8 s.lampFormed)[k].phase = _ ∧ (vecTab 8 s.lampFormed)[k].count = _
  rw [vecTab_get]
  exact ⟨rfl, rfl, rfl⟩

theorem State.sameExcept_formLamps (s : State) : s.SameExcept s.formLamps [.lamps] := by
  rw [s.formLamps_eq]
  exact s.sameExcept_withLamps _

/-! ### The LFSR and the counters -/

/-- The LFSR moves toward the least significant end, the feedback entering at the other (R107). -/
theorem lfsrStep_bits (x : BitVec 16) :
    (∀ i, i < 15 → (lfsrStep x).getLsbD i = x.getLsbD (i + 1)) ∧
      (lfsrStep x).getLsbD 15 = (x.getLsbD 0 ^^ x.getLsbD 2 ^^ x.getLsbD 3 ^^ x.getLsbD 5) := by
  have top (i : Nat) (hi : i < 16) : (0x8000#16).getLsbD i = decide (i = 15) := by
    interval_cases i <;> rfl
  refine ⟨fun i hi => ?_, ?_⟩
  · simp only [lfsrStep, BitVec.getLsbD_or, BitVec.getLsbD_ushiftRight, Nat.add_comm 1 i]
    split
    · rw [top i (by omega), decide_eq_false (by omega), Bool.or_false]
    · simp
  · simp only [lfsrStep, BitVec.getLsbD_or, BitVec.getLsbD_ushiftRight]
    rw [BitVec.getLsbD_of_ge x 16 (by omega), Bool.false_or]
    cases x.getLsbD 0 <;> cases x.getLsbD 2 <;> cases x.getLsbD 3 <;> cases x.getLsbD 5 <;> rfl

/-- A counter's advance, by its phase (R108). -/
theorem Lamp.advance_eq (x : Lamp) (r : LampRecord) :
    (x.advance r).active = x.active ∧ (x.advance r).pwm = x.pwm ∧
    (x.phase = .a → x.count + 1 < r.countA → (x.advance r).phase = .a ∧ (x.advance r).count = x.count + 1) ∧
    (x.phase = .a → r.countA ≤ x.count + 1 → (x.advance r).phase = .b ∧ (x.advance r).count = 0) ∧
    (x.phase = .b → x.count + 1 < r.countB → (x.advance r).phase = .b ∧ (x.advance r).count = x.count + 1) ∧
    (x.phase = .b → r.countB ≤ x.count + 1 →
      (x.advance r).phase = (if r.mode = .oneShot ∨ r.run = .single then .ended else .a) ∧ (x.advance r).count = 0) ∧
    (x.phase = .ended → (x.advance r).phase = .ended ∧ (x.advance r).count = x.count) := by
  unfold Lamp.advance
  cases h : x.phase
  · by_cases hc : r.countA ≤ x.count + 1
    · simp [hc, Nat.not_lt.mpr hc]
    · simp [hc]
  · by_cases hc : r.countB ≤ x.count + 1
    · simp [hc, Nat.not_lt.mpr hc]
    · simp [hc]
  · simp [h]

/-- The lamps once the tick has advanced their counters. -/
def State.ticked (s : State) : State :=
  s.withLamps { s.lamps with
    tickTimer := s.startTimer effectInterval
    ticks := (s.lamps.ticks + 1) % 10
    lfsr := lfsrStep s.lamps.lfsr
    lamps := vecTab 8 fun k => s.lamps.lamps[k].advance s.lamps.profile[k] }

theorem State.ticked_get (s : State) (k : Fin 8) :
    s.ticked.lamps.lamps[k] = s.lamps.lamps[k].advance s.lamps.profile[k] :=
  vecTab_get _ _ k

/-- EFFECT_TICK: the counters advance, every lamp is formed, and every tenth tick writes the readings. -/
theorem exec_effectTick_running (s : State) (h : s.lamps.tickTimer.isRunning = true) :
    exec .effectTick s =
      .next (if s.lamps.ticks % 10 = 9 then s.ticked.formLamps.writeLampReadings else s.ticked.formLamps) := by
  have ticks : s.ticked.formLamps.lamps.ticks = 0 ↔ s.lamps.ticks % 10 = 9 := by
    rw [s.ticked.formLamps_eq]
    show (s.lamps.ticks + 1) % 10 = 0 ↔ _
    omega
  refine congrArg Host.Outcome.next ((if_pos h).trans ?_)
  show (if s.ticked.formLamps.lamps.ticks = 0 then _ else _) = _
  simp only [ticks]
  rfl

/-! ### The levels, mode by mode -/

/-- The stop-dim limit while the drive stands (R111). -/
def Lamps.cut (u : Lamps) (k : Fin 8) (level : Nat) : Nat :=
  if u.standing then min level u.profile[k].stopDim else level

theorem Lamps.cut_cut (u : Lamps) (k : Fin 8) (level : Nat) : u.cut k (u.cut k level) = u.cut k level := by
  unfold Lamps.cut
  split
  · exact min_eq_left (min_le_right _ _)
  · rfl

/-- A lamp is lit where it is active and its gate allows the direction in force (R106). -/
theorem Lamps.lit_iff (u : Lamps) (k : Fin 8) :
    u.lit k = true ↔ u.lamps[k].active = true ∧ (u.profile[k].gate = .any ∨
      u.profile[k].gate = .fwd ∧ u.direction = .fwd ∨ u.profile[k].gate = .rev ∧ u.direction = .rev) := by
  rw [Lamps.lit, Bool.and_eq_true, Gate.allows_iff]

theorem Lamps.levelOf_lit (u : Lamps) (k : Fin 8) (h : u.lit k = true) : u.levelOf k = u.cut k (u.effectLevel k) :=
  if_pos h

theorem Lamps.levelOf_unlit (u : Lamps) (k : Fin 8) (h : ¬ u.lit k = true) : u.levelOf k = 0 :=
  if_neg h

/-- The effect level by the lamp's mode (R109, R110). -/
theorem Lamps.effectLevel_modes (u : Lamps) (k : Fin 8) :
    (u.profile[k].mode = .steady → u.effectLevel k = u.profile[k].brightness) ∧
    (u.profile[k].mode = .flicker →
      u.effectLevel k = u.profile[k].brightness * (128 + u.lfsr.toNat % 128) / 256) ∧
    (u.profile[k].mode = .beacon → u.effectLevel k = (match u.lamps[k].phase with
      | .a => u.profile[k].brightness * u.lamps[k].count / u.profile[k].countA
      | .b => u.profile[k].brightness * (u.profile[k].countB - u.lamps[k].count) / u.profile[k].countB
      | .ended => 0)) ∧
    (u.profile[k].mode = .oneShot →
      u.effectLevel k = if u.lamps[k].phase = .a then u.profile[k].brightness else 0) ∧
    (u.profile[k].mode = .alternate → ∀ j : Fin 8, u.profile[k].partner = j.val →
      (k < j → u.effectLevel k = if u.lamps[k].phase = .a then u.profile[k].brightness else 0) ∧
      (j < k → u.effectLevel k = if u.lamps[j].phase = .b then u.profile[k].brightness else 0)) := by
  unfold Lamps.effectLevel
  refine ⟨fun h => ?_, fun h => ?_, fun h => ?_, fun h => ?_, fun h j hj => ⟨fun hlt => ?_, fun hlt => ?_⟩⟩
  · simp only [h]
  · simp only [h]
  · simp only [h] <;> cases u.lamps[k].phase <;> rfl
  · simp only [h]
  · simp only [h, Lamps.alternateLevel, hj]
    rw [if_neg (by have : k.val < j.val := hlt; omega)]
  · simp only [h, Lamps.alternateLevel, hj, Fin.ofNat_val_eq_self]
    rw [if_pos (show j.val < k.val from hlt)]

/-- A lamp's level and duty after the tick, in terms of its record, its advanced counter and the stepped LFSR. -/
theorem State.ticked_formed (s : State) (k : Fin 8) :
    s.ticked.formLamps.lamps.lamps[k] = { s.lamps.lamps[k].advance s.lamps.profile[k] with
      level := s.ticked.lamps.levelOf k
      duty := s.lampDuty (s.ticked.lamps.levelOf k)
      pwm := min s.lamps.lamps[k].pwm (s.lampDuty (s.ticked.lamps.levelOf k)) } := by
  rw [s.ticked.formLamps_get, State.lampFormed, s.ticked_get, (Lamp.advance_eq _ _).2.1]
  rfl

/-- What O27 says of the lamps of a state `t` that the tick has formed. -/
theorem State.ticked_lamp (s : State) (k : Fin 8) (t : State) (ht : t.lamps = s.ticked.formLamps.lamps) :
    let u := s.lamps
    let r := u.profile[k]
    let x := u.lamps[k]
    let y := t.lamps.lamps[k]
    let lit := x.active = true ∧ (r.gate = .any ∨ r.gate = .fwd ∧ u.direction = .fwd ∨
      r.gate = .rev ∧ u.direction = .rev)
    let cut (level : Nat) : Nat := if u.standing then min level r.stopDim else level
    (¬ lit → y.level = 0) ∧
      (lit → r.mode = .steady → y.level = cut r.brightness) ∧
      (lit → r.mode = .flicker → y.level = cut (r.brightness * (128 + t.lamps.lfsr.toNat % 128) / 256)) ∧
      (lit → r.mode = .beacon → y.level = cut (match y.phase with
        | .a => r.brightness * y.count / r.countA
        | .b => r.brightness * (r.countB - y.count) / r.countB
        | .ended => 0)) ∧
      (lit → r.mode = .oneShot → y.level = cut (if y.phase = .a then r.brightness else 0)) ∧
      (lit → r.mode = .alternate → ∀ j : Fin 8, r.partner = j.val →
        y.level = cut (if k < j then (if y.phase = .a then r.brightness else 0)
          else if j < k then (if t.lamps.lamps[j].phase = .b then r.brightness else 0) else y.level)) := by
  have formed := s.ticked_formed
  rw [← ht] at formed
  have level : t.lamps.lamps[k].level = s.ticked.lamps.levelOf k := by rw [formed]
  have counter (j : Fin 8) : t.lamps.lamps[j].phase = s.ticked.lamps.lamps[j].phase ∧
      t.lamps.lamps[j].count = s.ticked.lamps.lamps[j].count := by
    rw [formed, s.ticked_get]
    exact ⟨rfl, rfl⟩
  have lfsr : t.lamps.lfsr = s.ticked.lamps.lfsr := by rw [ht, s.ticked.formLamps_eq]; rfl
  have active : s.ticked.lamps.lamps[k].active = s.lamps.lamps[k].active := by
    rw [s.ticked_get]
    exact (Lamp.advance_eq _ _).1
  have lit := s.ticked.lamps.lit_iff k
  rw [active] at lit
  obtain ⟨steady, flicker, beacon, oneShot, alternate⟩ := s.ticked.lamps.effectLevel_modes k
  dsimp only
  rw [level, lfsr, (counter k).1, (counter k).2]
  refine ⟨fun h => s.ticked.lamps.levelOf_unlit k (fun hl => h (lit.mp hl)), fun h m => ?_, fun h m => ?_, fun h m => ?_,
    fun h m => ?_, fun h m j hj => ?_⟩
  · rw [s.ticked.lamps.levelOf_lit k (lit.mpr h), steady m]
    rfl
  · rw [s.ticked.lamps.levelOf_lit k (lit.mpr h), flicker m]
    rfl
  · rw [s.ticked.lamps.levelOf_lit k (lit.mpr h), beacon m]
    rfl
  · rw [s.ticked.lamps.levelOf_lit k (lit.mpr h), oneShot m]
    rfl
  · rw [(counter j).1]
    obtain ⟨above, below⟩ := alternate m j hj
    rw [s.ticked.lamps.levelOf_lit k (lit.mpr h)]
    by_cases ha : k < j
    · rw [above ha, if_pos ha]
      rfl
    · by_cases hb : j < k
      · rw [below hb, if_neg ha, if_pos hb]
        rfl
      · rw [if_neg ha, if_neg hb]
        exact (s.ticked.lamps.cut_cut k _).symm

/-- Settles O27: the counters advance, and each lamp is formed of them. -/
theorem effectTickStepsCountersAndForms : Obligations.EffectTickStepsCountersAndForms := by
  intro s h
  refine ⟨_, exec_effectTick_running s h, ?_⟩
  have plain : s.ticked.formLamps.lamps = { s.ticked.lamps with lamps := vecTab 8 s.ticked.lampFormed } := by
    rw [s.ticked.formLamps_eq]
    rfl
  have lamps : (if s.lamps.ticks % 10 = 9 then s.ticked.formLamps.writeLampReadings else s.ticked.formLamps).lamps =
      s.ticked.formLamps.lamps := by
    split <;> rfl
  have frame : s.SameExcept s.ticked.formLamps [.lamps] :=
    State.sameExcept_trans (s.sameExcept_withLamps _) s.ticked.sameExcept_formLamps
  obtain ⟨low, top⟩ := lfsrStep_bits s.lamps.lfsr
  refine ⟨?_, ?_, ?_, ?_, fun k => ?_, ?_, ?_, ?_, fun hn => ?_, fun he => ?_⟩
  · rw [lamps, plain]
    rfl
  · rw [lamps, plain]
    rfl
  · rw [lamps, plain]
    exact low
  · rw [lamps, plain]
    exact top
  · obtain ⟨unlit, steady, flicker, beacon, oneShot, alternate⟩ := s.ticked_lamp k _ lamps
    have formed := s.ticked_formed k
    rw [← lamps] at formed
    obtain ⟨active, -, aStays, aEnds, bStays, bEnds, ended⟩ := s.lamps.lamps[k].advance_eq s.lamps.profile[k]
    refine ⟨?_, ?_, ?_, ?_, ?_, ?_, unlit, steady, flicker, beacon, oneShot, alternate, ?_, ?_⟩
    · rw [formed]; exact active
    · rw [formed]; exact aStays
    · rw [formed]; exact aEnds
    · rw [formed]; exact bStays
    · rw [formed]; exact bEnds
    · rw [formed]; exact ended
    · rw [formed]; rfl
    · rw [formed]
  · rw [lamps, plain]
    rfl
  · rw [lamps, plain]
    rfl
  · rw [lamps, plain]
    rfl
  · rw [if_neg (by omega)]
    exact frame
  · rw [if_pos he]
    obtain ⟨shows, written⟩ := s.ticked.formLamps.writeLampReadings_shows
    have store : ∀ a, s.ticked.formLamps.storeAt a = s.storeAt a := fun a => frame .store (by simp) a
    refine ⟨shows, ⟨written.1.trans (by rw [store]), written.2.1, fun a ha => (written.2.2 a ha).trans (store a)⟩, ?_⟩
    exact State.sameExcept_trans (State.sameExcept_mono frame (by simp))
      (State.sameExcept_mono (State.sameExcept_writeGroup _ _ _ _) (by simp))

end Sys2Proof.Machine

/-! ## The output sample -/

namespace Sys2Proof.Machine

-- One proof at a time: proofs that wait for one another would each hold a thread.
set_option Elab.async false

/-! ### A quiesce that goes on -/

/-- The acknowledgements are all made where each is. -/
theorem Acks.all_iff (a : Acks) : a.all = true ↔
    a.drive = true ∧ a.sound = true ∧ a.smoke = true ∧ a.sequencer = true ∧ a.radio = true ∧ a.lamps = true ∧
      a.adoption = true := by
  simp [Acks.all, and_assoc]

/-- What the acknowledgements depend on. -/
theorem State.acksNow_congr {s t : State} (ha : t.acks = s.acks) (hd : t.drive.ramp = s.drive.ramp)
    (hs : t.sound.anyBusy = s.sound.anyBusy) (hv : t.adoption.visit = s.adoption.visit) : t.acksNow = s.acksNow := by
  simp only [State.acksNow, ha, hd, hs, hv]

/-! ### The link -/

/-- The frame of a word: most significant bit first, once in each slot (R130). -/
theorem State.linkFrame_bits (s : State) (i : Nat) (hi : i < 16) :
    s.linkFrame[i]? = some ⟨false, (BitVec.ofInt 16 s.sdataPin).getLsbD (15 - i)⟩ ∧
      s.linkFrame[16 + i]? = some ⟨true, (BitVec.ofInt 16 s.sdataPin).getLsbD (15 - i)⟩ := by
  have msb : (BitVec.ofInt 16 s.sdataPin).getMsbD i = (BitVec.ofInt 16 s.sdataPin).getLsbD (15 - i) := by
    simp [BitVec.getMsbD, hi]
  unfold State.linkFrame
  dsimp only
  rw [List.flatMap_cons, List.flatMap_cons, List.flatMap_nil, List.append_nil]
  refine ⟨?_, ?_⟩
  · rw [List.getElem?_append_left (by simpa using hi), List.getElem?_map, List.getElem?_range hi, ← msb]
    rfl
  · rw [List.getElem?_append_right (by simp)]
    simp only [List.length_map, List.length_range, Nat.add_sub_cancel_left]
    rw [List.getElem?_map, List.getElem?_range hi, ← msb]
    rfl

theorem State.linkFrame_length (s : State) : s.linkFrame.length = 32 := by
  simp [State.linkFrame]

/-! ### The mix -/

/-- What a voice gives to the mix: nothing when FREE, else its sample at its gain, lowered by its fade while it fades
(R122, R123, R130). -/
def State.voiceGives (s : State) (x : Voice) : Int :=
  if x.state = .free then 0
  else match s.sound.clip x.clip with
    | some c => (s.flashAt (c.address + x.position)).toInt *
        ((if x.state = .fading then x.gain * x.fade / 320 else x.gain : Nat) : Int)
    | none => 0

theorem State.mix_eq (s : State) :
    s.mix = s.voiceGives s.sound.voices[0] + s.voiceGives s.sound.voices[1] + s.voiceGives s.sound.voices[2] +
      s.voiceGives s.sound.voices[3] + s.voiceGives s.sound.voices[4] + s.voiceGives s.sound.voices[5] := by
  have gives : (fun v : Voice => if v.busy then s.voiceSample v * v.mixGain else 0) = s.voiceGives := by
    funext x
    unfold State.voiceGives State.voiceSample Voice.mixGain Voice.busy
    by_cases hf : x.state = .free
    · simp [hf]
    · simp only [hf, if_false, bne_iff_ne, ne_eq, not_false_eq_true, if_true]
      cases s.sound.clip x.clip <;> simp
  have list : s.sound.voices.toList = [s.sound.voices[0], s.sound.voices[1], s.sound.voices[2], s.sound.voices[3],
      s.sound.voices[4], s.sound.voices[5]] := by
    apply List.ext_getElem (by simp)
    intro i h₁ h₂
    simp only [List.length_cons, List.length_nil, Nat.reduceAdd] at h₂
    rw [Vector.getElem_toList]
    interval_cases i <;> rfl
  rw [State.mix, gives, list]
  simp only [List.map_cons, List.map_nil, List.sum_cons, List.sum_nil]
  ring

/-! ### A voice's advance -/

/-- How a voice advances, by its state and its place in its clip (R122, R123). -/
theorem Voice.advance_eq (x : Voice) (r : CueRecord) (length : Nat) :
    (x.state = .free → x.advance r length = x) ∧
    (x.state ≠ .free → x.state ≠ .fading → x.position + 1 < length →
      x.advance r length = { x with position := x.position + 1 }) ∧
    (x.state = .leading → x.position + 1 = length → r.kind ≠ 2 → x.release = false → r.loop ≠ 0 →
      x.advance r length = { x with state := .looping, part := .loop, clip := r.loop, position := 0 }) ∧
    (x.state = .leading → x.position + 1 = length → r.kind ≠ 2 → x.release = true ∨ r.loop = 0 → r.tail ≠ 0 →
      x.advance r length = { x with state := .tailing, part := .tail, clip := r.tail, position := 0 }) ∧
    (x.state = .leading → x.position + 1 = length → r.kind = 2 ∨ (x.release = true ∨ r.loop = 0) ∧ r.tail = 0 →
      (x.advance r length).state = .free) ∧
    (x.state = .looping → x.position + 1 = length → x.advance r length = { x with position := 0 }) ∧
    (x.state = .tailing → x.position + 1 = length → (x.advance r length).state = .free) ∧
    (x.state = .fading → x.fade ≤ 1 ∨ x.position + 1 = length ∧ x.part ≠ .loop →
      (x.advance r length).state = .free) ∧
    (x.state = .fading → 1 < x.fade → x.position + 1 < length →
      x.advance r length = { x with position := x.position + 1, fade := x.fade - 1 }) ∧
    (x.state = .fading → 1 < x.fade → x.position + 1 = length → x.part = .loop →
      x.advance r length = { x with position := 0, fade := x.fade - 1 }) := by
  have inside (h : x.position + 1 < length) : ¬ length ≤ x.position + 1 := by omega
  have ends (h : x.position + 1 = length) : length ≤ x.position + 1 := by omega
  refine ⟨fun hs => ?_, fun hf hs hi => ?_, fun hs he hk hr hl => ?_, fun hs he hk hr ht => ?_, fun hs he hk => ?_,
    fun hs he => ?_, fun hs he => ?_, fun hs hd => ?_, fun hs hf hi => ?_, fun hs hf he hl => ?_⟩ <;>
    unfold Voice.advance
  · rw [if_pos hs]
  · simp [hf, hs, inside hi, Voice.fadeStep]
  · simp [hs, ends he, Voice.clipEnd, hk, hr, hl, kindChuff, Voice.fadeStep]
  · have : ¬ (x.release = false ∧ r.kind ≠ kindChuff ∧ r.loop ≠ 0) := fun h => by
      rcases hr with hr | hr
      · simp [hr] at h
      · exact h.2.2 hr
    have ended : ¬ (x.release = false ∧ ¬ r.loop = 0) := fun h => this ⟨h.1, hk, h.2⟩
    simp [hs, ends he, Voice.clipEnd, ended, Voice.toTail, hk, ht, kindChuff, Voice.fadeStep]
  · have : ¬ (x.release = false ∧ ¬ r.kind = kindChuff ∧ ¬ r.loop = 0) := fun h => by
      rcases hk with hk | ⟨hr | hr, -⟩
      · exact h.2.1 hk
      · simp [hr] at h
      · exact h.2.2 hr
    have tail : r.kind = kindChuff ∨ r.tail = 0 := hk.imp id And.right
    simp [hs, ends he, Voice.clipEnd, this, Voice.toTail, tail, Voice.fadeStep]
  · simp [hs, ends he, Voice.clipEnd, Voice.fadeStep]
  · simp [hs, ends he, Voice.clipEnd, Voice.fadeStep]
  · by_cases hl : length ≤ x.position + 1
    · by_cases hpart : x.part = .loop
      · have : x.fade ≤ 1 := hd.resolve_right fun h => h.2 hpart
        simp [hs, hl, Voice.clipEnd, hpart, Voice.fadeStep, this]
      · simp [hs, hl, Voice.clipEnd, hpart, Voice.fadeStep]
    · have : x.fade ≤ 1 := hd.resolve_right fun h => hl (ends h.1)
      simp [hs, hl, Voice.fadeStep, this]
  · simp [hs, inside hi, Voice.fadeStep, hf]
  · simp [hs, ends he, Voice.clipEnd, hl, Voice.fadeStep, hf]

/-! ### The engine at a sample -/

/-- The scaled sum before the clamp (R130). -/
def State.scaledMix (s : State) : Int := Int.tdiv (s.mix * (s.sound.volume * s.sound.attenuation / 256 : Nat)) 256

/-- What an output sample does to the engine. -/
theorem State.sampleVoices_eq (s : State) : ∃ e : Sound, s.sampleVoices = s.withSound e ∧
    e.voices = vecMap s.advanceVoice s.sound.voices ∧
    e.output = max (-32768) (min 32767 s.scaledMix) ∧
    e.clipCounter = (if s.scaledMix < -32768 ∨ 32767 < s.scaledMix then s.sound.clipCounter + 1#16
      else s.sound.clipCounter) ∧
    e.ampTimer = (if s.sound.anyBusy = true ∧ e.anyBusy = false then s.startTimer ampHoldInterval
      else s.sound.ampTimer) ∧
    e.ampEnabled = s.sound.ampEnabled ∧ e.bank = s.sound.bank ∧ e.volume = s.sound.volume := by
  have scaled : truncDiv (s.mix * s.sound.effectiveVolume) 256 = s.scaledMix := rfl
  have counted {n m : BitVec 16} : (if clampInt s.scaledMix (-32768) 32767 = s.scaledMix then n else m) =
      if s.scaledMix < -32768 ∨ 32767 < s.scaledMix then m else n := by
    unfold clampInt
    split_ifs <;> first | rfl | omega
  have clamped : clampInt s.scaledMix (-32768) 32767 = max (-32768) (min 32767 s.scaledMix) := by
    unfold clampInt
    split_ifs <;> omega
  unfold State.sampleVoices State.settleVoices
  dsimp only
  rw [scaled]
  generalize hv : vecMap s.advanceVoice s.sound.voices = voices
  generalize ho : s.sound.order.filter (fun v => voices[v].busy) = order
  by_cases hb : s.sound.anyBusy = true ∧ Sound.anyBusy { s.sound with voices := voices, order := order } = false
  · rw [if_pos (by simp [hb.1, hb.2])]
    exact ⟨_, rfl, rfl, clamped, counted, (if_pos hb).symm, rfl, rfl, rfl⟩
  · rw [if_neg (by simpa using hb)]
    exact ⟨_, rfl, rfl, clamped, counted, (if_neg hb).symm, rfl, rfl, rfl⟩

/-- A quiesce with a block still to acknowledge goes on: no more than the acknowledgements change (R167). -/
theorem State.settleQuiesce_withAcks {s : State} (h : s.QuiesceUnfinished) :
    ∃ a, s.settleQuiesce = s.withAcks a ∧ (s.part ≠ .quiescing → a = s.acks) := by
  rcases s.settleQuiesce_cases with ⟨-, e⟩ | ⟨hp, -, e⟩ | ⟨hp, ha, -⟩
  · exact ⟨s.acks, e, fun _ => rfl⟩
  · exact ⟨_, e, fun hn => absurd hp hn⟩
  · simp [h hp] at ha

/-- A quiesce is unfinished while the drive, the sequencer or the adoption unit is still to acknowledge. -/
theorem State.quiesceUnfinished_of {s : State}
    (h : s.part = .quiescing → s.acksNow.drive = false ∨ s.acks.sequencer = false ∨ s.acksNow.adoption = false) :
    s.QuiesceUnfinished := by
  intro hq
  have sequencer : s.acksNow.sequencer = s.acks.sequencer := rfl
  rw [Bool.eq_false_iff, ne_eq, Acks.all_iff]
  rintro ⟨hd, -, -, hs, -, -, ha⟩
  rcases h hq with h | h | h <;> simp_all

/-- Settles O33: the mix, the clamp and each voice's advance, with the link's frame of the word sent. -/
theorem outputSampleMixesAndAdvances : Obligations.OutputSampleMixesAndAdvances := by
  intro s stays
  refine ⟨fun hp => ?_, fun hrun => ?_, fun hactive => ?_⟩
  · have : s.part.active = false := by rcases hp with hp | hp <;> rw [hp] <;> rfl
    exact congrArg Host.Outcome.next (if_neg (by simp [this]))
  · exact congrArg Host.Outcome.next (if_pos hrun)
  · intro given mix scaled out
    obtain ⟨e, sampled, voices, output, clips, timer, enabled, bank, volume⟩ := s.sampleVoices_eq
    have hmix : scaled = s.scaledMix := by
      show Int.tdiv (mix * _) 256 = Int.tdiv (s.mix * _) 256
      rw [s.mix_eq]
      rfl
    obtain ⟨a, settled, acks⟩ := State.settleQuiesce_withAcks (s := s.withSound e) (State.quiesceUnfinished_of stays)
    have taken : exec .outputSample s = .next ((s.withSound e).withAcks a) := by
      rw [← settled, ← sampled]
      exact congrArg Host.Outcome.next (if_pos hactive)
    refine ⟨_, taken, ?_⟩
    have hout : ((s.withSound e).withAcks a).sdataPin = out := by
      show e.output = max (-32768) (min 32767 scaled)
      rw [output, hmix]
    refine ⟨hout, State.linkFrame_length _, fun i hi => hout ▸ State.linkFrame_bits _ i hi, ?_, ?_, enabled, ?_, ?_,
      bank, volume, acks, ?_⟩
    · rw [hmix]; exact clips
    · intro v r c
      dsimp only
      intro hr hc hpos
      have advanced : ((s.withSound e).withAcks a).sound.voices[v] = s.sound.voices[v].advance r c.length := by
        show e.voices[v] = _
        rw [voices, vecMap_get, State.advanceVoice, hr, hc]
        rfl
      rw [advanced]
      exact Voice.advance_eq _ _ _
    · intro hb hq
      show e.ampTimer = _
      rw [timer, if_pos ⟨hb, hq⟩]
      rfl
    · intro h
      show e.ampTimer = _
      rw [timer, if_neg]
      rintro ⟨hb, hq⟩
      rcases h with h | h
      · simp [hb] at h
      · exact absurd (h.symm.trans hq) (by simp)
    · exact State.sameExcept_trans (State.sameExcept_mono (s.sameExcept_withSound e) (by decide))
        (State.sameExcept_mono ((s.withSound e).sameExcept_withAcks a) (by decide))

end Sys2Proof.Machine

/-! ## What the drive's operations change of the drive, and what they leave at rest -/

namespace Sys2Proof.Machine

-- One proof at a time: proofs that wait for one another would each hold a thread.
set_option Elab.async false

/-! ### Frames of the drive -/

/-- The fields of the drive. -/
inductive DriveField
  | profile | table | directive | target | ramp | stepDir | rampTimer | state | direction | tripCount | retryTimer
  | forgiveTimer | haltSource | level | slotCauses | silenceCause | window | windowId | windowMuted | periodTimer
  | settleTimer | limitTimer | completed | closedEarly | timedOut | channels | readingsTimer | shortA | shortB
  | shortSamples | forced
  deriving DecidableEq

/-- Two drives agree on a field. -/
def DriveField.same (d e : Drive) : DriveField → Prop
  | .profile => e.profile = d.profile
  | .table => e.table = d.table
  | .directive => e.directive = d.directive
  | .target => e.target = d.target
  | .ramp => e.ramp = d.ramp
  | .stepDir => e.stepDir = d.stepDir
  | .rampTimer => e.rampTimer = d.rampTimer
  | .state => e.state = d.state
  | .direction => e.direction = d.direction
  | .tripCount => e.tripCount = d.tripCount
  | .retryTimer => e.retryTimer = d.retryTimer
  | .forgiveTimer => e.forgiveTimer = d.forgiveTimer
  | .haltSource => e.haltSource = d.haltSource
  | .level => e.level = d.level
  | .slotCauses => e.slotCauses = d.slotCauses
  | .silenceCause => e.silenceCause = d.silenceCause
  | .window => e.window = d.window
  | .windowId => e.windowId = d.windowId
  | .windowMuted => e.windowMuted = d.windowMuted
  | .periodTimer => e.periodTimer = d.periodTimer
  | .settleTimer => e.settleTimer = d.settleTimer
  | .limitTimer => e.limitTimer = d.limitTimer
  | .completed => e.completed = d.completed
  | .closedEarly => e.closedEarly = d.closedEarly
  | .timedOut => e.timedOut = d.timedOut
  | .channels => e.channels = d.channels
  | .readingsTimer => e.readingsTimer = d.readingsTimer
  | .shortA => e.shortA = d.shortA
  | .shortB => e.shortB = d.shortB
  | .shortSamples => e.shortSamples = d.shortSamples
  | .forced => e.forced = d.forced

/-- `e` is `d` but for the fields named. -/
def Drive.SameBut (d e : Drive) (l : List DriveField) : Prop := ∀ f : DriveField, f ∉ l → f.same d e

namespace Drive.SameBut
variable {d e f : Drive} {l m : List DriveField}

theorem refl (d : Drive) (l : List DriveField) : d.SameBut d l := fun f _ => by cases f <;> rfl

theorem of_eq (h : e = d) (l : List DriveField) : d.SameBut e l := h ▸ refl d l

theorem trans (h : d.SameBut e l) (k : e.SameBut f l) : d.SameBut f l := fun x hx => by
  have := h x hx
  have := k x hx
  cases x <;> exact Eq.trans ‹_› ‹_›

theorem mono (h : d.SameBut e l) (sub : l ⊆ m := by decide) : d.SameBut e m := fun x hx => h x fun k => hx (sub k)

/-- A field outside the footprint stands. -/
theorem same (h : d.SameBut e l) (x : DriveField) (hx : x ∉ l := by decide) : x.same d e := h x hx

/-- A footprint that leaves the settings and the counts alone. -/
theorem settings (h : d.SameBut e l)
    (hl : DriveField.profile ∉ l ∧ .table ∉ l ∧ .directive ∉ l ∧ .level ∉ l ∧ .slotCauses ∉ l ∧ .silenceCause ∉ l ∧
      .completed ∉ l ∧ .timedOut ∉ l ∧ .readingsTimer ∉ l := by decide) : d.SameSettings e := by
  obtain ⟨h₁, h₂, h₃, h₄, h₅, h₆, h₇, h₈, h₉⟩ := hl
  exact ⟨h .profile h₁, h .table h₂, h .directive h₃, h .level h₄, h .slotCauses h₅, h .silenceCause h₆,
    h .completed h₇, h .timedOut h₈, h .readingsTimer h₉⟩

end Drive.SameBut

/-- A record update of the fields named. -/
theorem Drive.sameBut_channels (d : Drive) (x : PerChannel ChannelState) : d.SameBut { d with channels := x } [.channels] := by
  intro f hf
  cases f <;> first | rfl | exact absurd hf (by decide)

/-- The drive's footprint of an operation on the state. -/
abbrev State.DriveSame (s t : State) (l : List DriveField) : Prop := s.drive.SameBut t.drive l

section
variable (s : State)

theorem State.DriveSame.of_keeps {s t : State} {l : List Component} (h : s.Keeps t l) (hl : .drive ∉ l := by decide)
    (m : List DriveField := []) : s.DriveSame t m := .of_eq (h.same .drive hl) m

theorem State.DriveSame.ite {s t u : State} {l : List DriveField} {c : Prop} [Decidable c] (ht : c → s.DriveSame t l)
    (hu : ¬ c → s.DriveSame u l) : s.DriveSame (if c then t else u) l := by
  split
  · exact ht ‹_›
  · exact hu ‹_›

theorem State.driveSame_latchBridge : s.DriveSame s.latchBridge [.channels] := s.drive.sameBut_channels _

theorem State.driveSame_refreshDuty : s.DriveSame s.refreshDuty [.channels] :=
  (s.drive.sameBut_channels _).trans (State.driveSame_latchBridge (s.withDrive _))

theorem State.driveSame_clearIntegrals : s.DriveSame s.clearIntegrals [.channels] :=
  (s.drive.sameBut_channels _).trans (State.driveSame_refreshDuty (s.withDrive _))

theorem State.driveSame_rampMoved : s.DriveSame s.rampMoved [.channels] :=
  s.driveSame_refreshDuty.trans (State.DriveSame.of_keeps (State.keeps_cadenceStep _) (m := _))

/-- A drive with a period timer of its own. -/
theorem Drive.sameBut_periodTimer (d : Drive) (x : Timer) : d.SameBut { d with periodTimer := x } [.periodTimer] := by
  intro f hf
  cases f <;> first | rfl | exact absurd hf (by decide)

theorem State.driveSame_settleWindow : s.DriveSame s.settleWindow [.periodTimer] :=
  .ite (fun _ => .ite (fun _ => .refl _ _) fun _ => s.drive.sameBut_periodTimer _) fun _ => s.drive.sameBut_periodTimer _

/-- What closing the window changes. -/
abbrev DriveField.ofWindow : List DriveField :=
  [.window, .windowMuted, .settleTimer, .limitTimer, .channels, .closedEarly, .periodTimer]

theorem State.driveSame_closeWindowEarly : s.DriveSame s.closeWindowEarly DriveField.ofWindow := by
  refine .ite (fun _ => .refl _ _) fun _ => ?_
  have closed : s.DriveSame (s.withDrive { s.drive.closeWindow with closedEarly := s.drive.closedEarly + 1#16 })
      DriveField.ofWindow := by
    intro f hf
    cases f <;> first | rfl | exact absurd hf (by decide)
  exact closed.trans ((State.driveSame_latchBridge _).mono.trans (State.driveSame_settleWindow _).mono)

/-- What a change of R changes. -/
abbrev DriveField.ofRamp : List DriveField := [.ramp, .stepDir, .rampTimer, .channels]

/-- A drive with R, the stepping direction and the timer given. -/
theorem Drive.sameBut_ramp (d : Drive) (r : Nat) (x : StepDir) (y : Timer) :
    d.SameBut { d with ramp := r, stepDir := x, rampTimer := y } [.ramp, .stepDir, .rampTimer] := by
  intro f hf
  cases f <;> first | rfl | exact absurd hf (by decide)

theorem Drive.sameBut_stepDir (d : Drive) (x : StepDir) (y : Timer) :
    d.SameBut { d with stepDir := x, rampTimer := y } [.stepDir, .rampTimer] := by
  intro f hf
  cases f <;> first | rfl | exact absurd hf (by decide)

theorem State.driveSame_zeroRamp : s.DriveSame s.zeroRamp DriveField.ofRamp :=
  (s.drive.sameBut_ramp _ _ _).mono.trans (State.driveSame_rampMoved (s.withDrive _)).mono

theorem State.driveSame_jumpRamp : s.DriveSame s.jumpRamp DriveField.ofRamp :=
  (s.drive.sameBut_ramp _ _ _).mono.trans (State.driveSame_rampMoved (s.withDrive _)).mono

theorem State.driveSame_followTarget : s.DriveSame s.followTarget DriveField.ofRamp :=
  .ite (fun _ => .ite (fun _ => (s.drive.sameBut_stepDir _ _).mono) fun _ => s.driveSame_jumpRamp)
    fun _ => .ite (fun _ => .refl _ _) fun _ => (s.drive.sameBut_stepDir _ _).mono

theorem State.driveSame_setDirection (dir : Direction) : s.DriveSame (s.setDirection dir) [.direction, .channels] := by
  refine .ite (fun _ => .refl _ _) fun _ => ?_
  have turned : s.DriveSame (s.withDrive { s.drive with direction := dir }) [.direction, .channels] := by
    intro f hf
    cases f <;> first | rfl | exact absurd hf (by decide)
  exact turned.trans ((State.driveSame_clearIntegrals _).mono.trans (State.DriveSame.of_keeps (State.keeps_lampDirection _) (m := _)))

theorem State.driveSame_seeShorts (c : Option Channel) : s.DriveSame (s.seeShorts c) [.shortA, .shortB, .shortSamples] := by
  intro f hf
  cases f <;> first | rfl | exact absurd hf (by decide)

/-- What a change of drive state changes. -/
abbrev DriveField.ofState : List DriveField :=
  [.state, .forgiveTimer, .shortA, .shortB, .shortSamples, .window, .windowMuted, .settleTimer, .limitTimer, .channels,
    .closedEarly, .periodTimer]

/-- The forgive timer at a change of drive state (R33). -/
def State.forgiveAfter (new : DriveState) : Timer :=
  if new.stopped then .stopped
  else if s.drive.state.stopped ∧ 0 < s.drive.tripCount then s.startTimer (hundredMillis s.drive.profile.forgive)
  else s.drive.forgiveTimer

/-- The new state taken into the record (R33, R37). -/
def State.stateHeld (new : DriveState) : State :=
  (s.withDrive { s.drive with state := new, forgiveTimer := s.forgiveAfter new }).latchBridge.settleWindow

/-- What a change of drive state does to the drive's own record and its window (R33, R37, R40). -/
def State.stateTaken (new : DriveState) : State :=
  if new.stopped ∨ new = .idle then (s.stateHeld new).closeWindowEarly else s.stateHeld new

/-- A change of drive state: the drive's own part, and what follows it (R43, R44, R95, R111). -/
theorem State.enterDriveState_eq {new : DriveState} (h : s.drive.state ≠ new) (asserting : Option Channel) :
    s.enterDriveState new asserting =
      ((((if s.drive.state.stopped ∨ new.stopped then (s.stateTaken new).raise .drive else s.stateTaken new).smokeDriveChange
        new).lampDriveChange).seeShorts asserting).writeDriveReadings :=
  if_neg h

theorem State.driveSame_stateHeld (new : DriveState) : s.DriveSame (s.stateHeld new)
    [.state, .forgiveTimer, .channels, .periodTimer] := by
  have taken : s.DriveSame (s.withDrive { s.drive with state := new, forgiveTimer := s.forgiveAfter new })
      [.state, .forgiveTimer, .channels, .periodTimer] := by
    intro f hf
    cases f <;> first | rfl | exact absurd hf (by decide)
  exact taken.trans ((State.driveSame_latchBridge _).mono.trans (State.driveSame_settleWindow _).mono)

theorem State.stateHeld_state (new : DriveState) :
    (s.stateHeld new).drive.state = new ∧ (s.stateHeld new).drive.forgiveTimer = s.forgiveAfter new :=
  ⟨(State.driveSame_settleWindow _).same .state, (State.driveSame_settleWindow _).same .forgiveTimer⟩

theorem State.driveSame_stateTaken (new : DriveState) : s.DriveSame (s.stateTaken new)
    (.state :: .forgiveTimer :: DriveField.ofWindow) :=
  .ite (fun _ => (s.driveSame_stateHeld new).mono.trans (State.driveSame_closeWindowEarly _).mono)
    fun _ => (s.driveSame_stateHeld new).mono

theorem State.stateTaken_state (new : DriveState) :
    (s.stateTaken new).drive.state = new ∧ (s.stateTaken new).drive.forgiveTimer = s.forgiveAfter new := by
  unfold State.stateTaken
  split
  · rw [(State.driveSame_closeWindowEarly _).same .state, (State.driveSame_closeWindowEarly _).same .forgiveTimer]
    exact s.stateHeld_state new
  · exact s.stateHeld_state new

/-- What follows a change of drive state changes no more than the SHORT levels of the drive. -/
theorem State.driveSame_announced (c : Prop) [Decidable c] (new : DriveState) (asserting : Option Channel) :
    s.DriveSame (((((if c then s.raise .drive else s).smokeDriveChange new).lampDriveChange).seeShorts
      asserting).writeDriveReadings) [.shortA, .shortB, .shortSamples] := by
  have raised : s.DriveSame (if c then s.raise .drive else s) [.shortA, .shortB, .shortSamples] :=
    .ite (fun _ => State.DriveSame.of_keeps (s.keeps_raise _) (m := _)) fun _ => .refl _ _
  exact raised.trans ((State.DriveSame.of_keeps (State.keeps_smokeDriveChange _ _) (m := _)).trans
    ((State.DriveSame.of_keeps (State.keeps_lampDriveChange _) (m := _)).trans ((State.driveSame_seeShorts _ _).trans
    (State.DriveSame.of_keeps (State.keeps_writeDriveReadings _) (m := _)))))

theorem State.driveSame_enterDriveState (new : DriveState) (asserting : Option Channel) :
    s.DriveSame (s.enterDriveState new asserting) DriveField.ofState := by
  by_cases h : s.drive.state = new
  · rw [show s.enterDriveState new asserting = s from if_pos h]
    exact .refl _ _
  · rw [s.enterDriveState_eq h]
    exact (s.driveSame_stateTaken new).mono.trans (State.driveSame_announced _ _ _ _).mono

theorem State.enterDriveState_state (new : DriveState) (asserting : Option Channel) :
    (s.enterDriveState new asserting).drive.state = new := by
  by_cases h : s.drive.state = new
  · rw [show s.enterDriveState new asserting = s from if_pos h, h]
  · rw [s.enterDriveState_eq h, (State.driveSame_announced _ _ _ _).same .state, (s.stateTaken_state new).1]

/-- The forgive timer at a change of drive state (R33). -/
theorem State.enterDriveState_forgive {new : DriveState} (h : s.drive.state ≠ new) (asserting : Option Channel) :
    (s.enterDriveState new asserting).drive.forgiveTimer = s.forgiveAfter new := by
  rw [s.enterDriveState_eq h, (State.driveSame_announced _ _ _ _).same .forgiveTimer, (s.stateTaken_state new).2]

theorem State.setDirection_direction (dir : Direction) : (s.setDirection dir).drive.direction = dir := by
  unfold State.setDirection
  split
  · exact (‹dir = _›).symm
  · rw [State.keeps_lampDirection _ |>.same .drive, (State.driveSame_clearIntegrals _).same .direction]
    rfl

/-- What R = 0 may bring. -/
abbrev DriveField.ofZero : List DriveField := .direction :: DriveField.ofState

theorem State.driveSame_reachedZero : s.DriveSame s.reachedZero DriveField.ofZero := by
  unfold State.reachedZero
  refine .ite (fun _ => .refl _ _) fun _ => ?_
  split
  · exact (s.driveSame_setDirection _).mono.trans (State.driveSame_enterDriveState _ _ _).mono
  · exact .ite (fun _ => (s.driveSame_enterDriveState _ _).mono) fun _ => .refl _ _
  all_goals exact .refl _ _

/-- What settling the drive may change. -/
abbrev DriveField.ofSettle : List DriveField := .ramp :: .stepDir :: .rampTimer :: DriveField.ofZero

theorem State.driveSame_settleDrive : s.DriveSame s.settleDrive DriveField.ofSettle :=
  s.driveSame_followTarget.mono.trans ((State.driveSame_settleWindow _).mono.trans
    ((State.driveSame_reachedZero _).mono.trans ((State.driveSame_followTarget _).mono.trans
    (State.driveSame_settleWindow _).mono)))

/-! ### The target in force -/

/-- What T depends on. -/
theorem State.effectiveTarget_congr {s t : State} (hp : t.part = s.part) (hw : t.power.state = s.power.state)
    (hs : t.drive.state = s.drive.state) (hl : t.drive.level = s.drive.level)
    (hm : t.drive.target.magnitude = s.drive.target.magnitude) : t.effectiveTarget = s.effectiveTarget := by
  simp only [State.effectiveTarget, hp, hw, hs, hl, hm]

/-- An operation that leaves the drive's state, level and target, and nothing of the part state or the power. -/
theorem State.effectiveTarget_same {s t : State} {l : List Component} {m : List DriveField} (h : s.SameExcept t l)
    (k : s.DriveSame t m) (hl : .part ∉ l ∧ .power ∉ l := by decide)
    (hm : .state ∉ m ∧ .level ∉ m ∧ .target ∉ m := by decide) : t.effectiveTarget = s.effectiveTarget :=
  State.effectiveTarget_congr (h .part hl.1) (by rw [h .power hl.2]) (k .state hm.1) (k .level hm.2.1)
    (by rw [k .target hm.2.2])

/-! ### R -/

theorem State.zeroRamp_ramp : s.zeroRamp.drive.ramp = 0 :=
  (State.driveSame_rampMoved (s.withDrive _)).same .ramp

theorem State.jumpRamp_ramp : s.jumpRamp.drive.ramp = s.effectiveTarget :=
  (State.driveSame_rampMoved (s.withDrive _)).same .ramp

/-- The R that following T leaves: T itself in mode OFF (R12). -/
def State.followedRamp : Nat := if s.drive.profile.momentum = .off then s.effectiveTarget else s.drive.ramp

theorem State.followTarget_ramp : s.followTarget.drive.ramp = s.followedRamp := by
  unfold State.followTarget State.followedRamp
  dsimp only
  split
  · split
    · assumption
    · exact s.jumpRamp_ramp
  · split <;> rfl

/-- Outside mode OFF the drive that follows T turns its stepping direction alone. -/
theorem State.driveSame_followTarget_of_ramp (h : s.drive.profile.momentum ≠ .off) :
    s.DriveSame s.followTarget [.stepDir, .rampTimer] := by
  unfold State.followTarget
  dsimp only
  rw [if_neg h]
  exact .ite (fun _ => .refl _ _) fun _ => s.drive.sameBut_stepDir _ _

theorem State.keeps_followTarget_of_ramp (h : s.drive.profile.momentum ≠ .off) : s.Keeps s.followTarget [.drive] := by
  unfold State.followTarget
  dsimp only
  rw [if_neg h]
  exact .ite (fun _ => .refl _ _) fun _ => s.keeps_withDrive _

/-- Outside mode OFF the stepping direction is the one from R to T, and the timer starts anew where it turns (R9). -/
theorem State.followTarget_stepDir (h : s.drive.profile.momentum ≠ .off) :
    s.followTarget.drive.stepDir = stepDirection s.drive.ramp s.effectiveTarget ∧
      s.followTarget.drive.rampTimer =
        if stepDirection s.drive.ramp s.effectiveTarget = s.drive.stepDir then s.drive.rampTimer
        else s.rampInterval (stepDirection s.drive.ramp s.effectiveTarget) := by
  unfold State.followTarget
  dsimp only
  rw [if_neg h]
  split
  · exact ⟨(‹stepDirection _ _ = _›).symm, rfl⟩
  · exact ⟨rfl, rfl⟩

/-- A drive that already steps from R to T is left alone (R9). -/
theorem State.followTarget_still (h : s.drive.profile.momentum ≠ .off)
    (hd : s.drive.stepDir = stepDirection s.drive.ramp s.effectiveTarget) : s.followTarget = s := by
  unfold State.followTarget
  dsimp only
  rw [if_neg h, if_pos hd.symm]

/-! ### What R = 0 brings -/

/-- With R above 0, or in a state that R = 0 does not end, nothing follows. -/
theorem State.reachedZero_stays (h : s.drive.ramp ≠ 0 ∨ s.drive.state ≠ .reversing ∧ s.drive.state ≠ .running) :
    s.reachedZero = s := by
  unfold State.reachedZero
  split
  · rfl
  · have hs := h.resolve_left ‹¬ _›
    cases hd : s.drive.state <;> simp_all

/-- R = 0 ends a reversal in the target's direction (R28). -/
theorem State.reachedZero_reversing (hr : s.drive.ramp = 0) (hs : s.drive.state = .reversing) :
    s.reachedZero = (s.setDirection s.drive.target.direction).enterDriveState
      (if s.drive.target.magnitude = 0 then .idle else .running) := by
  have target := (s.driveSame_setDirection s.drive.target.direction).same .target
  unfold State.reachedZero
  rw [if_neg (by simpa using hr)]
  simp only [hs]
  rw [show (s.setDirection s.drive.target.direction).drive.target = s.drive.target from target]

/-- R = 0 ends a run that asks for no speed (R25). -/
theorem State.reachedZero_running (hr : s.drive.ramp = 0) (hs : s.drive.state = .running) :
    s.reachedZero = if s.drive.target.magnitude = 0 then s.enterDriveState .idle else s := by
  unfold State.reachedZero
  rw [if_neg (by simpa using hr)]
  simp only [hs]

/-- The state and the direction that R = 0 leaves. -/
theorem State.reachedZero_state (hr : s.drive.ramp = 0) :
    (s.drive.state = .reversing → s.reachedZero.drive.direction = s.drive.target.direction) ∧
      (s.drive.state ≠ .reversing → s.reachedZero.drive.direction = s.drive.direction) ∧
      (s.drive.state = .reversing ∨ s.drive.state = .running →
        s.reachedZero.drive.state = if s.drive.target.magnitude = 0 then .idle else .running) := by
  refine ⟨fun hs => ?_, fun hs => ?_, fun hs => ?_⟩
  · rw [s.reachedZero_reversing hr hs, (State.driveSame_enterDriveState _ _ _).same .direction, s.setDirection_direction]
  · by_cases hrun : s.drive.state = .running
    · rw [s.reachedZero_running hr hrun]
      split
      · exact (s.driveSame_enterDriveState _ _).same .direction
      · rfl
    · rw [s.reachedZero_stays (.inr ⟨hs, hrun⟩)]
  · rcases hs with hs | hs
    · rw [s.reachedZero_reversing hr hs, State.enterDriveState_state]
    · rw [s.reachedZero_running hr hs]
      split
      · exact s.enterDriveState_state _ _
      · exact hs

/-! ### Settling the drive -/

/-- The state and the direction that settling the drive leaves, by the R that following T leaves (R12, R25, R28). -/
theorem State.settleDrive_state :
    (s.followedRamp ≠ 0 ∨ s.drive.state ≠ .reversing ∧ s.drive.state ≠ .running →
      s.settleDrive.drive.state = s.drive.state ∧ s.settleDrive.drive.direction = s.drive.direction) ∧
    (s.followedRamp = 0 →
      (s.drive.state = .reversing → s.settleDrive.drive.direction = s.drive.target.direction) ∧
      (s.drive.state ≠ .reversing → s.settleDrive.drive.direction = s.drive.direction) ∧
      (s.drive.state = .reversing ∨ s.drive.state = .running →
        s.settleDrive.drive.state = if s.drive.target.magnitude = 0 then .idle else .running)) := by
  have followed := s.driveSame_followTarget.mono (m := .periodTimer :: DriveField.ofRamp)
    |>.trans (State.driveSame_settleWindow s.followTarget).mono
  have ramp : s.followTarget.settleWindow.drive.ramp = s.followedRamp :=
    (State.driveSame_settleWindow _).same .ramp |>.trans s.followTarget_ramp
  have after := (State.driveSame_followTarget s.followTarget.settleWindow.reachedZero).mono (m := .periodTimer :: DriveField.ofRamp)
    |>.trans (State.driveSame_settleWindow _).mono
  have state : s.settleDrive.drive.state = s.followTarget.settleWindow.reachedZero.drive.state := after.same .state
  have direction : s.settleDrive.drive.direction = s.followTarget.settleWindow.reachedZero.drive.direction :=
    after.same .direction
  rw [state, direction]
  have st : _ = s.drive.state := followed.same .state
  have dr : _ = s.drive.direction := followed.same .direction
  have tg : _ = s.drive.target := followed.same .target
  refine ⟨fun h => ?_, fun h => ?_⟩
  · rw [State.reachedZero_stays _ (by rwa [ramp, st])]
    exact ⟨st, dr⟩
  · have := State.reachedZero_state s.followTarget.settleWindow (ramp.trans h)
    rwa [st, dr, tg] at this

/-- Outside mode OFF settling the drive leaves R. -/
theorem State.settleDrive_ramp (h : s.drive.profile.momentum ≠ .off) : s.settleDrive.drive.ramp = s.drive.ramp := by
  have momentum : s.followTarget.settleWindow.reachedZero.drive.profile.momentum ≠ .off := by
    have := (s.driveSame_followTarget.mono (m := .periodTimer :: DriveField.ofSettle)).trans
      ((State.driveSame_settleWindow _).mono.trans (State.driveSame_reachedZero _).mono)
    rwa [this.same .profile]
  have followed : s.followedRamp = s.drive.ramp := if_neg h
  calc s.settleDrive.drive.ramp
      = s.followTarget.settleWindow.reachedZero.followTarget.drive.ramp := (State.driveSame_settleWindow _).same .ramp
    _ = s.followTarget.settleWindow.reachedZero.drive.ramp := (State.driveSame_followTarget_of_ramp _ momentum).same .ramp
    _ = s.followTarget.settleWindow.drive.ramp := (State.driveSame_reachedZero _).same .ramp
    _ = s.followTarget.drive.ramp := (State.driveSame_settleWindow _).same .ramp
    _ = s.drive.ramp := s.followTarget_ramp.trans followed

end

end Sys2Proof.Machine

/-! ## The drive at rest, its duties, its window, and what its changes announce -/

namespace Sys2Proof.Machine

-- One proof at a time: proofs that wait for one another would each hold a thread.
set_option Elab.async false

section
variable {d : Drive} (s : State)

/-! ### The drive at rest (R8, R16, R18, R19) -/

theorem State.appliedDuty_le (c : Channel) : s.appliedDuty c ≤ (s.drive.channels.get c).duty := by
  unfold State.appliedDuty
  split
  · exact Nat.zero_le _
  · exact le_rfl

/-- A channel of a drive whose R is 0 has no command, integral, correction or duty (R14, R16, R18). -/
theorem State.formChannel_of_still (h : s.drive.ramp = 0) (c : Channel) (x : ChannelState) :
    s.formChannel c x = { x with command := 0, integral := 0, correction := 0, duty := 0 } := by
  have command : trimCommand (s.drive.profile.trim.get c) s.drive.ramp = 0 :=
    trimCommand_eq_zero _ _ (.inr (by omega))
  have duty : s.computedDuty 0 0 = 0 := by
    have := s.computedDuty_eq 0 0
    split at this <;> omega
  simp only [State.formChannel, command, if_true, duty]

theorem State.latchBridge_get (c : Channel) : s.latchBridge.drive.channels.get c =
    { s.drive.channels.get c with pwm := min (s.drive.channels.get c).pwm (s.appliedDuty c) } := by
  simp only [State.latchBridge, State.withDrive_drive, PerChannel.get_map]

theorem State.refreshDuty_get (c : Channel) : ∃ n, s.refreshDuty.drive.channels.get c =
      { s.formChannel c (s.drive.channels.get c) with pwm := n } ∧
    n ≤ (s.formChannel c (s.drive.channels.get c)).duty := by
  refine ⟨min (s.formChannel c (s.drive.channels.get c)).pwm
    ((s.withDrive { s.drive with channels := s.drive.channels.map s.formChannel }).appliedDuty c), ?_, ?_⟩
  · unfold State.refreshDuty
    rw [State.latchBridge_get]
    simp only [State.withDrive_drive, PerChannel.get_map]
  · refine (min_le_right _ _).trans ((State.appliedDuty_le _ c).trans ?_)
    simp

variable {s}

/-- A refreshed drive whose R is 0 is at rest. -/
theorem State.atRest_of_refresh (hr : s.drive.ramp = 0) (hd : s.drive.stepDir = .none) (ht : s.drive.rampTimer = .stopped)
    (he : ∀ c : Channel, (s.drive.channels.get c).lastEmf = (d.channels.get c).lastEmf) :
    d.AtRest s.refreshDuty.drive := by
  have same := s.driveSame_refreshDuty
  refine ⟨(same.same .ramp).trans hr, (same.same .stepDir).trans hd, (same.same .rampTimer).trans ht, fun c => ?_⟩
  obtain ⟨n, h, hn⟩ := s.refreshDuty_get c
  rw [s.formChannel_of_still hr] at h hn
  rw [h]
  exact ⟨rfl, rfl, rfl, rfl, Nat.le_zero.mp hn, he c⟩

theorem Drive.AtRest.of_channels {e f : Drive} (h : d.AtRest e) {l : List DriveField} (k : e.SameBut f l)
    (hl : DriveField.ramp ∉ l ∧ .stepDir ∉ l ∧ .rampTimer ∉ l ∧ .channels ∉ l := by decide) : d.AtRest f := by
  obtain ⟨ramp, dir, timer, channels⟩ := h
  exact ⟨(k .ramp hl.1).trans ramp, (k .stepDir hl.2.1).trans dir, (k .rampTimer hl.2.2.1).trans timer,
    fun c => by rw [show f.channels = e.channels from k .channels hl.2.2.2]; exact channels c⟩

theorem Drive.AtRest.latchBridge (h : d.AtRest s.drive) : d.AtRest s.latchBridge.drive := by
  obtain ⟨ramp, dir, timer, channels⟩ := h
  refine ⟨ramp, dir, timer, fun c => ?_⟩
  obtain ⟨command, integral, correction, duty, pwm, emf⟩ := channels c
  rw [State.latchBridge_get]
  exact ⟨command, integral, correction, duty, by simp [pwm], emf⟩

theorem Drive.AtRest.refreshDuty (h : d.AtRest s.drive) : d.AtRest s.refreshDuty.drive := by
  obtain ⟨ramp, dir, timer, channels⟩ := h
  exact State.atRest_of_refresh ramp dir timer fun c => (channels c).2.2.2.2.2

theorem Drive.AtRest.clearIntegrals (h : d.AtRest s.drive) : d.AtRest s.clearIntegrals.drive := by
  obtain ⟨ramp, dir, timer, channels⟩ := h
  refine State.atRest_of_refresh ramp dir timer fun c => ?_
  obtain ⟨-, -, -, -, -, emf⟩ := channels c
  simpa using emf

theorem Drive.AtRest.settleWindow (h : d.AtRest s.drive) : d.AtRest s.settleWindow.drive :=
  h.of_channels s.driveSame_settleWindow

theorem Drive.AtRest.closeWindowEarly (h : d.AtRest s.drive) : d.AtRest s.closeWindowEarly.drive := by
  unfold State.closeWindowEarly
  split
  · exact h
  · refine (Drive.AtRest.latchBridge ?_).settleWindow
    obtain ⟨ramp, dir, timer, channels⟩ := h
    refine ⟨ramp, dir, timer, fun c => ?_⟩
    obtain ⟨command, integral, correction, duty, pwm, emf⟩ := channels c
    simp only [State.withDrive_drive, Drive.closeWindow, PerChannel.get_map, ChannelState.forget]
    exact ⟨command, integral, correction, duty, pwm, emf⟩

theorem Drive.AtRest.cadenceStep (h : d.AtRest s.drive) : d.AtRest s.cadenceStep.drive := by
  rw [show s.cadenceStep.drive = s.drive from s.keeps_cadenceStep.same .drive]
  exact h

theorem State.atRest_zeroRamp (he : ∀ c : Channel, (s.drive.channels.get c).lastEmf = (d.channels.get c).lastEmf) :
    d.AtRest s.zeroRamp.drive := by
  exact Drive.AtRest.cadenceStep (State.atRest_of_refresh
    (s := s.withDrive { s.drive with ramp := 0, stepDir := .none, rampTimer := .stopped }) rfl rfl rfl he)

theorem Drive.AtRest.setDirection (h : d.AtRest s.drive) (dir : Direction) : d.AtRest (s.setDirection dir).drive := by
  unfold State.setDirection
  split
  · exact h
  · rw [(State.keeps_lampDirection _).same .drive]
    exact Drive.AtRest.clearIntegrals (s := s.withDrive _) h

theorem Drive.AtRest.stateTaken (h : d.AtRest s.drive) (new : DriveState) : d.AtRest (s.stateTaken new).drive := by
  have held : d.AtRest (s.stateHeld new).drive := by
    unfold State.stateHeld
    exact Drive.AtRest.settleWindow (Drive.AtRest.latchBridge
      (s := s.withDrive { s.drive with state := new, forgiveTimer := s.forgiveAfter new }) h)
  unfold State.stateTaken
  split
  · exact held.closeWindowEarly
  · exact held

theorem Drive.AtRest.enterDriveState (h : d.AtRest s.drive) (new : DriveState) (asserting : Option Channel) :
    d.AtRest (s.enterDriveState new asserting).drive := by
  by_cases hs : s.drive.state = new
  · rwa [show s.enterDriveState new asserting = s from if_pos hs]
  · rw [s.enterDriveState_eq hs]
    exact (h.stateTaken new).of_channels (State.driveSame_announced _ _ _ _)

theorem Drive.AtRest.reachedZero (h : d.AtRest s.drive) : d.AtRest s.reachedZero.drive := by
  cases hs : s.drive.state
  case reversing =>
    rw [s.reachedZero_reversing h.1 hs]
    exact (h.setDirection _).enterDriveState _ _
  case running =>
    rw [s.reachedZero_running h.1 hs]
    split
    · exact h.enterDriveState _ _
    · exact h
  all_goals
    rw [s.reachedZero_stays (.inr (by simp [hs]))]
    exact h

/-- A drive at rest that is asked for no speed does not stir. -/
theorem State.followTarget_of_rest (h : d.AtRest s.drive) (ht : s.effectiveTarget = 0) : s.followTarget = s := by
  obtain ⟨ramp, dir, timer, -⟩ := h
  have self : s.withDrive { s.drive with stepDir := .none, rampTimer := .stopped } = s := by
    rw [← dir, ← timer]
    rfl
  have still : stepDirection s.drive.ramp s.effectiveTarget = s.drive.stepDir := by
    rw [ramp, ht, dir]
    rfl
  unfold State.followTarget
  dsimp only
  rw [if_pos (ramp.trans ht.symm), if_pos still]
  split
  · exact self
  · rfl

/-- Settling a drive at rest that is asked for no speed, before and after what R = 0 brings. -/
theorem State.settleDrive_of_rest (h : d.AtRest s.drive) (ht : s.effectiveTarget = 0)
    (hz : s.settleWindow.reachedZero.effectiveTarget = 0) : s.settleDrive = s.settleWindow.reachedZero.settleWindow := by
  unfold State.settleDrive
  rw [State.followTarget_of_rest h ht, State.followTarget_of_rest h.settleWindow.reachedZero hz]

/-- T is 0 where the drive is stopped, at BRAKE and RELEASE, and in SPENT. -/
theorem State.effectiveTarget_of_stopped (h : s.drive.state.stopped = true) : s.effectiveTarget = 0 := by
  simp [State.effectiveTarget, h]

theorem State.effectiveTarget_of_holds (h : s.drive.level.holds = true) : s.effectiveTarget = 0 := by
  simp [State.effectiveTarget, h]

theorem State.effectiveTarget_of_spent (h : s.power.state = .spent) : s.effectiveTarget = 0 := by
  simp [State.effectiveTarget, h]

theorem State.effectiveTarget_of_windingDown (h : s.part = .quiescing ∨ s.part = .quiet ∨ s.part = .resetting) :
    s.effectiveTarget = 0 := by
  simp [State.effectiveTarget, h]

/-- Settling a stopped drive at rest brings its window timer in line and no more. -/
theorem State.settleDrive_of_stopped (h : d.AtRest s.drive) (hs : s.drive.state.stopped = true) :
    s.settleDrive = s.settleWindow.settleWindow := by
  have state : s.settleWindow.drive.state = s.drive.state := s.driveSame_settleWindow.same .state
  have stays : s.settleWindow.reachedZero = s.settleWindow :=
    State.reachedZero_stays _ (.inr (by rw [state]; constructor <;> rintro e <;> rw [e] at hs <;> cases hs))
  rw [State.settleDrive_of_rest h (State.effectiveTarget_of_stopped hs)]
  · rw [stays]
  · rw [stays]
    exact State.effectiveTarget_of_stopped (by rw [state]; exact hs)

/-! ### The duties (R14, R16, R18) -/

/-- A refreshed drive has its duties formed. -/
theorem State.dutyFormed_refreshDuty (s : State) : s.refreshDuty.DutyFormed := by
  intro c
  have profile : s.refreshDuty.drive.profile = s.drive.profile := s.driveSame_refreshDuty.same .profile
  have ramp : s.refreshDuty.drive.ramp = s.drive.ramp := s.driveSame_refreshDuty.same .ramp
  have power (m : Nat) (x : Int) : s.refreshDuty.computedDuty m x = s.computedDuty m x := rfl
  obtain ⟨n, h, -⟩ := s.refreshDuty_get c
  rw [h, profile, ramp, power]
  by_cases hc : trimCommand (s.drive.profile.trim.get c) s.drive.ramp = 0 <;> simp [State.formChannel, hc]

/-- The duties stay formed where R, the profile and the power stand and the channels keep C, the integral, the
correction and D. -/
theorem State.DutyFormed.of_same {s t : State} (h : s.DutyFormed) (hr : t.drive.ramp = s.drive.ramp)
    (hp : t.drive.profile = s.drive.profile) (hw : t.power = s.power)
    (hc : ∀ c : Channel, (t.drive.channels.get c).command = (s.drive.channels.get c).command ∧
      (t.drive.channels.get c).integral = (s.drive.channels.get c).integral ∧
      (t.drive.channels.get c).correction = (s.drive.channels.get c).correction ∧
      (t.drive.channels.get c).duty = (s.drive.channels.get c).duty) : t.DutyFormed := by
  intro c
  obtain ⟨command, integral, correction, duty⟩ := hc c
  have power (m : Nat) (x : Int) : t.computedDuty m x = s.computedDuty m x := by simp only [State.computedDuty, hw]
  rw [command, integral, correction, duty, hr, hp, power]
  exact h c

theorem State.DutyFormed.of_channels {s t : State} (h : s.DutyFormed) {l : List Component} {m : List DriveField}
    (frame : s.SameExcept t l) (k : s.DriveSame t m) (hl : .power ∉ l := by decide)
    (hm : .ramp ∉ m ∧ .profile ∉ m ∧ .channels ∉ m := by decide) : t.DutyFormed :=
  h.of_same (k .ramp hm.1) (k .profile hm.2.1) (frame .power hl) fun c => by
    rw [show t.drive.channels = s.drive.channels from k .channels hm.2.2]
    exact ⟨rfl, rfl, rfl, rfl⟩

theorem State.DutyFormed.latchBridge (h : s.DutyFormed) : s.latchBridge.DutyFormed :=
  h.of_same rfl rfl rfl fun c => by rw [State.latchBridge_get]; exact ⟨rfl, rfl, rfl, rfl⟩

theorem State.DutyFormed.settleWindow (h : s.DutyFormed) : s.settleWindow.DutyFormed :=
  h.of_channels s.keeps_settleWindow.frame s.driveSame_settleWindow

theorem State.DutyFormed.closeWindowEarly (h : s.DutyFormed) : s.closeWindowEarly.DutyFormed := by
  unfold State.closeWindowEarly
  split
  · exact h
  · refine State.DutyFormed.settleWindow (State.DutyFormed.latchBridge (h.of_same ?_ ?_ ?_ fun c => ?_))
    iterate 3 rfl
    simp only [State.withDrive_drive, Drive.closeWindow, PerChannel.get_map, ChannelState.forget]
    exact ⟨trivial, trivial, trivial, trivial⟩

theorem State.dutyFormed_rampMoved (s : State) : s.rampMoved.DutyFormed :=
  s.dutyFormed_refreshDuty.of_channels (State.keeps_cadenceStep _).frame
    (State.DriveSame.of_keeps (State.keeps_cadenceStep _) (m := []))

theorem State.DutyFormed.followTarget (h : s.DutyFormed) : s.followTarget.DutyFormed := by
  have turned (x : StepDir) (y : Timer) : (s.withDrive { s.drive with stepDir := x, rampTimer := y }).DutyFormed := h
  unfold State.followTarget
  dsimp only
  split
  · split
    · exact turned _ _
    · exact State.dutyFormed_rampMoved _
  · split
    · exact h
    · exact turned _ _

theorem State.DutyFormed.setDirection (h : s.DutyFormed) (dir : Direction) : (s.setDirection dir).DutyFormed := by
  unfold State.setDirection
  split
  · exact h
  · exact (State.dutyFormed_refreshDuty _).of_channels (State.keeps_lampDirection _).frame
      (State.DriveSame.of_keeps (State.keeps_lampDirection _) (m := []))

theorem State.DutyFormed.enterDriveState (h : s.DutyFormed) (new : DriveState) (asserting : Option Channel) :
    (s.enterDriveState new asserting).DutyFormed := by
  have held : (s.stateHeld new).DutyFormed := by
    unfold State.stateHeld
    exact State.DutyFormed.settleWindow (State.DutyFormed.latchBridge (s := s.withDrive { s.drive with
      state := new, forgiveTimer := s.forgiveAfter new }) h)
  have taken : (s.stateTaken new).DutyFormed := by
    unfold State.stateTaken
    split
    · exact held.closeWindowEarly
    · exact held
  have power (c : Prop) [Decidable c] (u : State) :
      (((((if c then u.raise .drive else u).smokeDriveChange new).lampDriveChange).seeShorts
        asserting).writeDriveReadings).power = u.power := by
    have raised : (if c then u.raise .drive else u).power = u.power := by
      split
      · exact (u.keeps_raise _).same .power
      · rfl
    rw [(State.keeps_writeDriveReadings _).same .power, (State.keeps_seeShorts _ _).same .power,
      (State.keeps_lampDriveChange _).same .power, (State.keeps_smokeDriveChange _ _).same .power, raised]
  by_cases hs : s.drive.state = new
  · rwa [show s.enterDriveState new asserting = s from if_pos hs]
  · rw [s.enterDriveState_eq hs]
    have same := State.driveSame_announced (s.stateTaken new) (s.drive.state.stopped ∨ new.stopped) new asserting
    exact taken.of_same (same.same .ramp) (same.same .profile) (power _ _) fun c => by
      rw [same.same .channels]
      exact ⟨rfl, rfl, rfl, rfl⟩

theorem State.DutyFormed.reachedZero (h : s.DutyFormed) : s.reachedZero.DutyFormed := by
  by_cases hr : s.drive.ramp = 0
  · by_cases hs : s.drive.state = .reversing
    · rw [s.reachedZero_reversing hr hs]
      exact (h.setDirection _).enterDriveState _ _
    · by_cases hs' : s.drive.state = .running
      · rw [s.reachedZero_running hr hs']
        split
        · exact h.enterDriveState _ _
        · exact h
      · rwa [s.reachedZero_stays (.inr ⟨hs, hs'⟩)]
  · rwa [s.reachedZero_stays (.inl hr)]

theorem State.DutyFormed.settleDrive (h : s.DutyFormed) : s.settleDrive.DutyFormed :=
  h.followTarget.settleWindow.reachedZero.followTarget.settleWindow

end

end Sys2Proof.Machine

/-! ## The drive's window, and what the drive's changes announce -/

namespace Sys2Proof.Machine

-- One proof at a time: proofs that wait for one another would each hold a thread.
set_option Elab.async false

section
variable {s : State}

/-! ### The window (R37, R40) -/

theorem State.settleWindow_stopped (h : s.drive.state ≠ .running) : s.settleWindow.drive.periodTimer = .stopped := by
  have may : ¬ s.windowMayOpen = true := by simp [State.windowMayOpen, h]
  unfold State.settleWindow
  rw [if_neg may]
  rfl

/-- A window that was open has been closed, without update. -/
theorem State.closeWindowEarly_shut (s : State) : s.closeWindowEarly.drive.window = .closed ∧
    (s.drive.window ≠ .closed →
      s.closeWindowEarly.drive.settleTimer = .stopped ∧ s.closeWindowEarly.drive.limitTimer = .stopped ∧
      s.closeWindowEarly.drive.closedEarly = s.drive.closedEarly + 1#16 ∧
      ∀ c : Channel, (s.closeWindowEarly.drive.channels.get c).requested = false ∧
        (s.closeWindowEarly.drive.channels.get c).reading = none) ∧
    (s.drive.window = .closed → s.closeWindowEarly = s) := by
  unfold State.closeWindowEarly
  split
  · exact ⟨‹_›, fun h => absurd ‹_› h, fun _ => rfl⟩
  · have same := State.driveSame_settleWindow
      (s.withDrive { s.drive.closeWindow with closedEarly := s.drive.closedEarly + 1#16 }).latchBridge
    refine ⟨same.same .window, fun _ => ⟨same.same .settleTimer, same.same .limitTimer, same.same .closedEarly, fun c => ?_⟩,
      fun h => absurd h ‹_›⟩
    rw [same.same .channels, State.latchBridge_get]
    simp [Drive.closeWindow, ChannelState.forget]

/-- The window stays shut under an operation that leaves its fields. -/
theorem Drive.WindowShut.of_same {d e f : Drive} (h : d.WindowShut e) {l : List DriveField} (k : e.SameBut f l)
    (hl : DriveField.window ∉ l ∧ .periodTimer ∉ l ∧ .settleTimer ∉ l ∧ .limitTimer ∉ l ∧ .closedEarly ∉ l ∧
      .channels ∉ l := by decide) : d.WindowShut f := by
  obtain ⟨window, period, opened, closed⟩ := h
  obtain ⟨h₁, h₂, h₃, h₄, h₅, h₆⟩ := hl
  refine ⟨(k .window h₁).trans window, (k .periodTimer h₂).trans period, fun ho => ?_, fun hc => ?_⟩
  · obtain ⟨settle, limit, count, channels⟩ := opened ho
    exact ⟨(k .settleTimer h₃).trans settle, (k .limitTimer h₄).trans limit, (k .closedEarly h₅).trans count, fun c => by
      rw [show f.channels = e.channels from k .channels h₆]; exact channels c⟩
  · exact (k .closedEarly h₅).trans (closed hc)

theorem Drive.WindowShut.settleWindow {d : Drive} (h : d.WindowShut s.drive) (hs : s.drive.state ≠ .running) :
    d.WindowShut s.settleWindow.drive := by
  obtain ⟨window, -, opened, closed⟩ := h
  have same := s.driveSame_settleWindow
  refine ⟨(same.same .window).trans window, State.settleWindow_stopped hs, fun ho => ?_,
    fun hc => (same.same .closedEarly).trans (closed hc)⟩
  obtain ⟨settle, limit, count, channels⟩ := opened ho
  refine ⟨(same.same .settleTimer).trans settle, (same.same .limitTimer).trans limit, (same.same .closedEarly).trans count,
    fun c => ?_⟩
  rw [same.same .channels]
  exact channels c

/-- Closing the window shuts it, where its period timer does not run on. -/
theorem State.windowShut_closeWindowEarly {d : Drive} (hs : s.drive.state ≠ .running) (hp : s.drive.periodTimer = .stopped)
    (hw : s.drive.window = d.window) (hc : s.drive.closedEarly = d.closedEarly) : d.WindowShut s.closeWindowEarly.drive := by
  obtain ⟨closed, opened, still⟩ := s.closeWindowEarly_shut
  refine ⟨closed, ?_, fun ho => ?_, fun h => ?_⟩
  · by_cases h : s.drive.window = .closed
    · rw [still h]
      exact hp
    · unfold State.closeWindowEarly
      rw [if_neg h]
      exact State.settleWindow_stopped hs
  · rw [← hc]
    exact opened (by rwa [hw])
  · rw [still (hw.trans h)]
    exact hc

/-- A drive that stops or becomes IDLE shuts its window (R37, R40). -/
theorem State.windowShut_enterDriveState {d : Drive} {new : DriveState} (hn : new.stopped = true ∨ new = .idle)
    (hs : s.drive.state ≠ new) (asserting : Option Channel) (hw : s.drive.window = d.window)
    (hc : s.drive.closedEarly = d.closedEarly) : d.WindowShut (s.enterDriveState new asserting).drive := by
  have running : new ≠ .running := by rintro rfl; simp [DriveState.stopped] at hn
  have held := s.driveSame_stateHeld new
  have state := (s.stateHeld_state new).1
  rw [s.enterDriveState_eq hs]
  refine Drive.WindowShut.of_same ?_ (State.driveSame_announced _ _ _ _)
  unfold State.stateTaken
  rw [if_pos hn]
  refine State.windowShut_closeWindowEarly (by rwa [state]) ?_ ((held.same .window).trans hw) ((held.same .closedEarly).trans hc)
  exact State.settleWindow_stopped running

/-! ### What the drive's changes announce -/

theorem State.shows_writeSmokeReadings (s : State) : s.Shows s.writeSmokeReadings [.store] :=
  (s.shows_writeGroup _ _ _).trans (State.shows_writeGroup _ _ _ _)

theorem State.shows_smokeMoved (s : State) (old : SmokeState) : s.Shows (s.smokeMoved old) Component.ofSmoke := by
  unfold State.smokeMoved
  exact (State.Shows.of_keeps s.keeps_rereadFan).mono.trans
    (.ite (fun _ => .refl _ _) fun _ => (State.shows_writeSmokeReadings _).mono)

theorem State.shows_smokeDriveChange (s : State) (new : DriveState) : s.Shows (s.smokeDriveChange new) Component.ofSmoke := by
  unfold State.smokeDriveChange
  refine .ite (fun _ => ?_) fun _ => ?_
  · split
    iterate 2 exact (State.Shows.of_frame (s.sameExcept_withSmoke _)).mono
    all_goals exact .refl _ _
  · refine (State.Shows.of_frame (s.sameExcept_withSmoke _)).mono.trans (.ite (fun _ => ?_) fun _ => .refl _ _)
    exact (State.Shows.of_frame (State.sameExcept_withSmoke _ _)).mono.trans (State.shows_smokeMoved _ _)

theorem State.shows_lampDriveChange (s : State) : s.Shows s.lampDriveChange Component.ofLamps := by
  unfold State.lampDriveChange
  exact .ite (fun _ => .refl _ _) fun _ => (State.Shows.of_frame (s.sameExcept_withLamps _)).mono.trans
    ((State.Shows.of_keeps (State.keeps_formLamps _)).mono.trans (State.shows_writeGroup _ _ _ _).mono)

/-- What a change of drive state touches beside ATTN. -/
abbrev Component.ofZero : List Component := [.drive, .smoke, .lamps, .store]

theorem State.shows_stateTaken (s : State) (new : DriveState) : s.Shows (s.stateTaken new) [.drive] := by
  have held : s.Keeps (s.stateHeld new) [.drive] :=
    (s.keeps_withDrive _).trans ((State.keeps_latchBridge _).trans (State.keeps_settleWindow _))
  exact .of_keeps (.ite (fun _ => held.trans (State.keeps_closeWindowEarly _)) fun _ => held)

theorem State.shows_announced (s : State) (new : DriveState) (asserting : Option Channel) :
    s.Shows ((((s.smokeDriveChange new).lampDriveChange).seeShorts asserting).writeDriveReadings) Component.ofZero :=
  (s.shows_smokeDriveChange new).mono.trans ((State.shows_lampDriveChange _).mono.trans
    ((State.Shows.of_keeps (State.keeps_seeShorts _ _)).mono.trans (State.shows_writeGroup _ _ _ _).mono))

/-- A change between states that are not stopped states raises nothing. -/
theorem State.shows_enterDriveState (s : State) {new : DriveState} (ho : s.drive.state.stopped = false)
    (hn : new.stopped = false) (asserting : Option Channel) :
    s.Shows (s.enterDriveState new asserting) Component.ofZero := by
  by_cases hs : s.drive.state = new
  · rw [show s.enterDriveState new asserting = s from if_pos hs]
    exact .refl _ _
  · rw [s.enterDriveState_eq hs, if_neg (by simp [ho, hn])]
    exact (s.shows_stateTaken new).mono.trans (State.shows_announced _ _ _)

/-- A change to or from a stopped state raises DRIVE (R44). -/
theorem State.enterDriveState_attends {new : DriveState} (hs : s.drive.state ≠ new)
    (h : s.drive.state.stopped = true ∨ new.stopped = true) (asserting : Option Channel) :
    (s.enterDriveState new asserting).AttendsAs (s.raise .drive) := by
  rw [s.enterDriveState_eq hs, if_pos h]
  exact ((State.AttendsAs.of_shows (s.shows_stateTaken new)).raise .drive).trans
    (.of_shows (State.shows_announced _ _ _))

theorem State.shows_setDirection (s : State) (dir : Direction) : s.Shows (s.setDirection dir) [.drive, .lamps] :=
  .of_keeps (s.keeps_setDirection dir)

/-- What R = 0 brings raises nothing. -/
theorem State.shows_reachedZero (s : State) : s.Shows s.reachedZero Component.ofZero := by
  by_cases hr : s.drive.ramp = 0
  · cases hs : s.drive.state
    case reversing =>
      have state := (s.driveSame_setDirection s.drive.target.direction).same .state
      rw [s.reachedZero_reversing hr hs]
      refine (s.shows_setDirection _).mono.trans (State.shows_enterDriveState _ (by rw [state, hs]; rfl) ?_ _)
      split <;> rfl
    case running =>
      rw [s.reachedZero_running hr hs]
      exact .ite (fun _ => s.shows_enterDriveState (by rw [hs]; rfl) rfl _) fun _ => .refl _ _
    all_goals
      rw [s.reachedZero_stays (.inr (by simp [hs]))]
      exact .refl _ _
  · rw [s.reachedZero_stays (.inl hr)]
    exact .refl _ _

/-- Outside mode OFF settling the drive raises nothing and brings no chuff. -/
theorem State.shows_settleDrive (h : s.drive.profile.momentum ≠ .off) : s.Shows s.settleDrive Component.ofZero := by
  have first : s.followTarget.settleWindow.drive.profile = s.drive.profile :=
    (State.driveSame_settleWindow _).same .profile |>.trans (s.driveSame_followTarget.same .profile)
  have profile : s.followTarget.settleWindow.reachedZero.drive.profile = s.drive.profile :=
    ((State.driveSame_reachedZero _).same .profile).trans first
  exact (State.Shows.of_keeps (s.keeps_followTarget_of_ramp h)).mono.trans
    ((State.Shows.of_keeps (State.keeps_settleWindow _)).mono.trans ((State.shows_reachedZero _).trans
    ((State.Shows.of_keeps (State.keeps_followTarget_of_ramp _ (by rwa [profile]))).mono.trans
    (State.Shows.of_keeps (State.keeps_settleWindow _)).mono)))

/-! ### A ramp that stands still -/

/-- With V 0 the cadence unit holds V 0, and no chuff comes (R84). -/
theorem State.shows_cadenceStep_still (h : s.drive.ramp < 16) : s.Shows s.cadenceStep [.cadence] := by
  have v : s.drive.ramp / 16 = 0 := by omega
  unfold State.cadenceStep
  dsimp only
  split
  · rw [State.recomputeInterval_still _ v]
    exact (State.Shows.of_frame (s.sameExcept_withCadence _)).trans (.of_frame (State.sameExcept_withCadence _ _))
  · exact .of_frame (s.sameExcept_withCadence _)

/-- The cadence unit holds the V of R (R20). -/
theorem State.cadenceStep_heldV (s : State) : s.cadenceStep.cadence.heldV = s.drive.ramp / 16 := by
  unfold State.cadenceStep
  dsimp only
  split
  · unfold State.recomputeInterval
    dsimp only
    split
    · rfl
    · split
      · rw [State.syntheticChuff_cadence]
        rfl
      · rfl
  · rfl

theorem State.shows_zeroRamp (s : State) : s.Shows s.zeroRamp [.drive, .cadence] := by
  unfold State.zeroRamp State.rampMoved
  refine (State.Shows.of_keeps (s.keeps_withDrive _)).mono.trans
    ((State.Shows.of_keeps (State.keeps_refreshDuty _)).mono.trans (State.shows_cadenceStep_still ?_).mono)
  rw [(State.driveSame_refreshDuty _).same .ramp]
  exact Nat.zero_lt_succ _

theorem State.zeroRamp_heldV (s : State) : s.zeroRamp.cadence.heldV = 0 := by
  unfold State.zeroRamp State.rampMoved
  rw [State.cadenceStep_heldV, (State.driveSame_refreshDuty _).same .ramp]
  exact Nat.zero_div 16

end

end Sys2Proof.Machine

/-! ## The ramp's steps -/

namespace Sys2Proof.Machine

-- One proof at a time: proofs that wait for one another would each hold a thread.
set_option Elab.async false

/-! ### A quiesce that the drive cannot end -/

section
variable {s t : State}

/-- Outside RUN no chuff starts a voice (R133). -/
theorem State.cadenceStep_voices (s : State) (hp : s.part ≠ .run) : s.cadenceStep.sound.voices = s.sound.voices := by
  have delivered (u : State) (hu : u.part ≠ .run) : u.deliverChuff.sound.voices = u.sound.voices := by
    unfold State.deliverChuff
    dsimp only
    rw [(State.keeps_smokeChuff _).same .sound]
    have dropped (w : State) (n : Half) (hw : w.part ≠ .run) : (w.soundChuff n).sound.voices = w.sound.voices := by
      rw [w.soundChuff_dropped n hw]
      rfl
    exact dropped _ _ hu
  have recomputed (u : State) (hu : u.part ≠ .run) : u.recomputeInterval.sound.voices = u.sound.voices := by
    unfold State.recomputeInterval State.syntheticChuff
    dsimp only
    split
    · rfl
    · split
      · exact delivered _ hu
      · rfl
  unfold State.cadenceStep
  dsimp only
  split
  · exact recomputed _ hp
  · rfl

theorem State.rampMoved_voices (s : State) (hp : s.part ≠ .run) : s.rampMoved.sound.voices = s.sound.voices :=
  s.refreshDuty.cadenceStep_voices hp

theorem State.followTarget_voices (s : State) (hp : s.part ≠ .run) : s.followTarget.sound.voices = s.sound.voices := by
  unfold State.followTarget State.jumpRamp
  dsimp only
  split
  · split
    · rfl
    · exact State.rampMoved_voices _ hp
  · split <;> rfl

theorem State.settleDrive_voices (s : State) (hp : s.part ≠ .run) : s.settleDrive.sound.voices = s.sound.voices := by
  have part : s.followTarget.settleWindow.reachedZero.part = s.part := by
    rw [(State.keeps_reachedZero _).same .part, (State.keeps_settleWindow _).same .part, s.keeps_followTarget.same .part]
  unfold State.settleDrive
  rw [(State.keeps_settleWindow _).same .sound, State.followTarget_voices _ (by rwa [part]),
    (State.keeps_reachedZero _).same .sound, (State.keeps_settleWindow _).same .sound, s.followTarget_voices hp]

/-- A quiesce that waits for the sound engine, the sequencer or the adoption unit is unfinished, whatever the drive has
done in between. -/
theorem State.QuiesceOpen.unfinished (h : s.QuiesceOpen) (hp : t.part = s.part) (ha : t.acks = s.acks)
    (hv : s.part ≠ .run → t.sound.voices = s.sound.voices) (hd : t.adoption = s.adoption) : t.QuiesceUnfinished := by
  intro hq
  have hs : s.part = .quiescing := hp.symm.trans hq
  have busy : t.sound.anyBusy = s.sound.anyBusy := by
    unfold Sound.anyBusy
    rw [hv (by simp [hs])]
  rw [Bool.eq_false_iff, ne_eq, Acks.all_iff]
  rintro ⟨-, sound, -, sequencer, -, -, adoption⟩
  simp only [State.acksNow, ha, busy, hd] at sound sequencer adoption
  rcases h hs with h | ⟨h, hb⟩ | ⟨h, hv⟩
  · simp [h] at sequencer
  · simp [h, hb] at sound
  · rw [h, Bool.false_or, Option.isNone_iff_eq_none] at adoption
    exact hv adoption

end

/-! ### One step -/

/-- A step of the ramp moves R toward T, never past it (R8, R10, R11). -/
theorem rampStepFrom_eq (p : DriveProfile) (ramp target : Nat) :
    (ramp ≤ target → rampStepFrom p ramp target =
      min target (ramp + stepSize p.momentum p.accelStep (target - ramp))) ∧
    (target ≤ ramp → rampStepFrom p ramp target =
      max target (ramp - stepSize p.momentum p.decelStep (ramp - target))) := by
  unfold rampStepFrom
  refine ⟨fun h => ?_, fun h => ?_⟩ <;> split <;> omega

section
variable (s : State)

/-- R after its step, with the stepping direction and the timer that follow (R9). -/
def State.rampStepped : State :=
  let r := rampStepFrom s.drive.profile s.drive.ramp s.effectiveTarget
  s.withDrive { s.drive with
    ramp := r
    stepDir := stepDirection r s.effectiveTarget
    rampTimer := s.rampInterval (stepDirection r s.effectiveTarget) }

theorem State.driveSame_rampStepped : s.DriveSame s.rampStepped [.ramp, .stepDir, .rampTimer] :=
  s.drive.sameBut_ramp _ _ _

/-- The drive that has stepped: C and D follow, and the timer and the direction stand. -/
theorem State.rampStepped_moved : s.DriveSame s.rampStepped.rampMoved DriveField.ofRamp ∧
    s.rampStepped.DriveSame s.rampStepped.rampMoved [.channels] ∧
    s.rampStepped.rampMoved.effectiveTarget = s.effectiveTarget := by
  have moved := s.rampStepped.driveSame_rampMoved
  refine ⟨s.driveSame_rampStepped.mono.trans moved.mono, moved, ?_⟩
  rw [State.effectiveTarget_same s.rampStepped.keeps_rampMoved.frame moved]
  exact State.effectiveTarget_same (s.sameExcept_withDrive _) s.driveSame_rampStepped

/-- The settled drive of a state whose quiesce is open: the quiesce goes on. -/
theorem State.QuiesceOpen.settled {s u : State} {l : List Component} (hq : s.QuiesceOpen) (frame : s.SameExcept u l)
    (hv : s.part ≠ .run → u.sound.voices = s.sound.voices)
    (hl : .part ∉ l ∧ .acks ∉ l ∧ .adoption ∉ l := by decide) :
    ∃ a, u.settleDrive.settleQuiesce = u.settleDrive.withAcks a ∧ (s.part ≠ .quiescing → a = s.acks) := by
  have part : u.part = s.part := frame .part hl.1
  have acks : u.settleDrive.acks = s.acks := (u.keeps_settleDrive.same .acks).trans (frame .acks hl.2.1)
  have unfinished : u.settleDrive.QuiesceUnfinished :=
    hq.unfinished ((u.keeps_settleDrive.same .part).trans part) acks
      (fun hp => (u.settleDrive_voices (by rwa [part])).trans (hv hp))
      ((u.keeps_settleDrive.same .adoption).trans (frame .adoption hl.2.2))
  obtain ⟨a, settled, standing⟩ := State.settleQuiesce_withAcks unfinished
  exact ⟨a, settled, fun hp => (standing (by rwa [u.keeps_settleDrive.same .part, part])).trans acks⟩

/-- RAMP_STEP answers the settled drive; a quiesce that is open goes on. -/
theorem exec_rampStep (hrun : s.drive.rampTimer.isRunning = true) (hq : s.QuiesceOpen) :
    ∃ a, exec .rampStep s = .next (s.rampStepped.rampMoved.settleDrive.withAcks a) := by
  have taken : exec .rampStep s = .next s.rampStepped.rampMoved.settleDrive.settleQuiesce := by
    show execRampStep s = _
    unfold execRampStep
    rw [if_pos hrun]
    rfl
  have frame : s.SameExcept s.rampStepped Component.ofDrive := State.sameExcept_mono (s.sameExcept_withDrive _) (by decide)
  have sound : s.rampStepped.sound = s.sound := rfl
  have part : s.rampStepped.part = s.part := rfl
  rw [taken]
  generalize s.rampStepped = u at frame sound part
  obtain ⟨a, settled, -⟩ := hq.settled (State.sameExcept_trans frame u.keeps_rampMoved.frame)
    fun hp => (u.rampMoved_voices (by rwa [part])).trans (by rw [sound])
  exact ⟨a, by rw [settled]⟩

/-- A drive that steps on toward T with R above 0 is left alone but for its window. -/
theorem State.settleDrive_still (h : s.drive.profile.momentum ≠ .off)
    (hd : s.drive.stepDir = stepDirection s.drive.ramp s.effectiveTarget) (hr : s.drive.ramp ≠ 0) :
    s.settleDrive = s.settleWindow.settleWindow := by
  have window := s.driveSame_settleWindow
  have target : s.settleWindow.effectiveTarget = s.effectiveTarget :=
    State.effectiveTarget_same s.keeps_settleWindow.frame window
  have stays : s.settleWindow.reachedZero = s.settleWindow :=
    State.reachedZero_stays _ (.inl (by rwa [window.same .ramp]))
  unfold State.settleDrive
  rw [s.followTarget_still h hd, stays, State.followTarget_still _ (by rwa [window.same .profile])
    (by rw [window.same .stepDir, window.same .ramp, target]; exact hd)]

/-- While R stays above 0 the drive that has stepped steps on as it did (R9). -/
theorem State.rampStepped_still (hoff : s.drive.profile.momentum ≠ .off)
    (hr : s.rampStepped.rampMoved.settleDrive.drive.ramp ≠ 0) :
    s.rampStepped.DriveSame s.rampStepped.rampMoved.settleDrive [.channels, .periodTimer] := by
  obtain ⟨moved, stepped, target⟩ := s.rampStepped_moved
  have dir : s.rampStepped.drive.stepDir = stepDirection s.rampStepped.drive.ramp s.effectiveTarget := rfl
  generalize s.rampStepped.rampMoved = v at *
  have momentum : v.drive.profile.momentum ≠ .off := by rwa [moved.same .profile]
  rw [v.settleDrive_ramp momentum] at hr
  rw [v.settleDrive_still momentum (by rw [stepped.same .stepDir, stepped.same .ramp, target, dir]) hr]
  exact stepped.mono.trans ((State.driveSame_settleWindow _).mono.trans (State.driveSame_settleWindow _).mono)

end

/-- Settles O3: the step by the momentum mode; with R above 0 the settled drive steps on as it did. -/
theorem rampStepMovesTowardTarget : Obligations.RampStepMovesTowardTarget := by
  intro s hrun hoff hq
  obtain ⟨a, taken⟩ := exec_rampStep s hrun hq
  obtain ⟨moved, stepped, target⟩ := s.rampStepped_moved
  have momentum : s.rampStepped.rampMoved.drive.profile.momentum ≠ .off := by rwa [moved.same .profile]
  have ramp : s.rampStepped.rampMoved.settleDrive.drive.ramp =
      rampStepFrom s.drive.profile s.drive.ramp s.effectiveTarget :=
    (State.settleDrive_ramp _ momentum).trans (stepped.same .ramp)
  have settled := moved.mono.trans s.rampStepped.rampMoved.driveSame_settleDrive
  have held : s.rampStepped.rampMoved.settleDrive.cadence.heldV = s.rampStepped.rampMoved.settleDrive.drive.ramp / 16 := by
    rw [ramp, (State.shows_settleDrive momentum).same .cadence]
    exact (State.cadenceStep_heldV _).trans (by rw [(State.driveSame_refreshDuty _).same .ramp]; rfl)
  have formed : s.rampStepped.rampMoved.settleDrive.DutyFormed := (State.dutyFormed_rampMoved _).settleDrive
  have frame : s.SameExcept s.rampStepped.rampMoved.settleDrive Component.ofDrive :=
    ((s.keeps_withDrive _).mono.trans ((State.keeps_rampMoved _).trans (State.keeps_settleDrive _))).frame
  have still := s.rampStepped_still hoff
  obtain ⟨up, down⟩ := rampStepFrom_eq s.drive.profile s.drive.ramp s.effectiveTarget
  generalize s.rampStepped.rampMoved.settleDrive = t at *
  refine ⟨_, taken, fun hm => ?_, fun hm => ?_, formed, held, settled.same .target, settled.settings, fun hr => ?_,
    State.sameExcept_trans (State.sameExcept_mono frame (by decide)) (State.sameExcept_mono (t.sameExcept_withAcks a) (by decide))⟩
  · rw [hm] at up down
    exact ⟨fun h => ramp.trans (up h), fun h => ramp.trans (down h)⟩
  · rw [hm] at up down
    exact ⟨fun h => ramp.trans (up h), fun h => ramp.trans (down h)⟩
  · have all := s.driveSame_rampStepped.mono (m := .periodTimer :: DriveField.ofRamp) |>.trans (still hr).mono
    have dir : t.drive.stepDir = stepDirection t.drive.ramp s.effectiveTarget := by
      rw [(still hr).same .stepDir, ramp]
      rfl
    have timer : t.drive.rampTimer = s.rampInterval t.drive.stepDir := by
      rw [(still hr).same .rampTimer, (still hr).same .stepDir]
      rfl
    simp only [State.withAcks_drive, timer, dir, stepDirection]
    refine ⟨all.same .state, all.same .direction, fun h => ?_, fun h => ?_, fun h => ?_⟩
    · rw [if_pos h]
      exact ⟨rfl, rfl⟩
    · rw [if_neg (not_lt_of_gt h), if_pos h]
      exact ⟨rfl, rfl⟩
    · rw [h, if_neg (lt_irrefl _), if_neg (lt_irrefl _)]
      exact ⟨rfl, rfl⟩

/-- Settles O4: the drive that has stepped to 0 is settled by its state. -/
theorem rampReachingZeroEndsReversalOrRun : Obligations.RampReachingZeroEndsReversalOrRun := by
  intro s hrun hoff hq hz
  obtain ⟨a, taken⟩ := exec_rampStep s hrun hq
  obtain ⟨moved, stepped, -⟩ := s.rampStepped_moved
  have momentum : s.rampStepped.rampMoved.drive.profile.momentum ≠ .off := by rwa [moved.same .profile]
  have ramp : s.rampStepped.rampMoved.settleDrive.drive.ramp = 0 :=
    (State.settleDrive_ramp _ momentum).trans ((stepped.same .ramp).trans hz)
  have followed : s.rampStepped.rampMoved.followedRamp = 0 := (if_neg momentum).trans ((stepped.same .ramp).trans hz)
  have settled := moved.mono.trans s.rampStepped.rampMoved.driveSame_settleDrive
  have formed : s.rampStepped.rampMoved.settleDrive.DutyFormed := (State.dutyFormed_rampMoved _).settleDrive
  obtain ⟨stays, reached⟩ := s.rampStepped.rampMoved.settleDrive_state
  obtain ⟨turned, kept, ended⟩ := reached followed
  have state : s.rampStepped.rampMoved.drive.state = s.drive.state := moved.same .state
  have direction : s.rampStepped.rampMoved.drive.direction = s.drive.direction := moved.same .direction
  have tgt : s.rampStepped.rampMoved.drive.target = s.drive.target := moved.same .target
  rw [state, direction] at stays kept
  rw [state, tgt] at turned ended
  generalize s.rampStepped.rampMoved.settleDrive = t at *
  refine ⟨_, taken, ramp, fun hs => ⟨turned hs, ended (.inl hs), fun c => ?_⟩, fun hs => ⟨kept (by simp [hs]), ended (.inr hs)⟩,
    fun hs hs' => (stays (.inr ⟨hs, hs'⟩)).symm, settled.same .target, settled.settings⟩
  obtain ⟨command, cleared, -⟩ := formed c
  exact cleared (command.trans (trimCommand_eq_zero _ _ (.inr (by rw [ramp]; omega))))

end Sys2Proof.Machine

/-! ## Target writes -/

namespace Sys2Proof.Machine

-- One proof at a time: proofs that wait for one another would each hold a thread.
set_option Elab.async false

section
variable (s : State)

/-- In a state that R = 0 does not end, settling the drive changes its ramp, its duties and its window timer at most. -/
theorem State.driveSame_settleDrive_of_resting (h : s.drive.state ≠ .reversing ∧ s.drive.state ≠ .running) :
    s.DriveSame s.settleDrive (.periodTimer :: DriveField.ofRamp) := by
  have followed := s.driveSame_followTarget.mono (m := .periodTimer :: DriveField.ofRamp)
    |>.trans (State.driveSame_settleWindow _).mono
  unfold State.settleDrive
  rw [State.reachedZero_stays _ (.inr (by rwa [followed.same .state]))]
  exact followed.trans ((State.driveSame_followTarget _).mono.trans (State.driveSame_settleWindow _).mono)

/-- The stored target. -/
def State.aimed (m : Nat) (dir : Direction) (src : Source) : State := s.withDrive { s.drive with target := ⟨m, dir, src⟩ }

/-- What a target write changes of the drive before it is settled. -/
abbrev DriveField.ofTarget : List DriveField := .target :: .tripCount :: DriveField.ofZero

theorem State.driveSame_aimed (m : Nat) (dir : Direction) (src : Source) :
    s.DriveSame (s.aimed m dir src) [.target] := by
  intro f hf
  cases f <;> first | rfl | exact absurd hf (by decide)

/-- The drive a HALTED or LOCKED drive becomes by a write of magnitude 0 (R30, R34). -/
def State.released (dir : Direction) (src : Source) : State :=
  let u := s.aimed 0 dir src
  ((if s.drive.state = .locked then u.withDrive { u.drive with tripCount := 0 } else u).setDirection dir).enterDriveState .idle

/-- The drive an IDLE, RUNNING or REVERSING drive becomes by a write, before it is settled (R24 to R28). -/
def State.directed (m : Nat) (dir : Direction) (src : Source) : State :=
  let u := s.aimed m dir src
  match s.drive.state with
  | .idle => if m = 0 then u.setDirection dir else (u.setDirection dir).enterDriveState .running
  | .running =>
    if dir = u.drive.direction then u
    else if u.drive.ramp = 0 then u.setDirection dir else u.enterDriveState .reversing
  | .reversing => if dir = u.drive.direction then u.enterDriveState .running else u
  | .halted | .tripped | .locked => u

theorem State.directed_idle (m : Nat) (dir : Direction) (src : Source) (h : s.drive.state = .idle) :
    s.directed m dir src = if m = 0 then (s.aimed m dir src).setDirection dir
      else ((s.aimed m dir src).setDirection dir).enterDriveState .running := by
  unfold State.directed
  split <;> rename_i hx
  case h_1 => rfl
  all_goals cases hx.symm.trans h

theorem State.directed_running (m : Nat) (dir : Direction) (src : Source) (h : s.drive.state = .running) :
    s.directed m dir src = if dir = (s.aimed m dir src).drive.direction then s.aimed m dir src
      else if (s.aimed m dir src).drive.ramp = 0 then (s.aimed m dir src).setDirection dir
      else (s.aimed m dir src).enterDriveState .reversing := by
  unfold State.directed
  split <;> rename_i hx
  case h_2 => rfl
  all_goals cases hx.symm.trans h

theorem State.directed_reversing (m : Nat) (dir : Direction) (src : Source) (h : s.drive.state = .reversing) :
    s.directed m dir src = if dir = (s.aimed m dir src).drive.direction then (s.aimed m dir src).enterDriveState .running
      else s.aimed m dir src := by
  unfold State.directed
  split <;> rename_i hx
  case h_3 => rfl
  all_goals cases hx.symm.trans h

/-- A target write by the drive's state. -/
theorem State.writeTarget_eq (m : Nat) (dir : Direction) (src : Source) :
    (s.drive.state = .halted → 0 < m → s.writeTarget m dir src = s) ∧
    (s.drive.state = .tripped ∨ s.drive.state = .locked ∧ 0 < m → s.writeTarget m dir src = s.aimed m dir src) ∧
    (s.drive.state = .halted ∨ s.drive.state = .locked → m = 0 →
      s.writeTarget m dir src = (s.released dir src).settleDrive) ∧
    (s.drive.state = .idle ∨ s.drive.state = .running ∨ s.drive.state = .reversing →
      s.writeTarget m dir src = (s.directed m dir src).settleDrive) := by
  unfold State.writeTarget State.released
  dsimp only
  refine ⟨fun hs hm => ?_, fun hs => ?_, fun hs hm => ?_, fun hs => ?_⟩
  · split <;> rename_i h
    case h_1 => exact if_neg (by omega)
    all_goals simp [h] at hs
  · split <;> rename_i h
    case h_2 =>
      have hm : 0 < m := by simpa [h] using hs
      exact if_neg (by omega)
    case h_3 => rfl
    all_goals simp [h] at hs
  · split <;> rename_i h
    case h_1 =>
      rw [if_pos hm, if_neg (by simp [h]), hm]
      rfl
    case h_2 =>
      rw [if_pos hm, if_pos h, hm]
      rfl
    all_goals simp [h] at hs
  · split <;> rename_i h
    case h_4 => rw [s.directed_idle m dir src h]; rfl
    case h_5 => rw [s.directed_running m dir src h]; rfl
    case h_6 => rw [s.directed_reversing m dir src h]; rfl
    all_goals simp [h] at hs

theorem State.driveSame_released (dir : Direction) (src : Source) :
    s.DriveSame (s.released dir src) DriveField.ofTarget := by
  have forgiven (u : State) : u.DriveSame (u.withDrive { u.drive with tripCount := 0 }) DriveField.ofTarget := by
    intro f hf
    cases f <;> first | rfl | exact absurd hf (by decide)
  exact (s.driveSame_aimed 0 dir src).mono.trans
    ((State.DriveSame.ite (fun _ => forgiven _) fun _ => .refl _ _).trans
    ((State.driveSame_setDirection _ _).mono.trans (State.driveSame_enterDriveState _ _ _).mono))

theorem State.driveSame_directed (m : Nat) (dir : Direction) (src : Source) :
    s.DriveSame (s.directed m dir src) (.target :: DriveField.ofZero) := by
  refine (s.driveSame_aimed m dir src).mono.trans ?_
  have turned (u : State) : u.DriveSame (u.setDirection dir) (.target :: DriveField.ofZero) :=
    (u.driveSame_setDirection dir).mono
  have entered (u : State) (x : DriveState) : u.DriveSame (u.enterDriveState x) (.target :: DriveField.ofZero) :=
    (u.driveSame_enterDriveState x none).mono
  unfold State.directed
  dsimp only
  split
  · exact State.DriveSame.ite (fun _ => turned _) fun _ => (turned _).trans (entered _ _)
  · exact State.DriveSame.ite (fun _ => .refl _ _) fun _ => State.DriveSame.ite (fun _ => turned _) fun _ => entered _ _
  · exact State.DriveSame.ite (fun _ => entered _ _) fun _ => .refl _ _
  all_goals exact .refl _ _

/-- A drive that is released is IDLE, with the direction asked for, and DRIVE is raised (R30, R34, R44). -/
theorem State.released_eq (dir : Direction) (src : Source) (hs : s.drive.state = .halted ∨ s.drive.state = .locked) :
    (s.released dir src).drive.state = .idle ∧ (s.released dir src).drive.direction = dir ∧
      (s.released dir src).drive.target = ⟨0, dir, src⟩ ∧
      (s.released dir src).drive.tripCount = (if s.drive.state = .locked then 0 else s.drive.tripCount) ∧
      (s.released dir src).drive.forgiveTimer = (if s.drive.state = .halted ∧ 0 < s.drive.tripCount
        then .running (millis s.time + hundredMillis s.drive.profile.forgive) else s.drive.forgiveTimer) ∧
      (s.released dir src).AttendsAs (s.raise .drive) ∧
      s.SameExcept (s.released dir src) [.drive, .smoke, .lamps, .store, .attention] := by
  generalize hu : (if s.drive.state = .locked
    then (s.aimed 0 dir src).withDrive { (s.aimed 0 dir src).drive with tripCount := 0 } else s.aimed 0 dir src) = u
  have e : s.released dir src = (u.setDirection dir).enterDriveState .idle := by rw [← hu]; rfl
  have frame : s.Keeps u [.drive] := by
    rw [← hu]
    exact .ite (fun _ => (s.keeps_withDrive _).trans (State.keeps_withDrive _ _)) fun _ => s.keeps_withDrive _
  have same : s.DriveSame u [.target, .tripCount] := by
    have forgiven (u : State) : u.DriveSame (u.withDrive { u.drive with tripCount := 0 }) [.target, .tripCount] := by
      intro f hf
      cases f <;> first | rfl | exact absurd hf (by decide)
    rw [← hu]
    exact (s.driveSame_aimed 0 dir src).mono.trans (State.DriveSame.ite (fun _ => forgiven _) fun _ => .refl _ _)
  have target : u.drive.target = ⟨0, dir, src⟩ := by
    rw [← hu]
    split <;> rfl
  have trips : u.drive.tripCount = if s.drive.state = .locked then 0 else s.drive.tripCount := by
    rw [← hu]
    split <;> rfl
  have turned := u.driveSame_setDirection dir
  have entered := (u.setDirection dir).driveSame_enterDriveState .idle none
  have stopped : s.drive.state.stopped = true := by rcases hs with hs | hs <;> rw [hs] <;> rfl
  have was : (u.setDirection dir).drive.state = s.drive.state := (turned.same .state).trans (same.same .state)
  have changes : (u.setDirection dir).drive.state ≠ .idle := by
    rw [was]
    rintro h
    rw [h] at stopped
    cases stopped
  rw [e]
  refine ⟨State.enterDriveState_state _ _ _, (entered.same .direction).trans (u.setDirection_direction dir),
    (entered.same .target).trans ((turned.same .target).trans target),
    (entered.same .tripCount).trans ((turned.same .tripCount).trans trips), ?_, ?_, ?_⟩
  · have time : (u.setDirection dir).time = s.time := ((u.keeps_setDirection dir).same .time).trans (frame.same .time)
    rw [State.enterDriveState_forgive _ changes, State.forgiveAfter, was, turned.same .tripCount, turned.same .forgiveTimer,
      turned.same .profile, same.same .forgiveTimer, same.same .profile, trips, State.startTimer, time, stopped]
    rcases hs with hs | hs <;> simp [hs, DriveState.stopped]
  · exact (((State.AttendsAs.of_keeps frame).trans (.of_shows (u.shows_setDirection dir))).raise .drive).trans
      (State.enterDriveState_attends changes (.inl (by rw [was]; exact stopped)) none)
  · exact (frame.mono.trans ((u.keeps_setDirection dir).mono.trans (State.keeps_enterDriveState _ _ _))).frame

/-- The state, the direction and the target of a drive that has been directed (R24 to R28). -/
theorem State.directed_eq (m : Nat) (dir : Direction) (src : Source) :
    (s.directed m dir src).drive.target = ⟨m, dir, src⟩ ∧
    (s.drive.state = .idle → (s.directed m dir src).drive.direction = dir ∧
      (s.directed m dir src).drive.state = if m = 0 then .idle else .running) ∧
    (s.drive.state = .running → s.drive.ramp = 0 →
      (s.directed m dir src).drive.direction = dir ∧ (s.directed m dir src).drive.state = .running) ∧
    (s.drive.state = .running ∨ s.drive.state = .reversing → s.drive.ramp ≠ 0 →
      (s.directed m dir src).drive.direction = s.drive.direction ∧
      (s.directed m dir src).drive.state = if dir = s.drive.direction then .running else .reversing) ∧
    s.Shows (s.directed m dir src) Component.ofZero := by
  have state : (s.aimed m dir src).drive.state = s.drive.state := rfl
  have turned := (s.aimed m dir src).driveSame_setDirection dir
  have direction := (s.aimed m dir src).setDirection_direction dir
  have entered (u : State) (x : DriveState) := u.driveSame_enterDriveState x none
  have aimed : s.Shows (s.aimed m dir src) Component.ofZero := (State.Shows.of_keeps (s.keeps_withDrive _)).mono
  have shown := aimed.trans ((s.aimed m dir src).shows_setDirection dir).mono
  have dirIs : (s.aimed m dir src).drive.direction = s.drive.direction := rfl
  have rampIs : (s.aimed m dir src).drive.ramp = s.drive.ramp := rfl
  refine ⟨?_, fun hs => ?_, fun hs hr => ?_, fun hs hr => ?_, ?_⟩
  · unfold State.directed
    dsimp only
    split
    · split
      · exact turned.same .target
      · exact ((entered _ _).same .target).trans (turned.same .target)
    · split
      · rfl
      · split
        · exact turned.same .target
        · exact (entered _ _).same .target
    · split
      · exact (entered _ _).same .target
      · rfl
    all_goals rfl
  · rw [s.directed_idle m dir src hs]
    split
    · exact ⟨direction, (turned.same .state).trans hs⟩
    · exact ⟨((entered _ _).same .direction).trans direction, State.enterDriveState_state _ _ _⟩
  · rw [s.directed_running m dir src hs, rampIs, dirIs]
    split
    · exact ⟨(‹dir = _›).symm, hs⟩
    · exact ⟨direction, (turned.same .state).trans hs⟩
  · rcases hs with hs | hs
    · rw [s.directed_running m dir src hs, rampIs, dirIs]
      by_cases hd : dir = s.drive.direction
      · rw [if_pos hd, if_pos hd]
        exact ⟨rfl, hs⟩
      · rw [if_neg hd, if_neg hd, if_neg hr]
        exact ⟨(entered _ _).same .direction, State.enterDriveState_state _ _ _⟩
    · rw [s.directed_reversing m dir src hs, dirIs]
      by_cases hd : dir = s.drive.direction
      · rw [if_pos hd, if_pos hd]
        exact ⟨(entered _ _).same .direction, State.enterDriveState_state _ _ _⟩
      · rw [if_neg hd, if_neg hd]
        exact ⟨rfl, hs⟩
  · unfold State.directed
    dsimp only
    split
    · refine .ite (fun _ => shown) fun _ => shown.trans (State.shows_enterDriveState _ ?_ rfl _)
      rw [turned.same .state, state, ‹s.drive.state = _›]
      rfl
    · exact .ite (fun _ => aimed) fun _ => .ite (fun _ => shown) fun _ =>
        aimed.trans (State.shows_enterDriveState _ (by rw [state, ‹s.drive.state = _›]; rfl) rfl _)
    · exact .ite (fun _ => aimed.trans (State.shows_enterDriveState _ (by rw [state, ‹s.drive.state = _›]; rfl) rfl _))
        fun _ => aimed
    all_goals exact aimed

/-- T is 0 in REVERSING and IDLE. -/
theorem State.effectiveTarget_of_reversing (h : s.drive.state = .reversing ∨ s.drive.state = .idle) :
    s.effectiveTarget = 0 := by
  rcases h with h | h <;> simp [State.effectiveTarget, h]

/-- A HALTED or LOCKED drive that is asked for no speed. -/
theorem State.writeTarget_released (dir : Direction) (src : Source) (hs : s.drive.state = .halted ∨ s.drive.state = .locked) :
    let t := s.writeTarget 0 dir src
    t.drive.state = .idle ∧ t.drive.direction = dir ∧
      (s.drive.profile.momentum ≠ .off → t.attention = (s.raise .drive).attention) ∧
      t.drive.tripCount = (if s.drive.state = .locked then 0 else s.drive.tripCount) ∧
      t.drive.forgiveTimer = (if s.drive.state = .halted ∧ 0 < s.drive.tripCount
        then .running (millis s.time + hundredMillis s.drive.profile.forgive) else s.drive.forgiveTimer) := by
  intro t
  obtain ⟨-, -, released, -⟩ := s.writeTarget_eq 0 dir src
  obtain ⟨state, direction, -, trips, forgive, attends, -⟩ := s.released_eq dir src hs
  have profile := (s.driveSame_released dir src).same .profile
  have settled := (s.released dir src).driveSame_settleDrive_of_resting (by rw [state]; decide)
  have ht : t = (s.released dir src).settleDrive := released hs rfl
  rw [ht]
  refine ⟨(settled.same .state).trans state, (settled.same .direction).trans direction, fun hoff => ?_,
    (settled.same .tripCount).trans trips, (settled.same .forgiveTimer).trans forgive⟩
  obtain ⟨-, -, -, attention⟩ := attends
  rw [(State.shows_settleDrive (by rwa [profile])).same .attention, attention]

/-- A drive that is IDLE, RUNNING or REVERSING, by what the write directs and the R that following T leaves. -/
theorem State.writeTarget_directed (m : Nat) (dir : Direction) (src : Source)
    (hs : s.drive.state = .idle ∨ s.drive.state = .running ∨ s.drive.state = .reversing) :
    let t := s.writeTarget m dir src
    let off := s.drive.profile.momentum = .off
    (s.drive.state = .idle → t.drive.direction = dir ∧ t.drive.state = (if m = 0 then .idle else .running)) ∧
    (s.drive.state = .running → s.drive.ramp = 0 →
      t.drive.direction = dir ∧ t.drive.state = (if m = 0 then .idle else .running)) ∧
    (s.drive.state = .running ∨ s.drive.state = .reversing → s.drive.ramp ≠ 0 → ¬ off →
      t.drive.direction = s.drive.direction ∧ t.drive.state = (if dir = s.drive.direction then .running else .reversing)) ∧
    (s.drive.state = .running ∨ s.drive.state = .reversing → s.drive.ramp ≠ 0 → off → dir ≠ s.drive.direction →
      t.drive.direction = dir ∧ t.drive.state = (if m = 0 then .idle else .running)) := by
  intro t off
  obtain ⟨-, -, -, directed⟩ := s.writeTarget_eq m dir src
  obtain ⟨target, idle, still, moving, -⟩ := s.directed_eq m dir src
  have same := s.driveSame_directed m dir src
  obtain ⟨stays, reached⟩ := (s.directed m dir src).settleDrive_state
  have follows (h : ¬ off) : (s.directed m dir src).followedRamp = s.drive.ramp := by
    rw [State.followedRamp, if_neg (by rwa [same.same .profile]), same.same .ramp]
  have jumps (h : off) : (s.directed m dir src).followedRamp = (s.directed m dir src).effectiveTarget := by
    rw [State.followedRamp, if_pos (by rwa [same.same .profile])]
  have ht : t = (s.directed m dir src).settleDrive := directed hs
  rw [ht]
  generalize s.directed m dir src = u at *
  rw [target] at reached
  have runs (hd : u.drive.direction = dir) (hu : u.drive.state = .running) (hm : u.followedRamp ≠ 0 → m ≠ 0) :
      u.settleDrive.drive.direction = dir ∧ u.settleDrive.drive.state = (if m = 0 then .idle else .running) := by
    by_cases hr : u.followedRamp = 0
    · obtain ⟨-, kept, ended⟩ := reached hr
      exact ⟨(kept (by rw [hu]; decide)).trans hd, ended (.inr hu)⟩
    · obtain ⟨state, direction⟩ := stays (.inl hr)
      rw [if_neg (hm hr)]
      exact ⟨direction.trans hd, state.trans hu⟩
  refine ⟨fun h => ?_, fun h hr => ?_, fun h hr ho => ?_, fun h hr ho hd => ?_⟩
  · obtain ⟨direction, state⟩ := idle h
    split at state
    · obtain ⟨state', direction'⟩ := stays (.inr (by rw [state]; decide))
      rw [if_pos ‹_›]
      exact ⟨direction'.trans direction, state'.trans state⟩
    · exact runs direction state fun _ => ‹_›
  · obtain ⟨direction, state⟩ := still h hr
    refine runs direction state fun hf hm => hf ?_
    by_cases ho : off
    · rw [jumps ho]
      unfold State.effectiveTarget
      simp [target, hm]
    · rw [follows ho, hr]
  · obtain ⟨direction, state⟩ := moving h hr
    obtain ⟨state', direction'⟩ := stays (.inl (by rwa [follows ho]))
    exact ⟨direction'.trans direction, state'.trans state⟩
  · obtain ⟨-, state⟩ := moving h hr
    rw [if_neg hd] at state
    obtain ⟨turned, -, ended⟩ := reached (by rw [jumps ho, State.effectiveTarget_of_reversing u (.inl state)])
    exact ⟨turned state, ended (.inl state)⟩

/-- What a target write leaves as it was. -/
theorem State.writeTarget_kept (m : Nat) (dir : Direction) (src : Source) :
    let t := s.writeTarget m dir src
    s.DriveSame t (.target :: .tripCount :: DriveField.ofSettle) ∧
      (¬ (s.drive.state = .halted ∧ 0 < m) → t.drive.target = ⟨m, dir, src⟩) ∧
      (s.drive.profile.momentum ≠ .off → t.drive.ramp = s.drive.ramp ∧ t.events = s.events ∧
        s.SameExcept t [.drive, .cadence, .smoke, .lamps, .store, .attention]) := by
  intro t
  obtain ⟨refused, stored, released, directed⟩ := s.writeTarget_eq m dir src
  have settled (u : State) (hu : s.DriveSame u DriveField.ofTarget) (target : u.drive.target = ⟨m, dir, src⟩)
      (frame : s.SameExcept u [.drive, .smoke, .lamps, .store, .attention]) (ht : t = u.settleDrive) :
      s.DriveSame t (.target :: .tripCount :: DriveField.ofSettle) ∧
      (¬ (s.drive.state = .halted ∧ 0 < m) → t.drive.target = ⟨m, dir, src⟩) ∧
      (s.drive.profile.momentum ≠ .off → t.drive.ramp = s.drive.ramp ∧ t.events = s.events ∧
        s.SameExcept t [.drive, .cadence, .smoke, .lamps, .store, .attention]) := by
    rw [ht]
    refine ⟨hu.mono.trans u.driveSame_settleDrive.mono, fun _ => (u.driveSame_settleDrive.same .target).trans target,
      fun hoff => ?_⟩
    have momentum : u.drive.profile.momentum ≠ .off := by rwa [hu.same .profile]
    have shown := State.shows_settleDrive momentum
    exact ⟨(u.settleDrive_ramp momentum).trans (hu.same .ramp), (shown.same .events).trans (frame .events (by decide)),
      State.sameExcept_trans (State.sameExcept_mono frame (by decide)) (State.sameExcept_mono shown.1 (by decide))⟩
  have aimed : s.DriveSame (s.aimed m dir src) (.target :: .tripCount :: DriveField.ofSettle) ∧
      (¬ (s.drive.state = .halted ∧ 0 < m) → (s.aimed m dir src).drive.target = ⟨m, dir, src⟩) ∧
      (s.drive.profile.momentum ≠ .off → (s.aimed m dir src).drive.ramp = s.drive.ramp ∧
        (s.aimed m dir src).events = s.events ∧
        s.SameExcept (s.aimed m dir src) [.drive, .cadence, .smoke, .lamps, .store, .attention]) :=
    ⟨(s.driveSame_aimed m dir src).mono, fun _ => rfl,
      fun _ => ⟨rfl, rfl, State.sameExcept_mono (s.sameExcept_withDrive _) (by decide)⟩⟩
  have walks (h : s.drive.state = .idle ∨ s.drive.state = .running ∨ s.drive.state = .reversing) := by
    obtain ⟨target, -, -, -, shown⟩ := s.directed_eq m dir src
    exact settled _ (s.driveSame_directed m dir src).mono target (State.sameExcept_mono shown.1 (by decide)) (directed h)
  have frees (h : s.drive.state = .halted ∨ s.drive.state = .locked) (hm : m = 0) := by
    obtain ⟨-, -, target, -, -, -, frame⟩ := s.released_eq dir src h
    exact settled _ (s.driveSame_released dir src) (by rw [target, hm]) frame (released h hm)
  cases hs : s.drive.state
  case idle => exact hs ▸ walks (.inl hs)
  case running => exact hs ▸ walks (.inr (.inl hs))
  case reversing => exact hs ▸ walks (.inr (.inr hs))
  case tripped => rw [show t = _ from stored (.inl hs)]; exact hs ▸ aimed
  case halted =>
    by_cases hm : m = 0
    · exact hs ▸ frees (.inl hs) hm
    · rw [show t = s from refused hs (by omega)]
      exact ⟨.refl _ _, fun h => absurd ⟨rfl, by omega⟩ h, fun _ => ⟨rfl, rfl, s.sameExcept_refl _⟩⟩
  case locked =>
    by_cases hm : m = 0
    · exact hs ▸ frees (.inr hs) hm
    · rw [show t = _ from stored (.inr ⟨hs, by omega⟩)]
      exact hs ▸ aimed

end

/-- Settles O5: by the drive's state, with the frame in common. -/
theorem targetWriteByDriveState : Obligations.TargetWriteByDriveState := by
  intro s m dir src t off
  obtain ⟨refused, stored, -, -⟩ := s.writeTarget_eq m dir src
  obtain ⟨same, target, still⟩ := s.writeTarget_kept m dir src
  refine ⟨refused, target, stored, fun hs hm => ?_, fun hs => ?_, fun hs => ?_, fun hs => ?_, fun hs => ?_, same.same .haltSource,
    still, (s.keeps_writeTarget m dir src).frame⟩
  · subst hm
    exact s.writeTarget_released dir src hs
  · exact (s.writeTarget_directed m dir src (.inl hs)).1 hs
  · exact (s.writeTarget_directed m dir src (.inr (.inl hs))).2.1 hs
  · exact (s.writeTarget_directed m dir src (.inr hs)).2.2.1 hs
  · exact (s.writeTarget_directed m dir src (.inr hs)).2.2.2 hs

end Sys2Proof.Machine

/-! ## Halts, trips, retries, and the protection level -/

namespace Sys2Proof.Machine

-- One proof at a time: proofs that wait for one another would each hold a thread.
set_option Elab.async false

section
variable (s : State)

/-! ### A drive brought to rest -/

/-- R brought to 0 at once, with the integrals and the corrections (R8, R16). -/
def State.stilled : State := s.zeroRamp.clearIntegrals

theorem State.driveSame_stilled : s.DriveSame s.stilled DriveField.ofRamp :=
  s.driveSame_zeroRamp.trans (State.driveSame_clearIntegrals _).mono

theorem State.shows_stilled : s.Shows s.stilled [.drive, .cadence] :=
  s.shows_zeroRamp.trans (State.Shows.of_keeps (State.keeps_clearIntegrals _)).mono

theorem State.stilled_heldV : s.stilled.cadence.heldV = 0 := by
  unfold State.stilled
  rw [(State.keeps_clearIntegrals _).same .cadence, s.zeroRamp_heldV]

variable {s}

theorem State.atRest_stilled {d : Drive}
    (he : ∀ c : Channel, (s.drive.channels.get c).lastEmf = (d.channels.get c).lastEmf) : d.AtRest s.stilled.drive :=
  (State.atRest_zeroRamp he).clearIntegrals

/-- A drive in a stopped state, at rest and with its window shut, as `d` was before. -/
def Drive.StoppedIn (d e : Drive) (new : DriveState) : Prop :=
  e.state = new ∧ new.stopped = true ∧ d.AtRest e ∧ d.WindowShut e

/-- A drive at rest that enters a stopped state (R29, R31). -/
theorem Drive.AtRest.stops {d : Drive} (h : d.AtRest s.drive) {new : DriveState} (hn : new.stopped = true)
    (hs : s.drive.state ≠ new) (asserting : Option Channel) (hw : s.drive.window = d.window)
    (hc : s.drive.closedEarly = d.closedEarly) : d.StoppedIn (s.enterDriveState new asserting).drive new :=
  ⟨s.enterDriveState_state _ _, hn, h.enterDriveState _ _, State.windowShut_enterDriveState (.inl hn) hs _ hw hc⟩

/-- A stopped drive at rest is settled: nothing but its window timer is brought in line. -/
theorem Drive.StoppedIn.settle {d : Drive} {new : DriveState} (h : d.StoppedIn s.drive new) :
    d.StoppedIn s.settleDrive.drive new ∧ s.DriveSame s.settleDrive [.periodTimer] ∧ s.Keeps s.settleDrive [.drive] := by
  obtain ⟨state, stopped, rest, shut⟩ := h
  have running (u : State) (hu : u.drive.state = new) : u.drive.state ≠ .running := by
    rw [hu]
    rintro rfl
    cases stopped
  have same := s.driveSame_settleWindow
  rw [State.settleDrive_of_stopped rest (by rw [state]; exact stopped)]
  have state' : s.settleWindow.drive.state = new := (same.same .state).trans state
  exact ⟨⟨((State.driveSame_settleWindow _).same .state).trans state', stopped, rest.settleWindow.settleWindow,
    (shut.settleWindow (running s state)).settleWindow (running _ state')⟩,
    same.trans (State.driveSame_settleWindow _), s.keeps_settleWindow.trans (State.keeps_settleWindow _)⟩

/-- A drive at rest that enters a stopped state, with the events of the change, and is settled. -/
theorem Drive.AtRest.comesToRest {d : Drive} (rest : d.AtRest s.drive) {new : DriveState} (hn : new.stopped = true)
    (changes : s.drive.state ≠ new) (asserting : Option Channel) (hw : s.drive.window = d.window)
    (hc : s.drive.closedEarly = d.closedEarly) {z : State}
    (evented : (s.enterDriveState new asserting).Keeps z Component.ofEvent) :
    d.StoppedIn z.settleDrive.drive new ∧ s.DriveSame z.settleDrive DriveField.ofState ∧
      z.settleDrive.drive.forgiveTimer = .stopped ∧
      z.settleDrive.drive.shortA = (s.enterDriveState new asserting).drive.shortA ∧
      z.settleDrive.drive.shortB = (s.enterDriveState new asserting).drive.shortB ∧
      z.settleDrive.AttendsAs z ∧
      s.SameExcept z.settleDrive [.drive, .smoke, .lamps, .store, .events, .eventSeq, .attention] := by
  have stops := rest.stops hn changes asserting hw hc
  have entered := s.driveSame_enterDriveState new asserting
  have entry := s.keeps_enterDriveState new asserting
  have forgive := s.enterDriveState_forgive changes asserting
  have drive : z.drive = (s.enterDriveState new asserting).drive := evented.same .drive
  obtain ⟨stopped, settled, kept⟩ := Drive.StoppedIn.settle (s := z) (by rwa [drive])
  have upto : s.DriveSame z DriveField.ofState := by
    rw [State.DriveSame, drive]
    exact entered
  refine ⟨stopped, upto.trans settled.mono, ?_, ?_, ?_, .of_keeps kept, ?_⟩
  · rw [settled.same .forgiveTimer, drive, forgive, State.forgiveAfter, if_pos hn]
  · rw [settled.same .shortA, drive]
  · rw [settled.same .shortB, drive]
  · exact State.sameExcept_trans (State.sameExcept_mono entry.frame (by decide))
      (State.sameExcept_trans (State.sameExcept_mono evented.frame (by decide)) (State.sameExcept_mono kept.frame (by decide)))

/-! ### HALT -/

/-- What a HALT stores (R29). -/
def State.haltStored (s : State) (source : Source) : State :=
  s.withDrive { s.drive with
    target := { s.drive.target with magnitude := 0 }, haltSource := source, retryTimer := .stopped }

/-- A HALT stops a drive that is not HALTED or LOCKED. -/
theorem State.halt_eq (source : Source) :
    (s.drive.state = .halted ∨ s.drive.state = .locked → s.halt source = s) ∧
    (s.drive.state ≠ .halted → s.drive.state ≠ .locked → s.halt source =
      (((s.haltStored source).stilled.enterDriveState .halted).event .halted (BitVec.ofNat 8 source.code)
        0#16).settleDrive) := by
  unfold State.halt
  refine ⟨fun hs => ?_, fun h h' => ?_⟩
  · split <;> rename_i hx
    iterate 2 rfl
    all_goals simp [hx] at hs
  · split <;> rename_i hx
    · exact absurd hx h
    · exact absurd hx h'
    all_goals rfl

/-- The drive that a HALT has stopped. -/
theorem State.halt_stops (source : Source) (h : s.drive.state ≠ .halted) (h' : s.drive.state ≠ .locked) :
    let t := s.halt source
    s.drive.StoppedIn t.drive .halted ∧ t.drive.haltSource = source ∧
      t.drive.target = ⟨0, s.drive.target.direction, s.drive.target.source⟩ ∧ t.drive.retryTimer = .stopped ∧
      t.drive.forgiveTimer = .stopped ∧
      s.DriveSame t (.target :: .haltSource :: .retryTimer :: DriveField.ofSettle) ∧
      t.drive.direction = s.drive.direction ∧ t.cadence.heldV = 0 ∧
      t.AttendsAs ((s.raise .drive).event .halted (BitVec.ofNat 8 source.code) 0#16) ∧
      s.SameExcept t [.drive, .cadence, .smoke, .lamps, .store, .events, .eventSeq, .attention] := by
  intro t
  have ht : t = _ := State.halt_eq source |>.2 h h'
  have stored : s.DriveSame (s.haltStored source) [.target, .haltSource, .retryTimer] := by
    intro f hf
    cases f <;> first | rfl | exact absurd hf (by decide)
  have frame : s.Keeps (s.haltStored source) [.drive] := s.keeps_withDrive _
  have emf (c : Channel) : ((s.haltStored source).drive.channels.get c).lastEmf = (s.drive.channels.get c).lastEmf := rfl
  have values : (s.haltStored source).drive.haltSource = source ∧ (s.haltStored source).drive.retryTimer = .stopped ∧
      (s.haltStored source).drive.target = ⟨0, s.drive.target.direction, s.drive.target.source⟩ := ⟨rfl, rfl, rfl⟩
  rw [ht]
  clear ht
  generalize s.haltStored source = w at *
  obtain ⟨haltSource, retry, target⟩ := values
  have still := w.driveSame_stilled
  have shown := w.shows_stilled
  have rest : s.drive.AtRest w.stilled.drive := State.atRest_stilled emf
  have held := w.stilled_heldV
  generalize w.stilled = x at *
  have changes : x.drive.state ≠ .halted := by rwa [still.same .state, stored.same .state]
  have evented := (x.enterDriveState .halted).keeps_event .halted (BitVec.ofNat 8 source.code) 0#16
  have attends : (x.enterDriveState .halted).AttendsAs (s.raise .drive) :=
    (((State.AttendsAs.of_keeps frame).trans (.of_shows shown)).raise .drive).trans
      (State.enterDriveState_attends changes (.inr rfl) none)
  obtain ⟨stopped, settled, forgive, -, -, attended, kept⟩ := rest.comesToRest rfl changes none
    ((still.same .window).trans (stored.same .window)) ((still.same .closedEarly).trans (stored.same .closedEarly)) evented
  have walked := (still.mono (m := DriveField.ofSettle)).trans settled.mono
  refine ⟨stopped, (walked.same .haltSource).trans haltSource, (walked.same .target).trans target,
    (walked.same .retryTimer).trans retry, forgive, stored.mono.trans walked.mono,
    ((settled.same .direction).trans (still.same .direction)).trans (stored.same .direction), ?_,
    (attends.event .halted (BitVec.ofNat 8 source.code) 0#16).trans attended, ?_⟩
  · rw [kept .cadence (by decide), held]
  · exact State.sameExcept_trans (State.sameExcept_mono frame.frame (by decide)) (State.sameExcept_trans
      (State.sameExcept_mono shown.1 (by decide)) (State.sameExcept_mono kept (by decide)))

end

/-- Settles O6: the request is taken, and the drive is stopped by its state. -/
theorem hostHaltStopsTheDrive : Obligations.HostHaltStopsTheDrive := by
  intro s hc hp hq
  have part : (s.part == .run || s.part == .quiescing) = true := by rcases hp with hp | hp <;> rw [hp] <;> rfl
  have taken : exec .commandHalt s =
      .next ((((s.withCommandResult .accepted).withCommand 0#8).halt .host).settleQuiesce) :=
    congrArg Host.Outcome.next ((if_pos (by rw [hc]; rfl)).trans (if_pos part))
  have frame : s.Keeps ((s.withCommandResult .accepted).withCommand 0#8) [.command, .commandResult] :=
    (s.keeps_withCommandResult _).mono.trans (State.keeps_withCommand _ _).mono
  have values : ((s.withCommandResult .accepted).withCommand 0#8).command = 0#8 ∧
    ((s.withCommandResult .accepted).withCommand 0#8).commandResult = .accepted := ⟨rfl, rfl⟩
  rw [taken]
  generalize (s.withCommandResult .accepted).withCommand 0#8 = u at *
  obtain ⟨command, result⟩ := values
  have drive : u.drive = s.drive := frame.same .drive
  have attends : u.AttendsAs s := .of_keeps frame
  have halted : u.Keeps (u.halt .host) Component.ofDrive := u.keeps_halt .host
  have sound : (u.halt .host).sound = u.sound := by
    obtain ⟨left, -⟩ := State.halt_eq (s := u) .host
    by_cases h : u.drive.state = .halted
    · rw [left (.inl h)]
    · by_cases h' : u.drive.state = .locked
      · rw [left (.inr h')]
      · obtain ⟨-, -, -, -, -, -, -, -, -, kept⟩ := State.halt_stops (s := u) .host h h'
        exact kept .sound (by decide)
  have unfinished : (u.halt .host).QuiesceUnfinished :=
    hq.unfinished ((halted.same .part).trans (frame.same .part)) ((halted.same .acks).trans (frame.same .acks))
      (fun _ => by rw [sound, frame.same .sound]) ((halted.same .adoption).trans (frame.same .adoption))
  obtain ⟨a, settled, acks⟩ := State.settleQuiesce_withAcks unfinished
  rw [settled]
  refine ⟨_, rfl, (halted.same .command).trans command, (halted.same .commandResult).trans result, fun h h' => ?_,
    fun h => ?_, fun h => ?_⟩
  · rw [← drive] at h h' ⊢
    obtain ⟨⟨state, -, rest, shut⟩, source, target, retry, forgive, same, direction, held, events, kept⟩ :=
      State.halt_stops (s := u) .host h h'
    have events' := ((attends.raise .drive).event .halted 1#8 0#16).trans events
    have mode : (u.halt .host).bridgeMode = .brake := by
      have part : (u.halt .host).part = s.part := (halted.same .part).trans (frame.same .part)
      rcases hp with hp | hp <;> simp [State.bridgeMode, part, state, hp]
    generalize u.halt .host = t at *
    exact ⟨state, source, target, direction, same.same .tripCount, retry, forgive, rest, shut, same.settings, mode, held,
      events'.2, State.sameExcept_trans (State.sameExcept_mono frame.frame (by decide))
        (State.sameExcept_trans (State.sameExcept_mono kept (by decide))
        (State.sameExcept_mono (t.sameExcept_withAcks a) (by decide)))⟩
  · rw [(State.halt_eq .host).1 (by rwa [drive])]
    exact State.sameExcept_trans (State.sameExcept_mono frame.frame (by decide))
      (State.sameExcept_mono (u.sameExcept_withAcks a) (by decide))
  · have part' : (u.halt .host).part = s.part := (halted.same .part).trans (frame.same .part)
    exact (acks (by rw [part', h]; decide)).trans ((halted.same .acks).trans (frame.same .acks))

end Sys2Proof.Machine

/-! ## Trips and retries -/

namespace Sys2Proof.Machine

-- One proof at a time: proofs that wait for one another would each hold a thread.
set_option Elab.async false

section
variable (s : State)

/-- The SHORT levels that a change of drive state leaves: the asserting line is asserted, and a line seen released stays
so (R43). -/
theorem State.enterDriveState_shorts {new : DriveState} (h : s.drive.state ≠ new) (c : Channel) :
    (c = .a → (s.enterDriveState new (some c)).drive.shortA = true ∧
      ((s.enterDriveState new (some c)).drive.shortB = true → s.drive.shortB = true)) ∧
    (c = .b → (s.enterDriveState new (some c)).drive.shortB = true ∧
      ((s.enterDriveState new (some c)).drive.shortA = true → s.drive.shortA = true)) := by
  have taken := s.driveSame_stateTaken new
  have announced (u : State) : u.DriveSame ((if s.drive.state.stopped ∨ new.stopped then u.raise .drive else
      u).smokeDriveChange new).lampDriveChange [] := by
    have raised : u.DriveSame (if s.drive.state.stopped ∨ new.stopped then u.raise .drive else u) [] :=
      .ite (fun _ => State.DriveSame.of_keeps (u.keeps_raise _)) fun _ => .refl _ _
    exact raised.trans ((State.DriveSame.of_keeps (State.keeps_smokeDriveChange _ _)).trans
      (State.DriveSame.of_keeps (State.keeps_lampDriveChange _)))
  have all := taken.trans (announced (s.stateTaken new)).mono
  rw [s.enterDriveState_eq h, (State.keeps_writeDriveReadings _).same .drive]
  simp only [State.seeShorts, State.withDrive_drive]
  rw [all.same .shortA, all.same .shortB]
  refine ⟨?_, ?_⟩ <;> rintro rfl <;> simp +contextual

/-- The SHORT level of the line that trips. -/
def State.shortSeen (c : Channel) : State :=
  match c with
  | .a => s.withDrive { s.drive with shortA := true }
  | .b => s.withDrive { s.drive with shortB := true }

theorem State.driveSame_shortSeen (c : Channel) : s.DriveSame (s.shortSeen c) [.shortA, .shortB] := by
  intro f hf
  cases c <;> cases f <;> first | rfl | exact absurd hf (by decide)

theorem State.keeps_shortSeen (c : Channel) : s.Keeps (s.shortSeen c) [.drive] := by
  cases c <;> exact s.keeps_withDrive _

/-- The drive at rest with its trip counted (R31). -/
def State.tripStilled : State := (s.withDrive { s.drive with tripCount := s.drive.tripCount + 1 }).stilled

/-- The retry timer started (R31). -/
def State.retryStarted : State :=
  s.withDrive { s.drive with retryTimer := s.startTimer (tenMillis s.drive.profile.retryDelay) }

/-- A trip by the drive's state and the retry limit (R31). -/
theorem State.takeTrip_eq (c : Channel) (order : Nat) :
    (s.drive.state.stopped = true → s.takeTrip c order = s) ∧
    (s.drive.state.stopped = false →
      (s.drive.tripCount + 1 ≤ s.tripStilled.drive.profile.retryLimit → s.takeTrip c order =
        ((s.tripStilled.retryStarted.enterDriveState .tripped (some c)).event .trip (BitVec.ofNat 8 (channelNumber c))
          (BitVec.ofNat 16 (s.drive.tripCount + 1))).settleDrive) ∧
      (s.tripStilled.drive.profile.retryLimit < s.drive.tripCount + 1 → s.takeTrip c order =
        ((s.tripStilled.enterDriveState .locked (some c)).lockoutEvents (BitVec.ofNat 8 (channelNumber c))
          (BitVec.ofNat 16 (s.drive.tripCount + 1)) order).settleDrive)) := by
  unfold State.takeTrip
  refine ⟨fun hs => ?_, fun hs => ⟨fun hc => ?_, fun hc => ?_⟩⟩
  · split <;> rename_i hx
    iterate 3 rfl
    all_goals simp [hx, DriveState.stopped] at hs
  · split <;> rename_i hx
    iterate 3 simp [hx, DriveState.stopped] at hs
    all_goals exact if_pos hc
  · split <;> rename_i hx
    iterate 3 simp [hx, DriveState.stopped] at hs
    all_goals exact if_neg (Nat.not_le_of_lt hc)

/-- The drive at rest that a trip has counted. -/
theorem State.tripStilled_eq : s.DriveSame s.tripStilled (.tripCount :: DriveField.ofRamp) ∧
    s.tripStilled.drive.tripCount = s.drive.tripCount + 1 ∧ s.drive.AtRest s.tripStilled.drive ∧
    s.tripStilled.cadence.heldV = 0 ∧ s.Shows s.tripStilled [.drive, .cadence] := by
  have counted : s.DriveSame (s.withDrive { s.drive with tripCount := s.drive.tripCount + 1 }) [.tripCount] := by
    intro f hf
    cases f <;> first | rfl | exact absurd hf (by decide)
  have frame : s.Shows (s.withDrive { s.drive with tripCount := s.drive.tripCount + 1 }) [.drive, .cadence] :=
    (State.Shows.of_keeps (s.keeps_withDrive _)).mono
  have emf (c : Channel) : ((s.withDrive { s.drive with
    tripCount := s.drive.tripCount + 1 }).drive.channels.get c).lastEmf = (s.drive.channels.get c).lastEmf := rfl
  have count : (s.withDrive { s.drive with tripCount := s.drive.tripCount + 1 }).drive.tripCount =
    s.drive.tripCount + 1 := rfl
  unfold State.tripStilled
  generalize s.withDrive { s.drive with tripCount := s.drive.tripCount + 1 } = u at *
  have still := u.driveSame_stilled
  exact ⟨counted.mono.trans still.mono, (still.same .tripCount).trans count, State.atRest_stilled emf, u.stilled_heldV,
    frame.trans u.shows_stilled⟩

/-- What a trip leaves in common in TRIPPED and LOCKED. -/
def State.TrippedIn (s t : State) (c : Channel) (new : DriveState) (retry : Timer) : Prop :=
  s.drive.StoppedIn t.drive new ∧ t.drive.tripCount = s.drive.tripCount + 1 ∧ t.drive.retryTimer = retry ∧
    t.drive.forgiveTimer = .stopped ∧
    s.DriveSame t (.tripCount :: .retryTimer :: .ramp :: .stepDir :: .rampTimer :: DriveField.ofState) ∧
    (c = .a → t.drive.shortA = true ∧ (t.drive.shortB = true → s.drive.shortB = true)) ∧
    (c = .b → t.drive.shortB = true ∧ (t.drive.shortA = true → s.drive.shortA = true)) ∧ t.cadence.heldV = 0 ∧
    s.SameExcept t [.drive, .cadence, .smoke, .lamps, .store, .events, .eventSeq, .attention]

variable {s}

/-- A counted drive at rest that enters a stopped state with its events, and is settled. -/
theorem State.trippedIn_of {x z : State} {c : Channel} {new : DriveState} {retry : Timer} (hn : new.stopped = true)
    (hs : s.drive.state ≠ new) (same : s.DriveSame x (.tripCount :: .retryTimer :: DriveField.ofRamp))
    (count : x.drive.tripCount = s.drive.tripCount + 1) (hr : x.drive.retryTimer = retry) (rest : s.drive.AtRest x.drive)
    (held : x.cadence.heldV = 0) (shown : s.Shows x [.drive, .cadence])
    (evented : (x.enterDriveState new (some c)).Keeps z Component.ofEvent) :
    s.TrippedIn z.settleDrive c new retry ∧ (x.enterDriveState new (some c)).AttendsAs (s.raise .drive) ∧
      z.settleDrive.AttendsAs z := by
  have changes : x.drive.state ≠ new := by rwa [same.same .state]
  obtain ⟨stopped, settled, forgive, a, b, attended, kept⟩ :=
    rest.comesToRest hn changes (some c) (same.same .window) (same.same .closedEarly) evented
  obtain ⟨sa, sb⟩ := x.enterDriveState_shorts changes c
  rw [same.same .shortA, same.same .shortB] at *
  refine ⟨⟨stopped, (settled.same .tripCount).trans count, (settled.same .retryTimer).trans hr, forgive,
    same.mono.trans settled.mono, ?_, ?_, ?_, ?_⟩, ((State.AttendsAs.of_shows shown).raise .drive).trans
    (State.enterDriveState_attends changes (.inr hn) (some c)), attended⟩
  · rw [a, b]
    exact sa
  · rw [a, b]
    exact sb
  · rw [kept .cadence (by decide), held]
  · exact State.sameExcept_trans (State.sameExcept_mono shown.1 (by decide)) (State.sameExcept_mono kept (by decide))

/-- A trip within the retry limit leaves the drive TRIPPED, the retry timer started (R31). -/
theorem State.takeTrip_tripped (c : Channel) (order : Nat) (hs : s.drive.state.stopped = false)
    (hc : s.drive.tripCount + 1 ≤ s.drive.profile.retryLimit) :
    s.TrippedIn (s.takeTrip c order) c .tripped (.running (millis s.time + tenMillis s.drive.profile.retryDelay)) ∧
      (s.takeTrip c order).AttendsAs ((s.raise .drive).event .trip (BitVec.ofNat 8 (channelNumber c))
        (BitVec.ofNat 16 (s.drive.tripCount + 1))) := by
  obtain ⟨same, count, rest, held, shown⟩ := s.tripStilled_eq
  obtain ⟨-, taken⟩ := s.takeTrip_eq c order
  rw [(taken hs).1 (by rwa [same.same .profile])]
  have started (u : State) : u.DriveSame u.retryStarted [.retryTimer] := by
    intro f hf
    cases f <;> first | rfl | exact absurd hf (by decide)
  have retry : s.tripStilled.retryStarted.drive.retryTimer =
      .running (millis s.time + tenMillis s.drive.profile.retryDelay) := by
    show Timer.running (millis s.tripStilled.time + tenMillis s.tripStilled.drive.profile.retryDelay) = _
    rw [shown.same .time, same.same .profile]
  have kept : s.tripStilled.Keeps s.tripStilled.retryStarted [.drive] := State.keeps_withDrive _ _
  have begun := started s.tripStilled
  generalize s.tripStilled.retryStarted = x at *
  obtain ⟨tripped, attends, attended⟩ := State.trippedIn_of (new := .tripped) (c := c) rfl
    (by intro h; simp [h, DriveState.stopped] at hs) (same.mono.trans begun.mono) ((begun.same .tripCount).trans count) retry
    (rest.of_channels begun) ((congrArg (·.heldV) (kept.same .cadence)).trans held)
    (shown.trans (State.Shows.of_keeps kept).mono)
    ((x.enterDriveState .tripped (some c)).keeps_event .trip (BitVec.ofNat 8 (channelNumber c))
      (BitVec.ofNat 16 (s.drive.tripCount + 1)))
  exact ⟨tripped, (attends.event _ _ _).trans attended⟩

theorem State.AttendsAs.lockoutEvents {s t : State} (h : t.AttendsAs s) (subject : Byte) (detail : Half) (order : Nat) :
    (t.lockoutEvents subject detail order).AttendsAs (s.lockoutEvents subject detail order) := by
  unfold State.lockoutEvents
  generalize arrange [EventKind.trip, EventKind.lockout] order = ks
  induction ks generalizing s t with
  | nil => exact h
  | cons k ks ih => exact ih (h.event k subject detail)

/-- A trip beyond the retry limit leaves the drive LOCKED (R31). -/
theorem State.takeTrip_locked (c : Channel) (order : Nat) (hs : s.drive.state.stopped = false)
    (hc : s.drive.profile.retryLimit < s.drive.tripCount + 1) :
    s.TrippedIn (s.takeTrip c order) c .locked s.drive.retryTimer ∧
      (s.takeTrip c order).AttendsAs ((s.raise .drive).lockoutEvents (BitVec.ofNat 8 (channelNumber c))
        (BitVec.ofNat 16 (s.drive.tripCount + 1)) order) := by
  obtain ⟨same, count, rest, held, shown⟩ := s.tripStilled_eq
  obtain ⟨-, taken⟩ := s.takeTrip_eq c order
  rw [(taken hs).2 (by rwa [same.same .profile])]
  generalize s.tripStilled = x at *
  obtain ⟨locked, attends, attended⟩ := State.trippedIn_of (new := .locked) (c := c) rfl
    (by intro h; simp [h, DriveState.stopped] at hs) same.mono count (same.same .retryTimer) rest held shown
    ((x.enterDriveState .locked (some c)).keeps_lockoutEvents (BitVec.ofNat 8 (channelNumber c))
      (BitVec.ofNat 16 (s.drive.tripCount + 1)) order)
  exact ⟨locked, (attends.lockoutEvents _ _ _).trans attended⟩

end

/-- Settles O7: by the drive's state, and for a trip that is taken by the retry limit. -/
theorem tripStopsOrLocksTheDrive : Obligations.TripStopsOrLocksTheDrive := by
  intro s c order _ count subject detail seen
  have seenDrive : (s.shortSeen c).drive = seen := by cases c <;> rfl
  have exec_eq : exec (.trip c order) s = .next (if s.part = .quiet ∨ s.part = .resetting then s.shortSeen c
      else ((s.shortSeen c).takeTrip c order).settleQuiesce) := by cases c <;> rfl
  have same := s.driveSame_shortSeen c
  have kept := s.keeps_shortSeen c
  have short : (c = .a → ((s.shortSeen c).drive.shortB = true → s.drive.shortB = true)) ∧
      (c = .b → ((s.shortSeen c).drive.shortA = true → s.drive.shortA = true)) := by
    constructor <;> rintro rfl <;> exact id
  have attends : (s.shortSeen c).AttendsAs s := .of_keeps kept
  have count_eq : (s.shortSeen c).drive.tripCount + 1 = count := congrArg (· + 1) (same.same .tripCount)
  have subject_eq : BitVec.ofNat 8 (channelNumber c) = subject := by cases c <;> rfl
  have profile : (s.shortSeen c).drive.profile = s.drive.profile := same.same .profile
  have time : (s.shortSeen c).time = s.time := kept.same .time
  have state : (s.shortSeen c).drive.state = s.drive.state := same.same .state
  have shorts : ∀ c : Channel, ((s.shortSeen c).drive.channels) = s.drive.channels := fun c => by cases c <;> rfl
  have channels := shorts c
  have ends : (s.shortSeen c).drive.window = s.drive.window ∧ (s.shortSeen c).drive.closedEarly = s.drive.closedEarly :=
    ⟨same.same .window, same.same .closedEarly⟩
  rw [exec_eq]
  generalize s.shortSeen c = u at *
  refine ⟨fun hs hq hr open_ => ?_, fun hs unfinished => ?_⟩
  · have stopped : u.drive.state.stopped = false := by
      rw [state]
      rcases hs with h | h | h <;> rw [h] <;> rfl
    rw [if_neg (not_or.mpr ⟨hq, hr⟩)]
    have answer {t : State} {new : DriveState} {retry : Timer} (h : u.TrippedIn t c new retry) :
        ∃ a, t.settleQuiesce = t.withAcks a ∧ t.drive.tripCount = count ∧ t.drive.state = new ∧ t.drive.retryTimer = retry ∧
          t.drive.target = s.drive.target ∧ t.drive.direction = s.drive.direction ∧ t.drive.forgiveTimer = .stopped ∧
          t.drive.haltSource = s.drive.haltSource ∧
          (c = .a → t.drive.shortA = true ∧ (t.drive.shortB = true → s.drive.shortB = true)) ∧
          (c = .b → t.drive.shortB = true ∧ (t.drive.shortA = true → s.drive.shortA = true)) ∧
          s.drive.AtRest t.drive ∧ s.drive.WindowShut t.drive ∧ s.drive.SameSettings t.drive ∧
          (new = .tripped ∨ new = .locked → t.bridgeMode = .coast) ∧ t.cadence.heldV = 0 ∧
          s.SameExcept (t.withAcks a) [.drive, .cadence, .smoke, .lamps, .store, .events, .eventSeq, .attention, .acks] := by
      obtain ⟨⟨hnew, -, rest, shut⟩, hcount, hretry, forgive, settled, sa, sb, held, frame⟩ := h
      have upto := kept.frame
      have unfinished : t.QuiesceUnfinished :=
        open_.unfinished ((frame .part (by decide)).trans (upto .part (by decide)))
          ((frame .acks (by decide)).trans (upto .acks (by decide)))
          (fun _ => by rw [frame .sound (by decide), upto .sound (by decide)])
          ((frame .adoption (by decide)).trans (upto .adoption (by decide)))
      obtain ⟨a, e, -⟩ := State.settleQuiesce_withAcks unfinished
      have all := (same.mono (m := .tripCount :: .retryTimer :: .ramp :: .stepDir :: .rampTimer :: DriveField.ofState)).trans
        settled
      refine ⟨a, e, hcount.trans count_eq, hnew, hretry, all.same .target, all.same .direction, forgive, all.same .haltSource,
        fun h => ⟨(sa h).1, fun k => short.1 h ((sa h).2 k)⟩, fun h => ⟨(sb h).1, fun k => short.2 h ((sb h).2 k)⟩, ?_, ?_,
        all.settings, fun hn => ?_, held, ?_⟩
      · obtain ⟨ramp, dir, timer, cs⟩ := rest
        exact ⟨ramp, dir, timer, fun c => by rw [← channels]; exact cs c⟩
      · unfold Drive.WindowShut at shut ⊢
        rwa [ends.1, ends.2] at shut
      · have part : t.part = s.part := (frame .part (by decide)).trans (upto .part (by decide))
        rcases hn with rfl | rfl <;> cases hp : s.part <;> simp_all [State.bridgeMode]
      · exact State.sameExcept_trans (State.sameExcept_mono upto (by decide)) (State.sameExcept_trans
          (State.sameExcept_mono frame (by decide)) (State.sameExcept_mono (t.sameExcept_withAcks a) (by decide)))
    by_cases hc : u.drive.tripCount + 1 ≤ u.drive.profile.retryLimit
    · obtain ⟨tripped, events⟩ := State.takeTrip_tripped c order stopped hc
      obtain ⟨a, e, hcount, hstate, hretry, target, direction, forgive, source, sa, sb, rest, shut, settings, mode, held, frame⟩ :=
        answer tripped
      have listed := (((attends.raise .drive).event .trip (BitVec.ofNat 8 (channelNumber c))
        (BitVec.ofNat 16 (u.drive.tripCount + 1))).trans events).2
      rw [subject_eq, count_eq] at listed
      rw [profile, time] at hretry
      rw [count_eq, profile] at hc
      rw [e]
      exact ⟨_, rfl, hcount, fun _ => ⟨hstate, hretry, listed⟩, fun h => absurd hc (Nat.not_le_of_lt h), target, direction,
        forgive, source, sa, sb, rest, shut, settings, mode (.inl rfl), held, frame⟩
    · obtain ⟨locked, events⟩ := State.takeTrip_locked c order stopped (Nat.lt_of_not_le hc)
      obtain ⟨a, e, hcount, hstate, hretry, target, direction, forgive, source, sa, sb, rest, shut, settings, mode, held, frame⟩ :=
        answer locked
      have listed := (((attends.raise .drive).lockoutEvents (BitVec.ofNat 8 (channelNumber c))
        (BitVec.ofNat 16 (u.drive.tripCount + 1)) order).trans events).2
      rw [subject_eq, count_eq] at listed
      rw [same.same .retryTimer] at hretry
      rw [count_eq, profile] at hc
      rw [e]
      refine ⟨_, rfl, hcount, fun h => absurd h hc, fun _ => ⟨hstate, hretry, ?_, ?_⟩, target, direction, forgive, source, sa,
        sb, rest, shut, settings, mode (.inr rfl), held, frame⟩ <;> rintro rfl <;> exact listed
  · by_cases hq : s.part = .quiet ∨ s.part = .resetting
    · rw [if_pos hq]
      exact ⟨_, rfl, seenDrive, fun _ => kept.same .acks, State.sameExcept_mono kept.frame (by decide)⟩
    · rw [if_neg hq]
      have stopped : u.drive.state.stopped = true := by
        rw [state]
        rcases hs with h | h | h | h | h
        iterate 3 (rw [h]; rfl)
        · exact absurd (.inl h) hq
        · exact absurd (.inr h) hq
      have part : u.part = s.part := kept.same .part
      rw [(u.takeTrip_eq c order).1 stopped]
      have now : u.acksNow = s.acksNow := State.acksNow_congr (kept.same .acks) (same.same .ramp)
        (by rw [kept.same .sound]) (by rw [kept.same .adoption])
      obtain ⟨a, e, acks⟩ := State.settleQuiesce_withAcks (s := u) (fun hp => by rw [now]; exact unfinished (part ▸ hp))
      rw [e]
      exact ⟨_, rfl, seenDrive, fun hp => (acks (by rwa [part])).trans (kept.same .acks),
        State.sameExcept_trans (State.sameExcept_mono kept.frame (by decide))
          (State.sameExcept_mono (u.sameExcept_withAcks a) (by decide))⟩

end Sys2Proof.Machine

/-! ## The retry and forgive timers, and the protection level -/

namespace Sys2Proof.Machine

-- One proof at a time: proofs that wait for one another would each hold a thread.
set_option Elab.async false

section
variable (s : State)

/-! ### A drive that R = 0 does not move -/

/-- Neither a reversal nor a run that asks for no speed: R = 0 brings nothing. -/
def Drive.Stays (d : Drive) : Prop := d.state ≠ .reversing ∧ (d.state = .running → d.target.magnitude ≠ 0)

variable {s} in
theorem Drive.Stays.reachedZero (h : s.drive.Stays) : s.reachedZero = s := by
  obtain ⟨reversing, running⟩ := h
  by_cases hr : s.drive.ramp = 0
  · by_cases hs : s.drive.state = .running
    · rw [s.reachedZero_running hr hs, if_neg (running hs)]
    · exact s.reachedZero_stays (.inr ⟨reversing, hs⟩)
  · exact s.reachedZero_stays (.inl hr)

variable {s} in
theorem Drive.Stays.followed (h : s.drive.Stays) : s.followTarget.settleWindow.drive.Stays := by
  have same := s.driveSame_followTarget.mono (m := .periodTimer :: DriveField.ofRamp)
    |>.trans (State.driveSame_settleWindow _).mono
  unfold Drive.Stays
  rwa [same.same .state, same.same .target]

variable {s} in
theorem Drive.Stays.driveSame_settleDrive (h : s.drive.Stays) : s.DriveSame s.settleDrive (.periodTimer :: DriveField.ofRamp) := by
  unfold State.settleDrive
  rw [h.followed.reachedZero]
  exact s.driveSame_followTarget.mono.trans ((State.driveSame_settleWindow _).mono.trans
    ((State.driveSame_followTarget _).mono.trans (State.driveSame_settleWindow _).mono))

/-- In mode OFF a settled drive has R at T (R12). -/
theorem State.settleDrive_ramp_off (h : s.drive.profile.momentum = .off) :
    s.settleDrive.drive.ramp = s.settleDrive.effectiveTarget := by
  have profile : s.followTarget.settleWindow.reachedZero.drive.profile = s.drive.profile :=
    ((State.driveSame_reachedZero _).same .profile).trans
      (((State.driveSame_settleWindow _).same .profile).trans (s.driveSame_followTarget.same .profile))
  unfold State.settleDrive
  generalize s.followTarget.settleWindow.reachedZero = w at *
  have window := w.followTarget.driveSame_settleWindow
  rw [window.same .ramp, w.followTarget_ramp, State.followedRamp, if_pos (by rwa [profile]),
    State.effectiveTarget_same w.followTarget.keeps_settleWindow.frame window,
    State.effectiveTarget_same w.keeps_followTarget.frame w.driveSame_followTarget]

/-- Outside mode OFF a settled drive steps from R toward T (R9). -/
theorem State.settleDrive_stepDir (h : s.drive.profile.momentum ≠ .off) :
    s.settleDrive.drive.stepDir = stepDirection s.settleDrive.drive.ramp s.settleDrive.effectiveTarget := by
  have profile : s.followTarget.settleWindow.reachedZero.drive.profile = s.drive.profile :=
    ((State.driveSame_reachedZero _).same .profile).trans
      (((State.driveSame_settleWindow _).same .profile).trans (s.driveSame_followTarget.same .profile))
  unfold State.settleDrive
  generalize s.followTarget.settleWindow.reachedZero = w at *
  have off : w.drive.profile.momentum ≠ .off := by rwa [profile]
  have window := w.followTarget.driveSame_settleWindow
  rw [window.same .stepDir, window.same .ramp, (w.driveSame_followTarget_of_ramp off).same .ramp,
    State.effectiveTarget_same w.followTarget.keeps_settleWindow.frame window,
    State.effectiveTarget_same w.keeps_followTarget.frame w.driveSame_followTarget]
  exact (w.followTarget_stepDir off).1

/-- The timer of a drive that begins to step: it starts (R9). -/
theorem State.settleDrive_starts (h : s.drive.profile.momentum ≠ .off) (stays : s.drive.Stays) (hd : s.drive.stepDir = .none)
    (ht : stepDirection s.drive.ramp s.effectiveTarget ≠ .none) :
    s.settleDrive.drive.rampTimer = s.rampInterval (stepDirection s.drive.ramp s.effectiveTarget) := by
  obtain ⟨dir, timer⟩ := s.followTarget_stepDir h
  rw [hd, if_neg ht] at timer
  have same := s.driveSame_followTarget_of_ramp h
  have window := s.followTarget.driveSame_settleWindow
  have target : s.followTarget.settleWindow.effectiveTarget = s.effectiveTarget := by
    rw [State.effectiveTarget_same s.followTarget.keeps_settleWindow.frame window,
      State.effectiveTarget_same s.keeps_followTarget.frame s.driveSame_followTarget]
  unfold State.settleDrive
  rw [stays.followed.reachedZero, State.followTarget_still _ (by rwa [window.same .profile, same.same .profile])
    (by rw [window.same .stepDir, window.same .ramp, same.same .ramp, target]; exact dir),
    (State.driveSame_settleWindow _).same .rampTimer, window.same .rampTimer, timer]

end

/-! ### The retry -/

/-- The drive that leaves TRIPPED, before it is settled (R32). -/
def State.retried (s : State) : State :=
  ((s.withDrive { s.drive with retryTimer := .stopped }).setDirection s.drive.target.direction).enterDriveState
    (if s.drive.target.magnitude = 0 then .idle else .running)

/-- The retried drive, by its fields. -/
theorem State.retried_eq (s : State) (hs : s.drive.state = .tripped) (hc : s.drive.tripCount ≠ 0) :
    s.DriveSame s.retried (.retryTimer :: DriveField.ofZero) ∧ s.retried.drive.retryTimer = .stopped ∧
      s.retried.drive.direction = s.drive.target.direction ∧
      s.retried.drive.state = (if s.drive.target.magnitude = 0 then .idle else .running) ∧
      s.retried.drive.forgiveTimer = .running (millis s.time + hundredMillis s.drive.profile.forgive) ∧
      s.retried.AttendsAs (s.raise .drive) ∧ s.SameExcept s.retried [.drive, .smoke, .lamps, .store, .attention] := by
  have cancelled : s.DriveSame (s.withDrive { s.drive with retryTimer := .stopped }) [.retryTimer] := by
    intro f hf
    cases f <;> first | rfl | exact absurd hf (by decide)
  have frame : s.Keeps (s.withDrive { s.drive with retryTimer := .stopped }) [.drive] := s.keeps_withDrive _
  have timer : (s.withDrive { s.drive with retryTimer := .stopped }).drive.retryTimer = .stopped := rfl
  unfold State.retried
  generalize s.withDrive { s.drive with retryTimer := .stopped } = u at *
  have turned := u.driveSame_setDirection s.drive.target.direction
  have direction := u.setDirection_direction s.drive.target.direction
  have turns := u.keeps_setDirection s.drive.target.direction
  have shown := u.shows_setDirection s.drive.target.direction
  generalize u.setDirection s.drive.target.direction = x at *
  have was : x.drive.state = .tripped := (turned.same .state).trans ((cancelled.same .state).trans hs)
  generalize hn : (if s.drive.target.magnitude = 0 then DriveState.idle else .running) = new
  have leaves : new.stopped = false ∧ new ≠ .tripped := by
    rw [← hn]
    split <;> decide
  have changes : x.drive.state ≠ new := by rw [was]; exact leaves.2.symm
  have entered := x.driveSame_enterDriveState new none
  have count : x.drive.tripCount = s.drive.tripCount := (turned.same .tripCount).trans (cancelled.same .tripCount)
  have profile : x.drive.profile = s.drive.profile := (turned.same .profile).trans (cancelled.same .profile)
  have time : x.time = s.time := (turns.same .time).trans (frame.same .time)
  refine ⟨cancelled.mono.trans (turned.mono.trans entered.mono),
    (entered.same .retryTimer).trans ((turned.same .retryTimer).trans timer), (entered.same .direction).trans direction,
    x.enterDriveState_state _ _, ?_, ?_, ?_⟩
  · have stopped : x.drive.state.stopped = true := by rw [was]; rfl
    rw [x.enterDriveState_forgive changes, State.forgiveAfter, leaves.1, if_neg (by decide), count, profile,
      if_pos ⟨stopped, by omega⟩, State.startTimer, time]
  · exact (((State.AttendsAs.of_keeps frame).trans (.of_shows shown)).raise .drive).trans
      (State.enterDriveState_attends changes (.inl (by rw [was]; rfl)) none)
  · exact State.sameExcept_trans (State.sameExcept_mono frame.frame (by decide)) (State.sameExcept_trans
      (State.sameExcept_mono turns.frame (by decide)) (x.keeps_enterDriveState new none).frame)

/-- Settles O8: the retried drive is settled, by the momentum mode. -/
theorem retryAndForgiveTimers : Obligations.RetryAndForgiveTimers := by
  intro s
  refine ⟨fun hrun hs hc held follows => ?_, fun hrun => congrArg Host.Outcome.next (if_pos hrun)⟩
  have taken : exec .retryTimerExpiry s = .next s.retried.settleDrive := by
    show execRetryTimerExpiry s = _
    unfold execRetryTimerExpiry State.retried
    rw [if_pos ⟨hrun, hs⟩]
    have target : ((s.withDrive { s.drive with retryTimer := .stopped }).setDirection
        s.drive.target.direction).drive.target = s.drive.target := (State.driveSame_setDirection _ _).same .target
    simp only [State.withDrive_drive, target]
  have stopped : s.drive.state.stopped = true := by rw [hs]; rfl
  obtain ⟨same, retry, direction, state, forgive, attends, frame⟩ := s.retried_eq hs hc
  have ramp : s.drive.ramp = 0 := held (.inl stopped)
  have dir : s.drive.stepDir = .none := by
    rw [follows.1, ramp, State.effectiveTarget_of_stopped stopped]
    rfl
  have stays : s.retried.drive.Stays := by
    refine ⟨by rw [state]; split <;> decide, fun h => ?_⟩
    rw [state] at h
    rw [same.same .target]
    intro hm
    simp [hm] at h
  have settled := stays.driveSame_settleDrive
  have off_iff : s.retried.drive.profile = s.drive.profile := same.same .profile
  have kept := s.retried.keeps_settleDrive
  rw [taken]
  refine ⟨_, rfl, (settled.same .state).trans state, (settled.same .direction).trans direction,
    (settled.same .target).trans (same.same .target), (settled.same .retryTimer).trans retry,
    (settled.same .tripCount).trans (same.same .tripCount), (settled.same .forgiveTimer).trans forgive,
    ((same.mono (m := .retryTimer :: DriveField.ofSettle)).trans settled.mono).settings, fun hoff => ?_, fun hoff => ?_, ?_⟩
  · exact s.retried.settleDrive_ramp_off (by rwa [off_iff])
  · have momentum : s.retried.drive.profile.momentum ≠ .off := by rwa [off_iff]
    have shown := State.shows_settleDrive momentum
    have still : s.retried.drive.ramp = 0 := (same.same .ramp).trans ramp
    have settledRamp := (s.retried.settleDrive_ramp momentum).trans still
    have target : s.retried.settleDrive.effectiveTarget = s.retried.effectiveTarget :=
      State.effectiveTarget_same kept.frame settled
    refine ⟨settledRamp, ?_, fun ht => ?_, (attends.trans (.of_shows shown)).2,
      State.sameExcept_trans (State.sameExcept_mono frame (by decide)) (State.sameExcept_mono shown.1 (by decide))⟩
    · rw [s.retried.settleDrive_stepDir momentum, settledRamp]
    · rw [target] at ht
      have up : stepDirection s.retried.drive.ramp s.retried.effectiveTarget = .up := by
        rw [still]
        exact if_pos ht
      rw [s.retried.settleDrive_starts momentum stays ((same.same .stepDir).trans dir) (by rw [up]; decide), up]
      show Timer.running (millis s.retried.time + millis s.retried.drive.profile.accelInterval) = _
      rw [off_iff, frame .time (by decide)]
  · exact State.sameExcept_trans (State.sameExcept_mono frame (by decide)) (State.sameExcept_mono kept.frame (by decide))

/-! ### The protection level -/

theorem code_levelMax (l m : Level) : (l.max m).code = max l.code m.code := by
  unfold Level.max
  split <;> omega

theorem levelMax_eq (l m : Level) : l.max m = l ∨ l.max m = m := by
  unfold Level.max
  split
  · exact .inr rfl
  · exact .inl rfl

/-- The highest of a list of levels bounds each of them and is one of them or the first. -/
theorem foldl_levelMax {α : Type} (f : α → Level) (xs : List α) (l : Level) :
    l.code ≤ (xs.foldl (fun l k => l.max (f k)) l).code ∧
      (∀ k ∈ xs, (f k).code ≤ (xs.foldl (fun l k => l.max (f k)) l).code) ∧
      (xs.foldl (fun l k => l.max (f k)) l = l ∨ ∃ k ∈ xs, xs.foldl (fun l k => l.max (f k)) l = f k) := by
  induction xs generalizing l with
  | nil => exact ⟨le_rfl, by simp, .inl rfl⟩
  | cons x xs ih =>
    obtain ⟨first, rest, one⟩ := ih (l.max (f x))
    rw [code_levelMax] at first
    refine ⟨(le_max_left _ _).trans first, fun k hk => ?_, ?_⟩
    · rcases List.mem_cons.mp hk with rfl | hk
      · exact (le_max_right _ _).trans first
      · exact rest k hk
    · rcases one with one | ⟨k, hk, one⟩
      · rcases levelMax_eq l (f x) with h | h
        · exact .inl (one.trans h)
        · exact .inr ⟨x, List.mem_cons_self, one.trans h⟩
      · exact .inr ⟨k, List.mem_cons_of_mem _ hk, one⟩

/-- A shut window stays shut through a change of drive state and through what R = 0 brings. -/
theorem State.enterDriveState_shut (s : State) (new : DriveState) (asserting : Option Channel) (h : s.drive.window = .closed) :
    (s.enterDriveState new asserting).drive.window = .closed ∧
      (s.enterDriveState new asserting).drive.closedEarly = s.drive.closedEarly := by
  by_cases hs : s.drive.state = new
  · rw [show s.enterDriveState new asserting = s from if_pos hs]
    exact ⟨h, rfl⟩
  · have held := s.driveSame_stateHeld new
    have announced := State.driveSame_announced (s.stateTaken new) (s.drive.state.stopped ∨ new.stopped) new asserting
    have shut : s.stateTaken new = s.stateHeld new := by
      unfold State.stateTaken
      rw [(s.stateHeld new).closeWindowEarly_shut.2.2 ((held.same .window).trans h), ite_self]
    rw [shut] at announced
    rw [s.enterDriveState_eq hs, shut]
    exact ⟨(announced.same .window).trans ((held.same .window).trans h),
      (announced.same .closedEarly).trans (held.same .closedEarly)⟩

theorem State.reachedZero_shut (s : State) (h : s.drive.window = .closed) :
    s.reachedZero.drive.window = .closed ∧ s.reachedZero.drive.closedEarly = s.drive.closedEarly := by
  by_cases hr : s.drive.ramp = 0
  · by_cases hs : s.drive.state = .reversing
    · have turned := s.driveSame_setDirection s.drive.target.direction
      have := (s.setDirection s.drive.target.direction).enterDriveState_shut
        (if s.drive.target.magnitude = 0 then .idle else .running) none ((turned.same .window).trans h)
      rw [s.reachedZero_reversing hr hs]
      exact ⟨this.1, this.2.trans (turned.same .closedEarly)⟩
    · by_cases hs' : s.drive.state = .running
      · rw [s.reachedZero_running hr hs']
        split
        · exact s.enterDriveState_shut _ _ h
        · exact ⟨h, rfl⟩
      · rw [s.reachedZero_stays (.inr ⟨hs, hs'⟩)]
        exact ⟨h, rfl⟩
  · rw [s.reachedZero_stays (.inl hr)]
    exact ⟨h, rfl⟩

/-- The window closed early, of a drive whose window and count were those of `d`. -/
theorem State.closeWindowEarly_count {d : Drive} (x : State) (hw : x.drive.window = d.window)
    (hc : x.drive.closedEarly = d.closedEarly) : x.closeWindowEarly.drive.closedEarly =
      if d.window = .closed then d.closedEarly else d.closedEarly + 1#16 := by
  obtain ⟨-, opened, still⟩ := x.closeWindowEarly_shut
  split
  · rw [still (hw.trans ‹_›), hc]
  · rw [(opened (by rwa [hw])).2.2.1, hc]

/-- A drive at rest with its window closed is settled where T stays 0 (R36, R71). -/
theorem Drive.AtRest.settlesShut {d : Drive} {u : State} (rest : d.AtRest u.drive) (closed : u.drive.window = .closed)
    (zero : ∀ v : State, v.part = u.part → v.power = u.power → v.drive.level = u.drive.level → v.effectiveTarget = 0) :
    d.AtRest u.settleDrive.drive ∧ u.settleDrive.drive.window = .closed ∧
      u.settleDrive.drive.closedEarly = u.drive.closedEarly ∧
      (u.drive.state = .reversing → u.settleDrive.drive.direction = u.drive.target.direction ∧
        u.settleDrive.drive.state = (if u.drive.target.magnitude = 0 then .idle else .running)) ∧
      u.Shows u.settleDrive Component.ofZero := by
  have window := u.driveSame_settleWindow
  have reached := State.driveSame_reachedZero u.settleWindow
  have e : u.settleDrive = u.settleWindow.reachedZero.settleWindow := by
    refine State.settleDrive_of_rest rest (zero u rfl rfl rfl) (zero _ ?_ ?_ ?_)
    · rw [(State.keeps_reachedZero _).same .part, u.keeps_settleWindow.same .part]
    · rw [(State.keeps_reachedZero _).same .power, u.keeps_settleWindow.same .power]
    · rw [reached.same .level, window.same .level]
  have last := State.driveSame_settleWindow u.settleWindow.reachedZero
  obtain ⟨w, c⟩ := State.reachedZero_shut u.settleWindow ((window.same .window).trans closed)
  obtain ⟨ramp, -⟩ := rest.settleWindow
  obtain ⟨turned, -, ended⟩ := State.reachedZero_state u.settleWindow ramp
  rw [window.same .state, window.same .target] at turned ended
  rw [e]
  refine ⟨rest.settleWindow.reachedZero.settleWindow, (last.same .window).trans w,
    (last.same .closedEarly).trans (c.trans (window.same .closedEarly)),
    fun hs => ⟨(last.same .direction).trans (turned hs), (last.same .state).trans (ended (.inl hs))⟩, ?_⟩
  exact (State.Shows.of_keeps u.keeps_settleWindow).mono.trans
    ((State.shows_reachedZero _).trans (State.Shows.of_keeps (State.keeps_settleWindow _)).mono)

/-- The causes stored with the level (R35). -/
def State.causesStored (s : State) : State :=
  s.withDrive { s.drive with
    slotCauses := vecTab 12 fun k => s.sequencer.driveAction k != .none
    silenceCause := s.radio.silenceLevel != .none }

/-- The drive under a new level, before it acts (R36). -/
def State.levelled (s : State) : State :=
  s.causesStored.withDrive { s.causesStored.drive with level := s.protectionLevel }

theorem State.driveSame_levelled (s : State) : s.DriveSame s.levelled [.level, .slotCauses, .silenceCause] := by
  intro f hf
  cases f <;> first | rfl | exact absurd hf (by decide)

theorem State.keeps_levelled (s : State) : s.Keeps s.levelled [.drive] :=
  (s.keeps_withDrive _).trans (State.keeps_withDrive _ _)

/-- The protection level hands over: unchanged, risen to BRAKE or RELEASE, or moved otherwise (R36). -/
theorem State.recomputeProtection_eq (s : State) :
    (s.protectionLevel = s.drive.level → s.recomputeProtection = s.levelled) ∧
    (s.protectionLevel.holds = true → s.drive.level.holds = false →
      s.recomputeProtection = s.levelled.stilled.closeWindowEarly.settleDrive) ∧
    (s.protectionLevel ≠ s.drive.level → s.protectionLevel.holds = false ∨ s.drive.level.holds = true →
      s.recomputeProtection = s.levelled.refreshDuty.settleDrive) := by
  have changed (h : s.protectionLevel ≠ s.drive.level) :
      s.recomputeProtection = s.causesStored.changeLevel s.protectionLevel := if_neg h
  refine ⟨fun h => ?_, fun h h' => ?_, fun h h' => ?_⟩
  · refine (if_pos h).trans ?_
    unfold State.levelled
    rw [h]
    rfl
  · rw [changed fun e => by rw [e, h'] at h; cases h]
    exact congrArg State.settleDrive (if_pos (by rw [h, show s.causesStored.drive.level = s.drive.level from rfl, h']; rfl))
  · rw [changed h]
    refine congrArg State.settleDrive (if_neg ?_)
    rw [show s.causesStored.drive.level = s.drive.level from rfl]
    rcases h' with h' | h' <;> simp [h']

/-- A rise to BRAKE or RELEASE brings the drive to rest (R36, R40). -/
theorem State.recomputeProtection_rises (s : State) (h : s.protectionLevel.holds = true) (h' : s.drive.level.holds = false) :
    s.drive.AtRest s.recomputeProtection.drive ∧ s.recomputeProtection.drive.window = .closed ∧
      s.recomputeProtection.drive.closedEarly =
        (if s.drive.window = .closed then s.drive.closedEarly else s.drive.closedEarly + 1#16) ∧
      (s.drive.state = .reversing → s.recomputeProtection.drive.direction = s.drive.target.direction ∧
        s.recomputeProtection.drive.state = (if s.drive.target.magnitude = 0 then .idle else .running)) ∧
      s.Shows s.recomputeProtection [.drive, .cadence, .smoke, .lamps, .store] := by
  obtain ⟨-, rises, -⟩ := s.recomputeProtection_eq
  have levelled := s.driveSame_levelled
  have level : s.levelled.drive.level = s.protectionLevel := rfl
  have kept := s.keeps_levelled
  have emf (c : Channel) : (s.levelled.drive.channels.get c).lastEmf = (s.drive.channels.get c).lastEmf := rfl
  rw [rises h h']
  generalize s.levelled = x at *
  have still := levelled.mono (m := .level :: .slotCauses :: .silenceCause :: DriveField.ofRamp) |>.trans x.driveSame_stilled.mono
  have level : x.stilled.drive.level = s.protectionLevel := (x.driveSame_stilled.same .level).trans level
  have rest : s.drive.AtRest x.stilled.drive := State.atRest_stilled emf
  have shown := (State.Shows.of_keeps kept).mono (m := [.drive, .cadence]) |>.trans x.shows_stilled
  generalize x.stilled = y at *
  have shut := y.driveSame_closeWindowEarly
  have count := y.closeWindowEarly_count (still.same .window) (still.same .closedEarly)
  have closed := y.closeWindowEarly_shut.1
  have early := y.keeps_closeWindowEarly
  have rest' := rest.closeWindowEarly
  generalize y.closeWindowEarly = z at *
  have upto := still.mono (m := .level :: .slotCauses :: .silenceCause :: DriveField.ofSettle) |>.trans shut.mono
  obtain ⟨settled, w, c, turned, zero⟩ := rest'.settlesShut closed fun v _ _ hl =>
    State.effectiveTarget_of_holds (by rw [hl, shut.same .level, level]; exact h)
  rw [shut.same .state, still.same .state, shut.same .target, still.same .target] at turned
  exact ⟨settled, w, c.trans count, turned, shown.mono.trans ((State.Shows.of_keeps early).mono.trans zero.mono)⟩

/-- The frame of a hand-off outside mode OFF, and the R that it leaves. -/
theorem State.recomputeProtection_shows (s : State) (hoff : s.drive.profile.momentum ≠ .off) :
    s.Shows s.recomputeProtection [.drive, .cadence, .smoke, .lamps, .store] ∧
      (s.protectionLevel.holds = false ∨ s.drive.level.holds = true → s.recomputeProtection.drive.ramp = s.drive.ramp) := by
  obtain ⟨same, -, moves⟩ := s.recomputeProtection_eq
  have levelled := s.driveSame_levelled
  have first : s.Shows s.levelled [.drive, .cadence, .smoke, .lamps, .store] := (State.Shows.of_keeps s.keeps_levelled).mono
  by_cases h : s.protectionLevel = s.drive.level
  · rw [same h]
    exact ⟨first, fun _ => levelled.same .ramp⟩
  · by_cases h' : s.protectionLevel.holds = false ∨ s.drive.level.holds = true
    · have refreshed := levelled.mono (m := .channels :: [.level, .slotCauses, .silenceCause]) |>.trans
        s.levelled.driveSame_refreshDuty.mono
      have momentum : s.levelled.refreshDuty.drive.profile.momentum ≠ .off := by rwa [refreshed.same .profile]
      rw [moves h h']
      exact ⟨first.trans ((State.Shows.of_keeps s.levelled.keeps_refreshDuty).mono.trans (State.shows_settleDrive momentum).mono),
        fun _ => (State.settleDrive_ramp _ momentum).trans (refreshed.same .ramp)⟩
    · obtain ⟨hl, hd⟩ := not_or.mp h'
      obtain ⟨-, -, -, -, shown⟩ := s.recomputeProtection_rises (by simpa using hl) (by simpa using hd)
      exact ⟨shown, fun k => absurd k h'⟩

/-- The causes and the level that a hand-off stores, and the target that it leaves. -/
theorem State.recomputeProtection_stores (s : State) : s.levelled.DriveSame s.recomputeProtection DriveField.ofSettle := by
  obtain ⟨same, rises, moves⟩ := s.recomputeProtection_eq
  by_cases h : s.protectionLevel = s.drive.level
  · rw [same h]
    exact .refl _ _
  · by_cases h' : s.protectionLevel.holds = false ∨ s.drive.level.holds = true
    · rw [moves h h']
      exact s.levelled.driveSame_refreshDuty.mono.trans (State.driveSame_settleDrive _)
    · obtain ⟨hl, hd⟩ := not_or.mp h'
      rw [rises (by simpa using hl) (by simpa using hd)]
      exact s.levelled.driveSame_stilled.mono.trans
        ((State.driveSame_closeWindowEarly _).mono.trans (State.driveSame_settleDrive _))

/-- Settles O9: the level is the highest action, and the change of level acts by its direction. -/
theorem protectionLevelActsOnTheDrive : Obligations.ProtectionLevelActsOnTheDrive := by
  intro s t level
  obtain ⟨first, each, one⟩ := foldl_levelMax s.sequencer.driveAction (List.finRange 12) s.radio.silenceLevel
  have stores := s.recomputeProtection_stores
  refine ⟨fun k => each k (List.mem_finRange k), first, .inr (one.imp id fun ⟨k, _, hk⟩ => ⟨k, hk⟩), stores.same .level,
    fun k => ?_, stores.same .silenceCause, stores.same .target, fun h h' => ?_, fun hoff => ?_,
    s.keeps_recomputeProtection.frame⟩
  · show s.recomputeProtection.drive.slotCauses[k] = _
    rw [stores.same .slotCauses]
    exact vecTab_get _ _ _
  · obtain ⟨rest, window, count, turned, -⟩ := s.recomputeProtection_rises h h'
    exact ⟨rest, window, count, turned⟩
  · obtain ⟨shown, ramp⟩ := s.recomputeProtection_shows hoff
    exact ⟨ramp, shown.1⟩

end Sys2Proof.Machine

/-! ## The EMF window -/

namespace Sys2Proof.Machine

-- One proof at a time: proofs that wait for one another would each hold a thread.
set_option Elab.async false

section
variable (s : State)

/-! ### The window opens, samples and times out -/

/-- The window entered SETTLING (R38). -/
def State.windowOpened : State :=
  s.withDrive { s.drive with
    window := .settling
    windowId := s.drive.windowId + 1
    windowMuted := false
    periodTimer := .stopped
    settleTimer := s.startTimer (s.drive.profile.settle * 10)
    channels := s.drive.channels.map fun _ x => x.forget }

/-- An open window leaves the bridges without duty (R19). -/
theorem State.appliedDuty_of_open (h : s.drive.window ≠ .closed) (c : Channel) : s.appliedDuty c = 0 :=
  s.appliedDuty_of_zeroDuty c (by simp [State.zeroDuty, h])

/-- The window entered SAMPLING (R38). -/
def State.windowSampling : State :=
  s.withDrive { s.drive with
    window := .sampling
    settleTimer := .stopped
    limitTimer := s.startTimer windowLimitInterval
    channels := s.drive.channels.map fun c x => { x with requested := (s.drive.profile.trim.get c).enabled } }

/-- The window closed as timed out (R40). -/
def State.windowTimedOut : State := s.withDrive { s.drive.closeWindow with timedOut := s.drive.timedOut + 1#16 }

/-- The period timer of a drive whose window is closed runs exactly under the conditions of R37. -/
theorem State.settleWindow_runs (h : s.drive.window = .closed) :
    s.settleWindow.drive.periodTimer.isRunning = true ↔
      s.drive.state = .running ∧ 0 < s.drive.ramp ∧ 0 < s.drive.profile.emfPeriod ∧
        (s.drive.profile.trim.a.enabled = true ∨ s.drive.profile.trim.b.enabled = true) ∧
        s.power.state ≠ .spent ∧ s.part = .run := by
  have may : s.windowMayOpen = true ↔ s.drive.state = .running ∧ 0 < s.drive.ramp ∧ 0 < s.drive.profile.emfPeriod ∧
      (s.drive.profile.trim.a.enabled = true ∨ s.drive.profile.trim.b.enabled = true) ∧
      s.power.state ≠ .spent ∧ s.part = .run := by
    simp [State.windowMayOpen, DriveProfile.anyEnabled, h, and_assoc]
  rw [← may]
  unfold State.settleWindow
  split
  · refine iff_of_true ?_ ‹_›
    split
    · assumption
    · rfl
  · exact iff_of_false (by simp) ‹_›

end

/-- Settles O10, timer by timer. -/
theorem emfWindowOpensSamplesAndTimesOut : Obligations.EmfWindowOpensSamplesAndTimesOut := by
  intro s p
  refine ⟨fun hrun => ?_, fun hrun => ?_, fun hrun => ?_⟩
  · have taken : exec .windowPeriodExpiry s = .next s.windowOpened.latchBridge := congrArg Host.Outcome.next (if_pos hrun)
    have same := s.windowOpened.driveSame_latchBridge
    have zero (c : Channel) : s.windowOpened.appliedDuty c = 0 := s.windowOpened.appliedDuty_of_open (by simp [State.windowOpened]) c
    refine ⟨_, taken, same.same .window, same.same .periodTimer, same.same .settleTimer, same.same .limitTimer, fun c => ⟨?_, ?_⟩,
      same.same .ramp, same.same .state, same.settings, ?_⟩
    · exact State.appliedDuty_of_open _ (by rw [same.same .window]; simp [State.windowOpened]) c
    · rw [State.latchBridge_get, zero]
      simp [State.windowOpened, ChannelState.forget]
    · exact State.sameExcept_trans (s.sameExcept_withDrive _) (State.keeps_latchBridge _).frame
  · have taken : exec .settleTimerExpiry s = .next (s.windowSampling.withSequencer { s.sequencer with
        requests := s.sequencer.requests ++ [⟨s.drive.windowId, s.windowSampling.drive.requestedSlots⟩] }) :=
      congrArg Host.Outcome.next (if_pos hrun)
    have slots : s.windowSampling.drive.requestedSlots =
        (if p.trim.a.enabled then [slotEmfA] else []) ++ (if p.trim.b.enabled then [slotEmfB] else []) := rfl
    refine ⟨_, taken, rfl, rfl, rfl, fun c => PerChannel.get_map _ _ c, by rw [slots]; rfl, rfl, rfl,
      ⟨rfl, rfl, rfl, rfl, rfl, rfl, rfl, rfl, rfl⟩, ?_⟩
    exact State.sameExcept_trans (State.sameExcept_mono (s.sameExcept_withDrive _) (by decide))
      (State.sameExcept_mono (State.sameExcept_withSequencer _ _) (by decide))
  · have taken : exec .windowLimitExpiry s = .next s.windowTimedOut.latchBridge.settleWindow :=
      congrArg Host.Outcome.next (if_pos hrun)
    have same := s.windowTimedOut.latchBridge.driveSame_settleWindow
    have get (c : Channel) : s.windowTimedOut.latchBridge.settleWindow.drive.channels.get c =
        { (s.drive.channels.get c).forget with
          pwm := min (s.drive.channels.get c).pwm (s.windowTimedOut.appliedDuty c) } := by
      rw [same.same .channels, State.latchBridge_get]
      simp [State.windowTimedOut, Drive.closeWindow, ChannelState.forget]
    refine ⟨_, taken, same.same .window, same.same .settleTimer, same.same .limitTimer, same.same .timedOut,
      same.same .completed, same.same .closedEarly, fun c => ?_, same.same .ramp, same.same .state,
      s.windowTimedOut.latchBridge.settleWindow_runs rfl, ?_⟩
    · rw [get]
      rfl
    · exact State.sameExcept_trans (s.sameExcept_withDrive _)
        (State.sameExcept_trans (State.keeps_latchBridge _).frame (State.keeps_settleWindow _).frame)

/-! ### Readings -/

section
variable (s : State)

/-- A reading for a window that has closed, for an earlier one, or for a channel that is not requested is discarded
(R39, R40). -/
theorem State.deliverEmf_discarded (c : Channel) (w value : Nat)
    (h : s.drive.window ≠ .sampling ∨ s.drive.windowId ≠ w ∨ (s.drive.channels.get c).requested = false) :
    s.deliverEmf c w value = s := by
  refine if_neg ?_
  rintro ⟨sampling, id, requested⟩
  rcases h with h | h | h
  · exact h sampling
  · exact h id
  · simp [h] at requested

/-- The reading taken into its channel. -/
def State.readingTaken (c : Channel) (value : Nat) : State :=
  s.withDrive { s.drive with
    channels := s.drive.channels.set c { s.drive.channels.get c with reading := some value } }

theorem State.readingTaken_get (c : Channel) (value : Nat) (d : Channel) :
    (s.readingTaken c value).drive.channels.get d =
      { s.drive.channels.get d with reading := if d = c then some value else (s.drive.channels.get d).reading } := by
  simp only [State.readingTaken, State.withDrive_drive, PerChannel.get_set]
  by_cases h : d = c
  · subst h
    simp
  · simp [h]

/-- The last reading outstanding completes the window (R39). -/
theorem State.deliverEmf_completes (c : Channel) (w value : Nat) (hs : s.drive.window = .sampling)
    (hw : s.drive.windowId = w) (hr : (s.drive.channels.get c).requested = true)
    (others : ∀ d : Channel, d ≠ c →
      (s.drive.channels.get d).requested = false ∨ (s.drive.channels.get d).reading.isSome = true) :
    s.deliverEmf c w value = (s.readingTaken c value).completeWindow := by
  have answered (d : Channel) : ((s.readingTaken c value).drive.channels.get d).answered = true := by
    rw [s.readingTaken_get]
    by_cases hd : d = c
    · simp [ChannelState.answered, hd]
    · simpa [ChannelState.answered, hd] using others d hd
  have a := answered .a
  have b := answered .b
  refine (if_pos ⟨hs, hw, hr⟩).trans (if_pos ?_)
  rw [Bool.and_eq_true]
  exact ⟨a, b⟩

/-- The window closed with its channels completed, before D is formed anew (R15, R39). -/
def State.windowCompleted : State :=
  let u := s.withDrive { s.drive with channels := s.drive.channels.map s.completeChannel }
  u.withDrive { u.drive.closeWindow with completed := u.drive.completed + 1#16 }

theorem State.windowCompleted_get (d : Channel) : s.windowCompleted.drive.channels.get d =
    (s.completeChannel d (s.drive.channels.get d)).forget := by
  simp [State.windowCompleted, Drive.closeWindow]

/-- A completed window: closed and counted, each channel's C, integral, correction and D formed of its completion. -/
theorem State.completeWindow_eq : s.completeWindow.drive.window = .closed ∧
    s.completeWindow.drive.completed = s.drive.completed + 1#16 ∧
    s.completeWindow.drive.closedEarly = s.drive.closedEarly ∧ s.completeWindow.drive.timedOut = s.drive.timedOut ∧
    s.completeWindow.drive.limitTimer = .stopped ∧ s.completeWindow.drive.ramp = s.drive.ramp ∧
    s.completeWindow.DutyFormed ∧
    ∀ d : Channel,
      let z := s.completeChannel d (s.drive.channels.get d)
      let y := s.completeWindow.drive.channels.get d
      y.lastEmf = z.lastEmf ∧ (y.command ≠ 0 → y.integral = z.integral ∧ y.correction = z.correction) := by
  have e : s.completeWindow = s.windowCompleted.refreshDuty.settleWindow := rfl
  have same := s.windowCompleted.refreshDuty.driveSame_settleWindow
  have fresh := s.windowCompleted.driveSame_refreshDuty.mono (m := [.channels, .periodTimer]) |>.trans same.mono
  rw [e]
  refine ⟨fresh.same .window, fresh.same .completed, fresh.same .closedEarly, fresh.same .timedOut, fresh.same .limitTimer,
    fresh.same .ramp, s.windowCompleted.dutyFormed_refreshDuty.settleWindow, fun d => ?_⟩
  dsimp only
  obtain ⟨n, h, -⟩ := s.windowCompleted.refreshDuty_get d
  rw [same.same .channels, h, s.windowCompleted_get]
  by_cases hc : trimCommand (s.windowCompleted.drive.profile.trim.get d) s.windowCompleted.drive.ramp = 0 <;>
    simp [State.formChannel, hc, ChannelState.forget]

/-- A channel that does not take its reading stands (R39). -/
theorem State.completeChannel_stands (c : Channel) (x : ChannelState)
    (h : ¬ (x.requested = true ∧ (s.drive.profile.trim.get c).enabled = true)) : s.completeChannel c x = x := by
  unfold State.completeChannel
  dsimp only
  split
  · rw [if_neg fun he => h ⟨‹_›, he⟩]
  · rfl

/-- A channel that takes its reading: the last EMF value, and the integral and the correction where it compensates
(R15, R17). -/
theorem State.completeChannel_takes (c : Channel) (x : ChannelState) (code : Nat) (hr : x.requested = true)
    (hc : x.reading = some code) (he : (s.drive.profile.trim.get c).enabled = true) :
    s.completeChannel c x = { (if x.command = 0 ∨ s.drive.profile.emfPeriod = 0 ∨ s.drive.windowMuted then x
      else x.compensate s.drive.profile code) with lastEmf := code * s.drive.profile.emfScale / 256 } := by
  unfold State.completeChannel
  dsimp only
  split
  · rename_i h
    rw [if_pos he]
    cases hc.symm.trans h
    rfl
  · rename_i h
    exact absurd hc (h code hr)

end

end Sys2Proof.Machine

/-! ## The smoke unit's timers, holds, dry alarms and budget -/

namespace Sys2Proof.Machine

-- One proof at a time: proofs that wait for one another would each hold a thread.
set_option Elab.async false

section
variable (s : State)

/-! ### The fan and a move -/

theorem SmokeState.heating_iff (x : SmokeState) : x.heating = true ↔ x = .warming ∨ x = .ready ∨ x = .idling := by
  cases x <;> simp [SmokeState.heating]

/-- The fan duty by the first row of R97's table that applies. -/
theorem State.fanDuty_eq : s.fanDuty =
    if s.part = .quiescing ∨ s.part = .quiet ∨ s.part = .resetting ∨ s.smoke.held = true then 0
    else if s.smoke.state = .warming ∨ s.smoke.state = .ready ∨ s.smoke.state = .idling then
      (if s.smoke.pulseTimer.isRunning then s.smoke.profile.pulseDuty else s.smoke.profile.fanIdle)
    else if (s.smoke.state = .off ∨ s.smoke.state = .dry) ∧ s.smoke.cooldownTimer.isRunning = true then s.smoke.profile.fanIdle
    else 0 := by
  unfold State.fanDuty
  dsimp only
  have off : (s.part = .quiescing ∨ s.part = .quiet ∨ s.part = .resetting ∨ s.smoke.held = true) ↔
      (s.part = .quiescing ∨ s.part = .quiet ∨ s.part = .resetting) ∨ s.smoke.held = true := by tauto
  simp only [off]
  by_cases hp : s.part = .quiescing ∨ s.part = .quiet ∨ s.part = .resetting
  · rw [if_pos hp, if_pos (.inl hp)]
  · by_cases hh : s.smoke.held = true
    · rw [if_neg hp, if_pos hh, if_pos (.inr hh)]
    · rw [if_neg hp, if_neg hh, if_neg (not_or.mpr ⟨hp, hh⟩)]
      by_cases hs : s.smoke.state.heating = true
      · rw [if_pos ((SmokeState.heating_iff _).mp hs)]
        simp [hs]
      · rw [if_neg fun h => hs ((SmokeState.heating_iff _).mpr h)]
        simp [hs]

/-- The unit's record with the fan read again. -/
theorem State.rereadFan_smoke : s.rereadFan.smoke =
    { s.smoke with fan := s.fanDuty, fanPwm := min s.smoke.fanPwm s.fanDuty } := rfl

theorem State.rereadFan_fanDuty : s.rereadFan.fanDuty = s.fanDuty := rfl

theorem State.smokeMoved_smoke (old : SmokeState) : (s.smokeMoved old).smoke =
    { s.smoke with fan := s.fanDuty, fanPwm := min s.smoke.fanPwm s.fanDuty } := by
  unfold State.smokeMoved
  dsimp only
  split
  · rfl
  · rw [(State.keeps_writeSmokeReadings _).same .smoke]
    rfl

theorem State.smokeMoved_fanDuty (old : SmokeState) : (s.smokeMoved old).fanDuty = s.fanDuty := by
  have smoke := s.smokeMoved_smoke old
  have part : (s.smokeMoved old).part = s.part := (s.keeps_smokeMoved old).same .part
  unfold State.fanDuty Smoke.held
  rw [smoke, part]

/-- A unit whose state stands has its fan read again and no more. -/
theorem State.smokeMoved_stays {old : SmokeState} (h : s.smoke.state = old) : s.smokeMoved old = s.rereadFan := if_pos h

/-- A unit whose state has changed writes its readings. -/
theorem State.smokeMoved_moves {old : SmokeState} (h : s.smoke.state ≠ old) :
    s.smokeMoved old = s.rereadFan.writeSmokeReadings := if_neg h

theorem State.smokeMoved_shows {old : SmokeState} (h : s.smoke.state ≠ old) : (s.smokeMoved old).SmokeGroupShows := by
  rw [s.smokeMoved_moves h]
  exact State.writeSmokeReadings_shows _

/-- A timer of a number of units, not started for 0. -/
theorem State.startUnlessZero_mul (n : Nat) {unit : Nat} (h : 0 < unit) :
    s.startUnlessZero (n * unit) = if n = 0 then .stopped else .running (millis s.time + n * unit) := by
  unfold State.startUnlessZero
  by_cases hn : n = 0
  · simp [hn]
  · rw [if_neg hn, if_neg (Nat.mul_pos (Nat.pos_of_ne_zero hn) h).ne']
    rfl

end

/-- IDLE_TIMER_EXPIRY by the unit's state (R95). -/
theorem exec_idleTimerExpiry (s : State) (h : s.smoke.idleTimer.isRunning = true) :
    exec .idleTimerExpiry s = .next (if s.smoke.state = .warming ∨ s.smoke.state = .ready
      then (s.withSmoke { s.smoke with
        state := .idling, idleTimer := .stopped
        puffTimer := s.startUnlessZero (hundredMillis s.smoke.profile.puffInterval) }).smokeMoved s.smoke.state
      else s.withSmoke { s.smoke with idleTimer := .stopped }) := by
  show execIdleTimerExpiry s = _
  unfold execIdleTimerExpiry
  rw [if_pos h]
  dsimp only
  split <;> rename_i hs
  · rw [if_pos (.inl hs)]
    rfl
  · rw [if_pos (.inr hs)]
    rfl
  all_goals rw [if_neg (by simp [hs])]

/-- Settles O25, timer by timer. -/
theorem smokeTimersExpire : Obligations.SmokeTimersExpire := by
  intro s u off heating cooling puff beside unpulsed pulsed cooled
  have puff_eq : s.startUnlessZero (hundredMillis u.profile.puffInterval) = puff := s.startUnlessZero_mul _ (by decide)
  refine ⟨fun h => ?_, fun h hs => ?_, fun h hw hr => ?_, fun h => ?_, fun h => ?_, fun h => ?_, fun h => ?_⟩
  · refine congrArg Host.Outcome.next ((if_pos h).trans ?_)
    simp only [Smoke.setHeater, Nat.min_zero]
    rfl
  · let v : Smoke := { u with state := .idling, idleTimer := .stopped, puffTimer := puff }
    have taken : exec .idleTimerExpiry s = .next ((s.withSmoke v).smokeMoved u.state) := by
      rw [exec_idleTimerExpiry s h, if_pos hs, puff_eq]
    have moved : (s.withSmoke v).smoke.state ≠ u.state := by rcases hs with hs | hs <;> rw [hs] <;> exact nofun
    have fan := (s.withSmoke v).smokeMoved_fanDuty u.state
    have smoke := (s.withSmoke v).smokeMoved_smoke u.state
    have shows := (s.withSmoke v).smokeMoved_shows moved
    have byte := (s.withSmoke v).rereadFan.storeAt_writeSmokeReadings
    refine ⟨_, taken, ?_, ?_, shows, fun i hi => ?_, State.sameExcept_trans (State.sameExcept_mono (s.sameExcept_withSmoke _) (by decide))
      (State.sameExcept_smokeMoved _ _)⟩
    · rw [smoke, fan]
      rfl
    · rw [State.smokeMoved_moves _ moved, byte]
      rfl
    · have hi : i < 21 := hi
      have e : smokeGroup + 1 + i = 0x0901 + i := rfl
      rw [smoke, State.smokeMoved_moves _ moved, e, byte, if_neg (by omega), if_neg (by omega), if_neg (by omega),
        if_pos (by omega), Nat.add_sub_cancel_left]
      rfl
  · rw [exec_idleTimerExpiry s h, if_neg (not_or.mpr ⟨hw, hr⟩)]
    rfl
  · exact congrArg Host.Outcome.next (if_neg (Bool.eq_false_iff.mp h))
  · have duty : (s.withSmoke { u with pulseTimer := .stopped }).fanDuty = unpulsed := by
      rw [State.fanDuty_eq]
      rfl
    refine congrArg Host.Outcome.next ((if_pos h).trans ?_)
    unfold State.rereadFan
    rw [duty]
    rfl
  · let w : Smoke := { u with puffTimer := puff, pulseTimer := s.startTimer (millis u.profile.pulseLength) }
    have duty : (s.withSmoke w).fanDuty = pulsed := by
      rw [State.fanDuty_eq]
      simp only [w, State.withSmoke_smoke, State.startTimer_isRunning, if_true]
      show (if off then 0 else if heating then u.profile.pulseDuty else if cooling then u.profile.fanIdle else 0) = pulsed
      by_cases hh : heating <;> simp only [pulsed, beside, hh, if_true, if_false]
    have taken : exec .idlePuffExpiry s = .next (s.withSmoke w).rereadFan := by
      refine congrArg Host.Outcome.next ((if_pos h).trans ?_)
      simp only [w, ← puff_eq]
      rfl
    rw [taken, State.rereadFan, duty]
    rfl
  · have duty : (s.withSmoke { u with cooldownTimer := .stopped }).fanDuty = cooled := by
      rw [State.fanDuty_eq]
      simp only [State.withSmoke_smoke, Timer.stopped_isRunning, Bool.false_eq_true, and_false, if_false]
      rfl
    refine congrArg Host.Outcome.next ((if_pos h).trans ?_)
    unfold State.rereadFan
    rw [duty]
    rfl

end Sys2Proof.Machine

/-! ## The smoke unit's holds, dry alarms and budget -/

namespace Sys2Proof.Machine

-- One proof at a time: proofs that wait for one another would each hold a thread.
set_option Elab.async false

section
variable (s : State)

/-! ### Holds (R92) -/

/-- A hold in force keeps the fan at 0 (R97). -/
theorem State.fanDuty_of_held (h : s.smoke.held = true) : s.fanDuty = 0 := by
  rw [s.fanDuty_eq, if_pos (.inr (.inr (.inr h)))]

/-- The hold causes recorded. -/
def State.holdsRecorded (power : Bool) (alarms : Vector Bool 12) : State :=
  s.withSmoke { s.smoke with powerHold := power, alarmHold := alarms }

/-- The unit on leaving the heating states for HELD (R92). -/
def State.holdBegun : State := s.withSmoke { s.smoke.leaveHeating with state := .held }

/-- A change of the holds: the first to begin takes a heating unit to HELD, the last to end takes a HELD one out of it,
and any other change reads the fan again (R92). -/
theorem State.setHolds_eq (power : Bool) (alarms : Vector Bool 12) :
    (s.smoke.held = false → (s.holdsRecorded power alarms).smoke.held = true → s.smoke.state.heating = true →
      s.setHolds power alarms = (s.holdsRecorded power alarms).holdBegun.smokeMoved s.smoke.state) ∧
    (s.smoke.held = true → (s.holdsRecorded power alarms).smoke.held = false → s.smoke.state = .held →
      s.setHolds power alarms = (if s.smoke.enabled then (s.holdsRecorded power alarms).enterWarming
        else (s.holdsRecorded power alarms).enterSmokeOff).smokeMoved s.smoke.state) ∧
    (¬ (s.smoke.held = false ∧ (s.holdsRecorded power alarms).smoke.held = true ∧ s.smoke.state.heating = true) →
      ¬ (s.smoke.held = true ∧ (s.holdsRecorded power alarms).smoke.held = false ∧ s.smoke.state = .held) →
      s.setHolds power alarms = (s.holdsRecorded power alarms).rereadFan) := by
  have state : (s.holdsRecorded power alarms).smoke.state = s.smoke.state := rfl
  have enabled : (s.holdsRecorded power alarms).smoke.enabled = s.smoke.enabled := rfl
  have e : s.setHolds power alarms = (if !s.smoke.held && (s.holdsRecorded power alarms).smoke.held then
      (if (s.holdsRecorded power alarms).smoke.state.heating then (s.holdsRecorded power alarms).holdBegun
        else s.holdsRecorded power alarms)
    else if s.smoke.held && !(s.holdsRecorded power alarms).smoke.held then
      (if (s.holdsRecorded power alarms).smoke.state = .held then
        (if (s.holdsRecorded power alarms).smoke.enabled then (s.holdsRecorded power alarms).enterWarming
          else (s.holdsRecorded power alarms).enterSmokeOff)
        else s.holdsRecorded power alarms)
    else s.holdsRecorded power alarms).smokeMoved s.smoke.state := rfl
  rw [e, state, enabled]
  have stays := (s.holdsRecorded power alarms).smokeMoved_stays state
  generalize s.holdsRecorded power alarms = r at *
  refine ⟨fun hb ha hs => ?_, fun hb ha hs => ?_, fun h h' => ?_⟩
  · simp only [hb, ha, hs, Bool.not_false, Bool.and_self, if_true]
  · simp only [hb, ha, hs, Bool.not_true, Bool.not_false, Bool.and_self, Bool.false_eq_true, if_true, if_false]
  · rw [← stays]
    congr 1
    cases hb : s.smoke.held <;> cases ha : r.smoke.held <;> simp_all

/-- The unit's hold flag with its causes recorded. -/
theorem State.holdsRecorded_held (power : Bool) (alarms : Vector Bool 12) :
    (s.holdsRecorded power alarms).smoke.held = true ↔ power = true ∨ ∃ k : SlotIx, alarms[k] = true :=
  Smoke.held_iff _

/-- What a change of the holds records, whatever else it does. -/
theorem State.setHolds_smoke (power : Bool) (alarms : Vector Bool 12) :
    (s.setHolds power alarms).smoke.powerHold = power ∧ (s.setHolds power alarms).smoke.alarmHold = alarms ∧
      (s.setHolds power alarms).smoke.alarmDry = s.smoke.alarmDry ∧
      (s.setHolds power alarms).smoke.enabled = s.smoke.enabled ∧
      (s.setHolds power alarms).smoke.profile = s.smoke.profile ∧
      (s.setHolds power alarms).smoke.budget = s.smoke.budget ∧
      (s.smoke.state = .dry → (s.setHolds power alarms).smoke.state = .dry) := by
  obtain ⟨begins, ends, other⟩ := s.setHolds_eq power alarms
  by_cases hb : s.smoke.held = false ∧ (s.holdsRecorded power alarms).smoke.held = true ∧ s.smoke.state.heating = true
  · obtain ⟨h₁, h₂, h₃⟩ := hb
    rw [begins h₁ h₂ h₃, State.smokeMoved_smoke]
    exact ⟨rfl, rfl, rfl, rfl, rfl, rfl, fun h => by rw [h] at h₃; cases h₃⟩
  · by_cases he : s.smoke.held = true ∧ (s.holdsRecorded power alarms).smoke.held = false ∧ s.smoke.state = .held
    · obtain ⟨h₁, h₂, h₃⟩ := he
      rw [ends h₁ h₂ h₃, State.smokeMoved_smoke]
      split <;> exact ⟨rfl, rfl, rfl, rfl, rfl, rfl, fun h => by rw [h] at h₃; cases h₃⟩
    · rw [other hb he]
      exact ⟨rfl, rfl, rfl, rfl, rfl, rfl, id⟩

/-- A hold in force after the change keeps the fan at 0. -/
theorem State.setHolds_fanDuty (power : Bool) (alarms : Vector Bool 12) (h : power = true ∨ ∃ k : SlotIx, alarms[k] = true) :
    (s.setHolds power alarms).fanDuty = 0 := by
  obtain ⟨hp, ha, -⟩ := s.setHolds_smoke power alarms
  refine State.fanDuty_of_held _ ((Smoke.held_iff _).mpr ?_)
  rwa [hp, ha]

/-- The record that `fan` and `power`, `alarms` leave: what every change of the holds has in common. -/
def Smoke.holding (u : Smoke) (power : Bool) (alarms : Vector Bool 12) (fan : Nat) : Smoke :=
  { u with powerHold := power, alarmHold := alarms, fan := fan, fanPwm := min u.fanPwm fan }

/-- The first hold to begin (R92). -/
theorem State.setHolds_begins (power : Bool) (alarms : Vector Bool 12) (hb : s.smoke.held = false)
    (ha : power = true ∨ ∃ k : SlotIx, alarms[k] = true) (hs : s.smoke.state.heating = true) :
    (s.setHolds power alarms).smoke = { s.smoke.holding power alarms (s.setHolds power alarms).fanDuty with
        heater := 0, heaterPwm := 0, computed := 0, idleTimer := .stopped, puffTimer := .stopped
        pulseTimer := .stopped, staleTimer := .stopped, stale := false, state := .held } ∧
      (s.setHolds power alarms).SmokeGroupShows := by
  have e := (s.setHolds_eq power alarms).1 hb ((s.holdsRecorded_held _ _).mpr ha) hs
  rw [e, State.smokeMoved_fanDuty, State.smokeMoved_smoke]
  refine ⟨?_, State.smokeMoved_shows _ ?_⟩
  · simp only [State.holdBegun, Smoke.leaveHeating, Smoke.setHeater, Nat.min_zero]
    rfl
  · intro h
    rw [← h] at hs
    cases hs

/-- The last hold to end (R92). -/
theorem State.setHolds_ends (power : Bool) (alarms : Vector Bool 12) (hb : s.smoke.held = true)
    (ha : ¬ (power = true ∨ ∃ k : SlotIx, alarms[k] = true)) (hs : s.smoke.state = .held) :
    (s.smoke.enabled = true →
      (s.setHolds power alarms).smoke = { s.smoke.holding power alarms (s.setHolds power alarms).fanDuty with
        state := .warming, heater := 0, heaterPwm := 0, computed := 0, stale := false, cooldownTimer := .stopped
        staleTimer := .running (millis s.time + 5000000)
        idleTimer := if s.drive.state = .idle then .running (millis s.time + seconds s.smoke.profile.idleDelay)
          else .stopped }) ∧
    (s.smoke.enabled = false →
      (s.setHolds power alarms).smoke = { s.smoke.holding power alarms (s.setHolds power alarms).fanDuty with
        heater := 0, heaterPwm := 0, computed := 0, idleTimer := .stopped, puffTimer := .stopped
        pulseTimer := .stopped, staleTimer := .stopped, stale := false, state := .off
        cooldownTimer := if s.smoke.profile.cooldown = 0 then .stopped
          else .running (millis s.time + seconds s.smoke.profile.cooldown) }) ∧
    (s.setHolds power alarms).SmokeGroupShows := by
  have freed : (s.holdsRecorded power alarms).smoke.held = false := by
    rw [Bool.eq_false_iff, ne_eq, s.holdsRecorded_held]
    exact ha
  have e := (s.setHolds_eq power alarms).2.1 hb freed hs
  rw [e, State.smokeMoved_fanDuty, State.smokeMoved_smoke]
  refine ⟨fun he => ?_, fun he => ?_, State.smokeMoved_shows _ ?_⟩
  · rw [he]
    simp only [if_true, State.enterWarming, Smoke.setHeater, Nat.min_zero]
    rfl
  · have cooling := (s.holdsRecorded power alarms).startUnlessZero_mul s.smoke.profile.cooldown (unit := 1000000) (by decide)
    rw [he]
    simp only [Bool.false_eq_true, if_false, State.enterSmokeOff, Smoke.leaveHeating, Smoke.setHeater, Nat.min_zero,
      State.withSmoke_smoke]
    rw [show (s.holdsRecorded power alarms).cooldownStart = _ from cooling]
    rfl
  · rw [hs]
    split <;> exact nofun

/-- Any other change of the holds (R92). -/
theorem State.setHolds_reads (power : Bool) (alarms : Vector Bool 12)
    (h : ¬ (s.smoke.held = false ∧ (power = true ∨ ∃ k : SlotIx, alarms[k] = true) ∧ s.smoke.state.heating = true))
    (h' : ¬ (s.smoke.held = true ∧ ¬ (power = true ∨ ∃ k : SlotIx, alarms[k] = true) ∧ s.smoke.state = .held)) :
    s.setHolds power alarms = s.withSmoke (s.smoke.holding power alarms (s.setHolds power alarms).fanDuty) := by
  have recorded := s.holdsRecorded_held power alarms
  have e := (s.setHolds_eq power alarms).2.2 (by rwa [recorded]) (by rwa [Bool.eq_false_iff, ne_eq, recorded])
  rw [e, State.rereadFan_fanDuty]
  rfl

/-! ### Dry alarms (R96) -/

/-- The unit's record on entry to DRY (R96). -/
def Smoke.dried (u : Smoke) (cooldown : Timer) : Smoke :=
  { u with
    state := .dry, heater := 0, heaterPwm := 0, computed := 0, idleTimer := .stopped, puffTimer := .stopped
    pulseTimer := .stopped, staleTimer := .stopped, stale := false, cooldownTimer := cooldown }

theorem State.enterDry_dry (subject : Byte) (detail : Half) (h : s.smoke.state = .dry) : s.enterDry subject detail = s :=
  if_pos h

/-- The cooldown timer's length. -/
theorem State.cooldownStart_eq : s.cooldownStart = if s.smoke.profile.cooldown = 0 then .stopped
    else .running (millis s.time + seconds s.smoke.profile.cooldown) :=
  s.startUnlessZero_mul s.smoke.profile.cooldown (unit := 1000000) (by decide)

/-- Entry to DRY from any other state, with SMOKE_DRY (R96). -/
theorem State.enterDry_eq (subject : Byte) (detail : Half) (h : s.smoke.state ≠ .dry) :
    (∃ fan fanPwm, (s.enterDry subject detail).smoke =
      { s.smoke.dried (if s.smoke.state = .off then s.smoke.cooldownTimer else s.cooldownStart) with
        fan := fan, fanPwm := fanPwm }) ∧
      (s.enterDry subject detail).AttendsAs (s.event .smokeDry subject detail) := by
  have e : s.enterDry subject detail = (((s.withSmoke (s.smoke.dried (if s.smoke.state = .off then s.smoke.cooldownTimer
      else s.cooldownStart))).smokeMoved s.smoke.state).event .smokeDry subject detail) := by
    refine (if_neg h).trans ?_
    simp only [Smoke.leaveHeating, Smoke.setHeater, Nat.min_zero]
    rfl
  rw [e]
  generalize (if s.smoke.state = .off then s.smoke.cooldownTimer else s.cooldownStart) = cooldown
  have dried : s.Shows (s.withSmoke (s.smoke.dried cooldown)) Component.ofSmoke := (State.Shows.of_frame (s.sameExcept_withSmoke _)).mono
  refine ⟨?_, ((State.AttendsAs.of_shows (dried.trans (State.shows_smokeMoved _ _))).event _ _ _)⟩
  rw [(State.keeps_event _ _ _ _).same .smoke, State.smokeMoved_smoke]
  exact ⟨(s.withSmoke (s.smoke.dried cooldown)).fanDuty, min (s.smoke.dried cooldown).fanPwm
    (s.withSmoke (s.smoke.dried cooldown)).fanDuty, rfl⟩

/-- The slots that come to contribute DRY. -/
def State.freshDry (drys : Vector Bool 12) : List SlotIx :=
  (List.finRange 12).filter fun k => drys[k] && !s.smoke.alarmDry[k]

/-- A unit in DRY takes further dry alarms into its record alone. -/
theorem State.foldl_enterDry_dry (ks : List SlotIx) (h : s.smoke.state = .dry) :
    ks.foldl (fun s k => s.enterDry 2#8 (BitVec.ofNat 16 k.val)) s = s := by
  induction ks generalizing s with
  | nil => rfl
  | cons k ks ih => rw [List.foldl_cons, s.enterDry_dry _ _ h, ih s h]

/-- The dry alarms recorded. -/
def State.drysRecorded (drys : Vector Bool 12) : State := s.withSmoke { s.smoke with alarmDry := drys }

theorem State.smokeContributions_eq (holds drys : Vector Bool 12) :
    (s.smoke.state = .dry ∨ s.freshDry drys = [] →
      s.smokeContributions holds drys = (s.drysRecorded drys).setHolds s.smoke.powerHold holds) ∧
    (∀ (k : SlotIx) (ks : List SlotIx), s.smoke.state ≠ .dry → s.freshDry drys = k :: ks →
      s.smokeContributions holds drys =
        ((s.drysRecorded drys).enterDry 2#8 (BitVec.ofNat 16 k.val)).setHolds s.smoke.powerHold holds) := by
  have e : s.smokeContributions holds drys =
      ((s.freshDry drys).foldl (fun s k => s.enterDry 2#8 (BitVec.ofNat 16 k.val)) (s.drysRecorded drys)).setHolds
        ((s.freshDry drys).foldl (fun s k => s.enterDry 2#8 (BitVec.ofNat 16 k.val)) (s.drysRecorded drys)).smoke.powerHold
        holds := rfl
  refine ⟨fun h => ?_, fun k ks h hk => ?_⟩
  · have same : (s.freshDry drys).foldl (fun s k => s.enterDry 2#8 (BitVec.ofNat 16 k.val)) (s.drysRecorded drys) =
        s.drysRecorded drys := by
      rcases h with h | h
      · exact State.foldl_enterDry_dry _ _ h
      · rw [h]
        rfl
    rw [e, same]
    rfl
  · obtain ⟨⟨fan, fanPwm, dried⟩, -⟩ := (s.drysRecorded drys).enterDry_eq 2#8 (BitVec.ofNat 16 k.val) h
    rw [e, hk, List.foldl_cons, State.foldl_enterDry_dry _ _ (by rw [dried]; rfl), dried]
    rfl

/-- The lowest slot that comes to contribute DRY is the first of them. -/
theorem State.freshDry_of_lowest (drys : Vector Bool 12) (k : SlotIx) (h : drys[k] = true ∧ s.smoke.alarmDry[k] = false)
    (lowest : ∀ j : SlotIx, j < k → ¬ (drys[j] = true ∧ s.smoke.alarmDry[j] = false)) : ∃ ks, s.freshDry drys = k :: ks := by
  have member (j : SlotIx) : j ∈ s.freshDry drys ↔ drys[j] = true ∧ s.smoke.alarmDry[j] = false := by
    simp [-Fin.getElem_fin, State.freshDry]
  have sorted : (s.freshDry drys).Pairwise (· < ·) := (List.pairwise_lt_finRange 12).filter _
  cases hf : s.freshDry drys with
  | nil => exact absurd ((member k).mpr h) (by simp [hf])
  | cons j js =>
    rw [hf] at member sorted
    obtain ⟨first, -⟩ := List.pairwise_cons.mp sorted
    rcases List.mem_cons.mp ((member k).mpr h) with e | e
    · exact ⟨js, by rw [e]⟩
    · exact absurd ((member j).mp List.mem_cons_self) (lowest j (first k e))

theorem State.freshDry_of_none (drys : Vector Bool 12) (h : ∀ k : SlotIx, ¬ (drys[k] = true ∧ s.smoke.alarmDry[k] = false)) :
    s.freshDry drys = [] := by
  rw [State.freshDry, List.filter_eq_nil_iff]
  intro k _ hk
  exact h k (by simpa [-Fin.getElem_fin] using hk)

theorem State.EventsAs.trans {s t u : State} (h : u.EventsAs t) (k : t.EventsAs s) : u.EventsAs s := by
  obtain ⟨e, q, a⟩ := h
  obtain ⟨e', q', a'⟩ := k
  exact ⟨e.trans e', q.trans q', a.trans a'⟩

theorem State.shows_enterWarming : s.Shows s.enterWarming [.smoke] := .of_frame (s.sameExcept_withSmoke _)

theorem State.shows_enterSmokeOff : s.Shows s.enterSmokeOff [.smoke] := .of_frame (s.sameExcept_withSmoke _)

theorem State.shows_setHolds (power : Bool) (alarms : Vector Bool 12) :
    s.Shows (s.setHolds power alarms) Component.ofSmoke := by
  obtain ⟨begins, ends, other⟩ := s.setHolds_eq power alarms
  have recorded : s.Shows (s.holdsRecorded power alarms) [.smoke] := .of_frame (s.sameExcept_withSmoke _)
  by_cases hb : s.smoke.held = false ∧ (s.holdsRecorded power alarms).smoke.held = true ∧ s.smoke.state.heating = true
  · obtain ⟨h₁, h₂, h₃⟩ := hb
    rw [begins h₁ h₂ h₃]
    exact (recorded.trans (.of_frame (State.sameExcept_withSmoke _ _))).mono.trans (State.shows_smokeMoved _ _)
  · by_cases he : s.smoke.held = true ∧ (s.holdsRecorded power alarms).smoke.held = false ∧ s.smoke.state = .held
    · obtain ⟨h₁, h₂, h₃⟩ := he
      rw [ends h₁ h₂ h₃]
      refine State.Shows.trans (recorded.mono.trans (State.Shows.mono (l := [.smoke]) ?_)) (State.shows_smokeMoved _ _)
      exact .ite (fun _ => State.shows_enterWarming _) fun _ => State.shows_enterSmokeOff _
    · rw [other hb he]
      exact (recorded.trans (.of_frame (State.sameExcept_withSmoke _ _))).mono

/-- A unit that comes to DRY and takes the holds behind it. -/
theorem State.enterDry_setHolds (subject : Byte) (detail : Half) (power : Bool) (holds : Vector Bool 12)
    (h : s.smoke.state ≠ .dry) :
    let t := (s.enterDry subject detail).setHolds power holds
    t.smoke = { s.smoke.dried (if s.smoke.state = .off then s.smoke.cooldownTimer else s.cooldownStart) with
      powerHold := power, alarmHold := holds, fan := t.fanDuty, fanPwm := t.smoke.fanPwm } ∧
    t.smoke.fanPwm ≤ t.smoke.fan ∧ t.EventsAs (s.event .smokeDry subject detail) := by
  obtain ⟨⟨fan, fanPwm, dried⟩, attends⟩ := s.enterDry_eq subject detail h
  have reads := (s.enterDry subject detail).setHolds_reads power holds (by rw [dried]; simp [Smoke.dried, SmokeState.heating])
    (by rw [dried]; simp [Smoke.dried])
  have e := congrArg State.smoke reads
  rw [State.withSmoke_smoke, dried] at e
  refine ⟨?_, ?_, (attends.trans (.of_shows (State.shows_setHolds _ _ _))).2⟩
  · rw [e]
    rfl
  · rw [e]
    exact Nat.min_le_right _ _

/-! ### The budget tick (R99) -/

/-- The budget once a tick has taken the heater duty from it, while a capacity stands. -/
def Smoke.budgetAfter (u : Smoke) : Nat := if u.profile.capacity = 0 then u.budget else u.budget - u.heater

/-- Whether a tick takes the budget across the low mark. -/
abbrev Smoke.CrossesLowMark (u : Smoke) : Prop :=
  u.profile.capacity ≠ 0 ∧ u.profile.capacity * 256 / 8 ≤ u.budget ∧ u.budgetAfter < u.profile.capacity * 256 / 8

/-- The state with FLUID_LOW raised where the tick crosses the low mark. -/
def State.budgetJudged : State :=
  if s.smoke.CrossesLowMark then s.event .fluidLow 0#8 (BitVec.ofNat 16 (s.smoke.budgetAfter / 256)) else s

/-- The budget less the tick's heater duty. -/
def State.budgetTaken : State := s.withSmoke { s.smoke with budget := s.smoke.budgetAfter }

/-- The state once the tick has judged the low mark: the budget taken, and FLUID_LOW raised where it is crossed. -/
def State.budgetLow : State :=
  if s.smoke.CrossesLowMark then s.budgetTaken.event .fluidLow 0#8 (BitVec.ofNat 16 (s.smoke.budgetAfter / 256))
  else s.budgetTaken

theorem State.keeps_budgetLow : s.Keeps s.budgetLow [.smoke, .events, .eventSeq, .attention] := by
  have taken : s.Keeps s.budgetTaken [.smoke] := s.keeps_withSmoke _
  exact .ite (fun _ => taken.mono.trans (State.keeps_event _ _ _ _).mono) fun _ => taken.mono

theorem State.budgetLow_smoke : s.budgetLow.smoke = { s.smoke with budget := s.smoke.budgetAfter } := by
  unfold State.budgetLow
  split
  · rw [(State.keeps_event _ _ _ _).same .smoke]
    rfl
  · rfl

theorem State.budgetLow_attends : s.budgetLow.AttendsAs s.budgetJudged := by
  have taken : s.budgetTaken.AttendsAs s := .of_frame (s.sameExcept_withSmoke _)
  unfold State.budgetLow State.budgetJudged
  split
  · exact taken.event _ _ _
  · exact taken

/-- A tick judges the low mark and, where a heating unit has nothing left, takes it to DRY. -/
theorem State.budgetTick_eq : s.budgetTick =
    if s.smoke.profile.capacity ≠ 0 ∧ s.smoke.budgetAfter = 0 ∧ s.smoke.state.heating = true then
      s.budgetLow.enterDry 1#8 0#16 else s.budgetLow := by
  by_cases hc : s.smoke.profile.capacity = 0
  · have after : s.smoke.budgetAfter = s.smoke.budget := if_pos hc
    rw [if_neg fun h => h.1 hc, State.budgetLow, if_neg fun h => h.1 hc, State.budgetTaken, after]
    exact if_pos hc
  · have after : s.smoke.budget - s.smoke.heater = s.smoke.budgetAfter := (if_neg hc).symm
    refine (if_neg hc).trans ?_
    simp only [after, State.budgetLow, Smoke.CrossesLowMark, ne_eq, hc, not_false_eq_true, true_and]
    rfl

theorem exec_budgetTick (h : s.smoke.budgetTimer.isRunning = true) : exec .budgetTick s =
    .next (((s.withSmoke { s.smoke with budgetTimer := .running (millis s.time + 100000) }).budgetTick).writeSmokeReadings) := by
  show execBudgetTick s = _
  unfold execBudgetTick
  rw [if_pos h]
  rfl

/-- What a writing of the smoke readings leaves in the unit's own group and in the budget's bytes. -/
theorem State.writeSmokeReadings_stores :
    s.writeSmokeReadings.storeAt 0x0900 = s.storeAt 0x0900 + 1#8 ∧
      s.writeSmokeReadings.storeAt 0x0A70 = s.storeAt 0x0A70 + 1#8 ∧
      (∀ i, i < s.smoke.groupBytes.length →
        s.writeSmokeReadings.storeAt (0x0900 + 1 + i) = s.smoke.groupBytes.getD i 0#8) ∧
      ∀ i, i < 3 → s.writeSmokeReadings.storeAt (0x0A70 + 8 + i) = BitVec.ofNat 8 (s.smoke.budget / 256 ^ i) := by
  refine ⟨by rw [State.storeAt_writeSmokeReadings]; rfl, by rw [State.storeAt_writeSmokeReadings]; rfl, fun i hi => ?_,
    fun i hi => ?_⟩
  · rw [Smoke.groupBytes_length] at hi
    rw [State.storeAt_writeSmokeReadings, if_neg (by omega), if_neg (by omega), if_neg (by omega), if_pos (by omega),
      show 0x0900 + 1 + i - 0x0901 = i by omega]
  · rw [State.storeAt_writeSmokeReadings, if_neg (by omega), if_pos (by omega), show 0x0A70 + 8 + i - 0x0A78 = i by omega]
    interval_cases i <;> simp [le24, le16]

end

/-- Settles O26: the holds, the dry alarms and the budget tick by the equation of each. -/
theorem budgetHoldsAndDryAlarmsMoveTheSmokeUnit : Obligations.BudgetHoldsAndDryAlarmsMoveTheSmokeUnit := by
  intro s
  refine ⟨fun power alarms => ?_, fun holds drys => ?_, fun running => ?_⟩
  · have held : s.smoke.held = true ↔ s.smoke.powerHold = true ∨ ∃ k : SlotIx, s.smoke.alarmHold[k] = true :=
      Smoke.held_iff _
    refine ⟨s.setHolds_fanDuty power alarms, fun hb ha hs => ?_, fun hb ha hs => ?_, fun hb ha hs => ?_, fun h h' => ?_,
      (State.keeps_setHolds _ _ _).frame⟩
    · exact s.setHolds_begins power alarms (by rwa [Bool.eq_false_iff, ne_eq, held]) ha hs
    · obtain ⟨warms, -, shows⟩ := s.setHolds_ends power alarms (held.mpr hb) ha hs
      exact fun he => ⟨warms he, shows⟩
    · obtain ⟨-, cools, shows⟩ := s.setHolds_ends power alarms (held.mpr hb) ha hs
      exact fun he => ⟨cools he, shows⟩
    · exact s.setHolds_reads power alarms (by rwa [Bool.eq_false_iff, ne_eq, held]) (by rwa [held])
  · obtain ⟨quiet, dries⟩ := s.smokeContributions_eq holds drys
    have hpower (t : State) := t.setHolds_smoke s.smoke.powerHold holds
    have frame := (State.keeps_smokeContributions s holds drys).frame
    by_cases hq : s.smoke.state = .dry ∨ s.freshDry drys = []
    · have e := quiet hq
      obtain ⟨p, a, d, -, -, -, stays⟩ := hpower (s.drysRecorded drys)
      rw [e] at frame ⊢
      refine ⟨a, d, p, fun _ => ⟨rfl, stays⟩, fun hs k hk lowest => ?_, frame⟩
      obtain ⟨ks, hks⟩ := s.freshDry_of_lowest drys k hk lowest
      rw [hq.resolve_left hs] at hks
      cases hks
    · obtain ⟨hs, hn⟩ := not_or.mp hq
      obtain ⟨k, ks, hks⟩ := List.exists_cons_of_ne_nil hn
      obtain ⟨smoke, fan, events⟩ := (s.drysRecorded drys).enterDry_setHolds 2#8 (BitVec.ofNat 16 k.val)
        s.smoke.powerHold holds hs
      rw [dries k ks hs hks] at frame ⊢
      refine ⟨by rw [smoke], by rw [smoke]; rfl, by rw [smoke], fun h => absurd (h.imp_right (s.freshDry_of_none drys)) hq,
        fun _ j hj lowest => ?_, frame⟩
      obtain ⟨js, hjs⟩ := s.freshDry_of_lowest drys j hj lowest
      obtain ⟨rfl, -⟩ := List.cons.inj (hks.symm.trans hjs)
      have recorded : (s.drysRecorded drys).AttendsAs s := .of_frame (s.sameExcept_withSmoke _)
      refine ⟨?_, fan, events.trans (recorded.event _ _ _).2⟩
      rw [smoke, show (s.drysRecorded drys).cooldownStart = s.cooldownStart from rfl, s.cooldownStart_eq]
      rfl
  · obtain ⟨t, ht⟩ : ∃ t, t = s.withSmoke { s.smoke with budgetTimer := .running (millis s.time + 100000) } := ⟨_, rfl⟩
    have timed : t.AttendsAs s := by
      rw [ht]
      exact .of_frame (s.sameExcept_withSmoke _)
    have smoke : t.smoke = { s.smoke with budgetTimer := .running (millis s.time + 100000) } := by rw [ht]; rfl
    have judged : t.budgetLow.AttendsAs s.budgetJudged := by
      refine State.AttendsAs.trans ?_ t.budgetLow_attends
      by_cases hc : s.smoke.CrossesLowMark
      · rw [State.budgetJudged, State.budgetJudged, if_pos hc, if_pos (by rw [smoke]; exact hc), smoke]
        exact timed.event _ _ _
      · rwa [State.budgetJudged, State.budgetJudged, if_neg hc, if_neg (by rw [smoke]; exact hc)]
    have frame : s.SameExcept t.budgetTick.writeSmokeReadings Component.ofDry := by
      refine State.sameExcept_trans (t := t) ?_ ((State.keeps_budgetTick t).trans (State.keeps_writeSmokeReadings _).mono).frame
      rw [ht]
      exact State.sameExcept_mono (s.sameExcept_withSmoke _) (by decide)
    have after : t.smoke.budgetAfter = s.smoke.budgetAfter := by rw [smoke]; rfl
    obtain ⟨group, retained, bytes, budget⟩ := t.budgetTick.writeSmokeReadings_stores
    refine ⟨t.budgetTick.writeSmokeReadings, by rw [exec_budgetTick s running, ht], ?_⟩
    have written : t.budgetTick.writeSmokeReadings.AttendsAs t.budgetTick :=
      .of_shows (State.shows_writeSmokeReadings _)
    have shows := t.budgetTick.writeSmokeReadings_shows
    have same : t.budgetTick.writeSmokeReadings.smoke = t.budgetTick.smoke := (State.keeps_writeSmokeReadings _).same .smoke
    rw [same]
    by_cases hd : s.smoke.profile.capacity ≠ 0 ∧ s.smoke.budgetAfter = 0 ∧ s.smoke.state.heating = true
    · have e : t.budgetTick = t.budgetLow.enterDry 1#8 0#16 := by
        rw [t.budgetTick_eq, if_pos (by rw [smoke]; exact hd)]
      have heats : t.budgetLow.smoke.state.heating = true := by rw [t.budgetLow_smoke, smoke]; exact hd.2.2
      obtain ⟨⟨fan, fanPwm, dried⟩, attends⟩ := t.budgetLow.enterDry_eq 1#8 0#16 fun h => by rw [h] at heats; cases heats
      rw [e] at bytes budget frame shows written ⊢
      have spent : t.smoke.budgetAfter = 0 := after.trans hd.2.1
      have left : (t.budgetLow.enterDry 1#8 0#16).smoke.budget = s.smoke.budgetAfter := by
        rw [dried, ← after, t.budgetLow_smoke]
        rfl
      rw [left] at budget
      refine ⟨left, by rw [dried, t.budgetLow_smoke, smoke]; rfl, fun h => absurd hd h, fun _ => ?_, shows, bytes, budget, frame⟩
      refine ⟨by rw [dried]; rfl, by rw [dried]; rfl, by rw [dried]; rfl, by rw [dried]; rfl, by rw [dried]; rfl,
        by rw [dried]; rfl, by rw [dried]; rfl, ?_, ?_⟩
      · rw [dried]
        have hoff : t.budgetLow.smoke.state ≠ .off := fun h => by rw [h] at heats; cases heats
        simp only [Smoke.dried, if_neg hoff]
        rw [State.cooldownStart_eq, t.keeps_budgetLow.same .time, t.budgetLow_smoke, ht]
        rfl
      · exact (State.AttendsAs.trans (judged.event _ _ _) (attends.trans written)).2
    · have e : t.budgetTick = t.budgetLow := by
        rw [t.budgetTick_eq, if_neg (by rw [smoke]; exact hd)]
      rw [e] at bytes budget frame shows written group retained ⊢
      have low := t.budgetLow_smoke
      have left : t.budgetLow.smoke.budget = s.smoke.budgetAfter := by rw [low]; exact after
      have stood (a : Nat) : t.budgetLow.storeAt a = s.storeAt a :=
        (t.keeps_budgetLow.same .store (by decide) a).trans (by rw [ht]; rfl)
      rw [left] at budget
      rw [stood] at group retained
      refine ⟨left, by rw [low, smoke], fun _ => ⟨?_, ?_, group, retained⟩, fun h => absurd h hd, shows, bytes, budget, frame⟩
      · rw [low, smoke]
        rfl
      · exact (judged.trans written).2

end Sys2Proof.Machine

/-! ## What the drive's moves leave of its neighbours, and the power publication -/

namespace Sys2Proof.Machine

-- One proof at a time: proofs that wait for one another would each hold a thread.
set_option Elab.async false

/-! ### The smoke unit, the lamps and the sound engine under the drive's moves -/

/-- What a move of the drive, with the chuff it may bring, leaves of the smoke unit: its causes and its heater, and its
state but for IDLING, which a drive that leaves IDLE ends. -/
structure Smoke.Follows (u v : Smoke) : Prop where
  powerHold : v.powerHold = u.powerHold
  alarmHold : v.alarmHold = u.alarmHold
  alarmDry : v.alarmDry = u.alarmDry
  enabled : v.enabled = u.enabled
  heater : v.heater = u.heater
  state : v.state = u.state ∨ u.state = .idling ∧ v.state = .warming
  fan : u.state = .held → v.fan = u.fan

namespace Smoke.Follows
variable {u v w : Smoke}

theorem refl (u : Smoke) : u.Follows u := ⟨rfl, rfl, rfl, rfl, rfl, .inl rfl, fun _ => rfl⟩

theorem trans (h : u.Follows v) (k : v.Follows w) : u.Follows w where
  powerHold := k.powerHold.trans h.powerHold
  alarmHold := k.alarmHold.trans h.alarmHold
  alarmDry := k.alarmDry.trans h.alarmDry
  enabled := k.enabled.trans h.enabled
  heater := k.heater.trans h.heater
  state := by
    rcases h.state with e | ⟨e, e'⟩
    · rw [← e]
      exact k.state
    · refine .inr ⟨e, ?_⟩
      rcases k.state with f | ⟨f, -⟩
      · exact f.trans e'
      · rw [e'] at f
        cases f
  fan := fun held => by
    rcases h.state with e | ⟨e, -⟩
    · exact (k.fan (e.trans held)).trans (h.fan held)
    · rw [held] at e
      cases e

/-- A state that is not IDLING stands. -/
theorem stands (h : u.Follows v) (hs : u.state ≠ .idling) : v.state = u.state :=
  h.state.resolve_right fun k => hs k.1

theorem heating (h : u.Follows v) : v.state.heating = u.state.heating := by
  rcases h.state with e | ⟨e, e'⟩
  · rw [e]
  · rw [e, e']
    rfl

theorem held (h : u.Follows v) : v.held = u.held := by
  unfold Smoke.held
  rw [h.powerHold, h.alarmHold]

end Smoke.Follows

/-- A record of a limit alarm's event. -/
def EventRecord.OfAlarm (e : EventRecord) : Prop := e.kind = some .alarmAssert ∨ e.kind = some .alarmClear

/-- What a move that is no alarm's leaves of the part: its state, the attention that is pending, the records of the
alarms, and outside RUN the voices. -/
structure State.Heeds (s t : State) : Prop where
  part : t.part = s.part
  pending : ∀ n : Fin 12, s.attention.pending[n] = true → t.attention.pending[n] = true
  alarms : ∀ i : Fin 24, s.events[i].filled = true → s.events[i].OfAlarm → t.events[i] = s.events[i]
  voices : s.part ≠ .run → t.sound.voices = s.sound.voices

namespace State.Heeds
variable {s t u : State} {l : List Component}

theorem refl (s : State) : s.Heeds s := ⟨rfl, fun _ => id, fun _ _ _ => rfl, fun _ => rfl⟩

theorem trans (h : s.Heeds t) (k : t.Heeds u) : s.Heeds u where
  part := k.part.trans h.part
  pending := fun n hn => k.pending n (h.pending n hn)
  alarms := fun i hf ha => by
    have e := h.alarms i hf ha
    exact (k.alarms i (by rwa [e]) (by rwa [e])).trans e
  voices := fun hp => (k.voices (by rwa [h.part])).trans (h.voices hp)

theorem of_frame (h : s.SameExcept t l)
    (hl : Component.part ∉ l ∧ .attention ∉ l ∧ .events ∉ l ∧ .sound ∉ l := by decide) : s.Heeds t where
  part := h .part hl.1
  pending := by rw [show t.attention = s.attention from h .attention hl.2.1]; exact fun _ => id
  alarms := by rw [show t.events = s.events from h .events hl.2.2.1]; exact fun _ _ _ => rfl
  voices := by rw [show t.sound = s.sound from h .sound hl.2.2.2]; exact fun _ => rfl

theorem raise (h : s.Heeds t) (a : AttnSource) : s.Heeds (t.raise a) := by
  have keeps := t.keeps_raise a
  refine h.trans ⟨keeps.same .part, fun n hn => ?_, by rw [keeps.same .events]; exact fun _ _ _ => rfl,
    by rw [keeps.same .sound]; exact fun _ => rfl⟩
  unfold State.raise
  split
  · show (t.attention.pending.set a.index true)[n] = true
    simp only [Fin.getElem_fin, Vector.getElem_set]
    split
    · rfl
    · exact hn
  · exact hn

/-- Records set anew, where they were none of an alarm's. -/
theorem withEvents (h : s.Heeds t) (x : Vector EventRecord 24)
    (hx : ∀ i : Fin 24, t.events[i].filled = true → t.events[i].OfAlarm → x[i] = t.events[i]) : s.Heeds (t.withEvents x) :=
  h.trans ⟨rfl, fun _ => id, hx, fun _ => rfl⟩

/-- An event of another kind touches no alarm's record. -/
theorem event (h : s.Heeds t) {k : EventKind} (hk : k ≠ .alarmAssert ∧ k ≠ .alarmClear) (subject : Byte) (detail : Half) :
    s.Heeds (t.event k subject detail) := by
  rcases t.event_cases k subject detail with ⟨-, e⟩ | ⟨i, -, found, e⟩ | ⟨i, -, -, room, e⟩ | ⟨-, -, -, e⟩ <;> rw [e]
  · exact h
  · obtain ⟨-, kind, -⟩ := State.findRepeat_some found
    refine (h.withEvents _ fun j _ ha => Vector.getElem_set_ne _ _ fun e => ?_).raise _
    rw [EventRecord.OfAlarm, ← Fin.ext e, kind] at ha
    rcases ha with ha | ha
    · exact hk.1 (Option.some.inj ha)
    · exact hk.2 (Option.some.inj ha)
  · refine State.Heeds.raise (State.Heeds.trans (h.withEvents _ fun j hf _ => Vector.getElem_set_ne _ _ fun e => ?_)
      (.of_frame (State.sameExcept_withEventSeq _ _))) _
    rw [← Fin.ext e, (State.eventRoom_some room).1] at hf
    cases hf
  · exact h.raise _

theorem ite {c : Prop} [Decidable c] (ht : c → s.Heeds t) (hu : ¬ c → s.Heeds u) : s.Heeds (if c then t else u) := by
  split
  · exact ht ‹_›
  · exact hu ‹_›

end State.Heeds

/-- Every lamp is dark for want of a lamp factor. -/
def Lamps.Dark (u : Lamps) : Prop := u.factor = 0 ∧ ∀ k : Fin 8, u.lamps[k].duty = 0

/-- What a move of the drive, with the chuff it may bring, leaves of its neighbours. -/
structure State.Follows (s t : State) : Prop extends State.Heeds s t where
  smoke : s.smoke.Follows t.smoke
  factor : t.lamps.factor = s.lamps.factor
  dark : s.lamps.Dark → t.lamps.Dark
  attenuation : t.sound.attenuation = s.sound.attenuation

namespace State.Follows
variable {s t u : State} {l : List Component}

theorem of_heeds (h : s.Heeds t) (hs : t.smoke = s.smoke) (hl : t.lamps = s.lamps) (he : t.sound = s.sound) :
    s.Follows t where
  toHeeds := h
  smoke := hs ▸ .refl _
  factor := by rw [hl]
  dark := by rw [hl]; exact id
  attenuation := by rw [he]

theorem refl (s : State) : s.Follows s := .of_heeds (.refl s) rfl rfl rfl

theorem trans (h : s.Follows t) (k : t.Follows u) : s.Follows u where
  toHeeds := h.toHeeds.trans k.toHeeds
  smoke := h.smoke.trans k.smoke
  factor := k.factor.trans h.factor
  dark := fun d => k.dark (h.dark d)
  attenuation := k.attenuation.trans h.attenuation

theorem of_keeps (h : s.Keeps t l) (hl : Component.smoke ∉ l ∧ .lamps ∉ l ∧ .sound ∉ l := by decide)
    (hp : Component.part ∉ l ∧ .attention ∉ l ∧ .events ∉ l := by decide) : s.Follows t :=
  .of_heeds (.of_frame h.frame ⟨hp.1, hp.2.1, hp.2.2, hl.2.2⟩) (h.same .smoke hl.1) (h.same .lamps hl.2.1)
    (h.same .sound hl.2.2)

theorem raise (h : s.Follows t) (a : AttnSource) : s.Follows (t.raise a) := by
  have keeps := t.keeps_raise a
  exact h.trans (.of_heeds ((State.Heeds.refl t).raise a) (keeps.same .smoke) (keeps.same .lamps) (keeps.same .sound))

theorem ite {c : Prop} [Decidable c] (ht : c → s.Follows t) (hu : ¬ c → s.Follows u) :
    s.Follows (if c then t else u) := by
  split
  · exact ht ‹_›
  · exact hu ‹_›

/-- Only the smoke unit is touched. -/
theorem of_smoke (h : s.Keeps t Component.ofSmoke) (hs : s.smoke.Follows t.smoke) : s.Follows t :=
  ⟨.of_frame h.frame, hs, by rw [show t.lamps = s.lamps from h.same .lamps], by rw [show t.lamps = s.lamps from h.same .lamps]; exact id,
    by rw [show t.sound = s.sound from h.same .sound]⟩

end State.Follows

section
variable (s : State)

/-! #### Chuffs -/

/-- A START keeps the attenuation. -/
theorem State.startCue_attenuation (n : Nat) (gain : Option Nat) (source : CueSource) :
    (s.startCue n gain source).1.sound.attenuation = s.sound.attenuation := by
  rcases s.startCue_cases n gain source with ⟨-, e⟩ | ⟨-, -, e⟩ | ⟨-, -, -, e⟩ | ⟨r, -, -, -, h⟩
  · simp [e]
  · simp [e]
  · simp [e]
  · rcases h with ⟨v, -, -, e⟩ | ⟨v, -, -, e⟩ | ⟨v, -, -, e⟩ | ⟨v, -, -, -, e⟩ | ⟨-, -, -, e⟩
    · simp [e]
    · simp [e, Sound.startVoice]
    · simp [e, Sound.startVoice]
    · simp [e, Sound.startVoice]
    · have : (s.refuseNoVoice n source).sound = { s.sound with noVoice := s.sound.noVoice + 1#16 } :=
        (State.keeps_event _ _ _ _).same .sound
      rw [e]
      simp [this]

/-- A START starts a voice in RUN, or raises a refusal. -/
theorem State.heeds_startCue (n : Nat) (gain : Option Nat) (source : CueSource) : s.Heeds (s.startCue n gain source).1 := by
  have engine (hp : s.part = .run) (e : Sound) : s.Heeds (s.withSound e) :=
    ⟨rfl, fun _ => id, fun _ _ _ => rfl, fun h => absurd hp h⟩
  rcases s.startCue_cases n gain source with ⟨-, e⟩ | ⟨hp, -, e⟩ | ⟨hp, -, -, e⟩ | ⟨r, hp, -, -, h⟩
  · rw [e]
    exact .refl s
  · rw [e]
    exact engine hp _
  · rw [e]
    exact engine hp _
  · rcases h with ⟨v, -, -, e⟩ | ⟨v, -, -, e⟩ | ⟨v, -, -, e⟩ | ⟨v, -, -, -, e⟩ | ⟨-, -, -, e⟩ <;> rw [e]
    · exact .refl s
    · exact engine hp _
    · exact engine hp _
    · exact engine hp _
    · exact (engine hp { s.sound with noVoice := s.sound.noVoice + 1#16 }).event (k := .cueRefused) ⟨nofun, nofun⟩
        (BitVec.ofNat 8 n) (BitVec.ofNat 16 source.code)

theorem State.heeds_soundChuff (count : Half) : s.Heeds (s.soundChuff count) := by
  have counted : s.Heeds (s.withSound { s.sound with lastChuff := count }) :=
    ⟨rfl, fun _ => id, fun _ _ _ => rfl, fun _ => rfl⟩
  unfold State.soundChuff
  dsimp only
  split
  · exact counted
  · exact counted.trans (State.heeds_startCue (s.withSound { s.sound with lastChuff := count }) _ _ _)

theorem State.soundChuff_attenuation (count : Half) : (s.soundChuff count).sound.attenuation = s.sound.attenuation := by
  unfold State.soundChuff
  dsimp only
  split
  · rfl
  · exact State.startCue_attenuation (s.withSound { s.sound with lastChuff := count }) _ _ .chuff

theorem State.follows_soundChuff (count : Half) : s.Follows (s.soundChuff count) := by
  have keeps := s.keeps_soundChuff count
  have smoke : (s.soundChuff count).smoke = s.smoke := keeps.same .smoke
  have lamps : (s.soundChuff count).lamps = s.lamps := keeps.same .lamps
  exact {
    toHeeds := s.heeds_soundChuff count
    smoke := smoke ▸ .refl _
    factor := congrArg Lamps.factor lamps
    dark := lamps ▸ id
    attenuation := s.soundChuff_attenuation count }

theorem State.follows_smokeChuff : s.Follows s.smokeChuff := by
  refine .of_smoke s.keeps_smokeChuff.mono ?_
  unfold State.smokeChuff
  split
  iterate 2 exact ⟨rfl, rfl, rfl, rfl, rfl, .inl rfl, fun h => by simp_all⟩
  all_goals exact .refl _

theorem State.follows_deliverChuff : s.Follows s.deliverChuff :=
  (State.Follows.of_keeps (s.keeps_withCadence _)).trans
    ((State.follows_soundChuff _ _).trans (State.follows_smokeChuff _))

theorem State.follows_recomputeInterval : s.Follows s.recomputeInterval := by
  unfold State.recomputeInterval
  dsimp only
  split
  · exact .of_keeps (s.keeps_withCadence _)
  · refine (State.Follows.of_keeps (s.keeps_withCadence _)).trans (.ite (fun _ => ?_) fun _ => .of_keeps (State.keeps_withCadence _ _))
    exact (State.follows_deliverChuff _).trans (.of_keeps (State.keeps_withCadence _ _))

theorem State.follows_cadenceStep : s.Follows s.cadenceStep := by
  unfold State.cadenceStep
  dsimp only
  split
  · exact (State.Follows.of_keeps (s.keeps_withCadence _)).trans (State.follows_recomputeInterval _)
  · exact .of_keeps (s.keeps_withCadence _)

/-! #### The drive's own moves -/

theorem State.follows_rampMoved : s.Follows s.rampMoved :=
  (State.Follows.of_keeps s.keeps_refreshDuty).trans (State.follows_cadenceStep _)

theorem State.follows_zeroRamp : s.Follows s.zeroRamp :=
  (State.Follows.of_keeps (s.keeps_withDrive _)).trans (State.follows_rampMoved _)

theorem State.follows_jumpRamp : s.Follows s.jumpRamp :=
  (State.Follows.of_keeps (s.keeps_withDrive _)).trans (State.follows_rampMoved _)

theorem State.follows_followTarget : s.Follows s.followTarget :=
  .ite (fun _ => .ite (fun _ => .of_keeps (s.keeps_withDrive _)) fun _ => s.follows_jumpRamp)
    fun _ => .ite (fun _ => .refl _) fun _ => .of_keeps (s.keeps_withDrive _)

/-- Lamps formed under no lamp factor are dark. -/
theorem State.dark_formLamps (h : s.lamps.factor = 0) : s.formLamps.lamps.Dark := by
  obtain ⟨-, -, -, -, factor, -⟩ := s.formLamps_counters
  refine ⟨factor.trans h, fun k => ?_⟩
  rw [s.formLamps_get]
  show s.lampDuty _ = 0
  unfold State.lampDuty
  split
  · rfl
  · rw [h]
    simp

/-- The lamps formed anew, with some of the unit's record set that is not the factor. -/
theorem State.follows_formLamps (u : Lamps) (hf : u.factor = s.lamps.factor) : s.Follows (s.withLamps u).formLamps := by
  have keeps := State.sameExcept_formLamps (s.withLamps u)
  obtain ⟨-, -, -, -, factor, -⟩ := (s.withLamps u).formLamps_counters
  have smoke : (s.withLamps u).formLamps.smoke = s.smoke := keeps .smoke (by decide)
  have sound : (s.withLamps u).formLamps.sound = s.sound := keeps .sound (by decide)
  have heeds : s.Heeds (s.withLamps u).formLamps :=
    State.Heeds.trans (t := s.withLamps u) (.of_frame (s.sameExcept_withLamps _)) (.of_frame keeps)
  refine ⟨heeds, ?_, factor.trans hf, fun d => State.dark_formLamps (s.withLamps u) (hf.trans d.1),
    congrArg Sound.attenuation sound⟩
  rw [smoke]
  exact .refl _

theorem State.follows_lampDirection : s.Follows s.lampDirection :=
  .ite (fun _ => .refl _) fun _ => s.follows_formLamps { s.lamps with direction := s.drive.direction } rfl

theorem State.follows_lampDriveChange : s.Follows s.lampDriveChange :=
  .ite (fun _ => .refl _) fun _ => (s.follows_formLamps { s.lamps with standing := s.drive.state.standing } rfl).trans
     (.of_keeps (State.keeps_writeLampReadings _))

theorem State.follows_smokeDriveChange (new : DriveState) : s.Follows (s.smokeDriveChange new) := by
  refine .of_smoke (s.keeps_smokeDriveChange new).mono ?_
  unfold State.smokeDriveChange
  split
  · split
    iterate 2 exact ⟨rfl, rfl, rfl, rfl, rfl, .inl rfl, fun _ => rfl⟩
    all_goals exact .refl _
  · dsimp only
    split
    · rename_i hs
      rw [State.smokeMoved_smoke]
      refine ⟨rfl, rfl, rfl, rfl, rfl, .inr ⟨hs, rfl⟩, fun held => ?_⟩
      rw [show s.smoke.state = .idling from hs] at held
      cases held
    · exact ⟨rfl, rfl, rfl, rfl, rfl, .inl rfl, fun _ => rfl⟩

theorem State.follows_setDirection (dir : Direction) : s.Follows (s.setDirection dir) :=
  .ite (fun _ => .refl _) fun _ => (State.Follows.of_keeps (s.keeps_withDrive _)).trans
    ((State.Follows.of_keeps (State.keeps_clearIntegrals _)).trans (State.follows_lampDirection _))

theorem State.follows_enterDriveState (new : DriveState) (asserting : Option Channel) :
    s.Follows (s.enterDriveState new asserting) := by
  by_cases h : s.drive.state = new
  · rw [show s.enterDriveState new asserting = s from if_pos h]
    exact .refl _
  · rw [s.enterDriveState_eq h]
    have taken : s.Keeps (s.stateTaken new) [.drive] := by
      have held : s.Keeps (s.stateHeld new) [.drive] :=
        (s.keeps_withDrive _).trans ((State.keeps_latchBridge _).trans (State.keeps_settleWindow _))
      exact .ite (fun _ => held.trans (State.keeps_closeWindowEarly _)) fun _ => held
    refine State.Follows.trans (.ite (fun _ => ?_) fun _ => .of_keeps taken) ((State.follows_smokeDriveChange _ _).trans
      ((State.follows_lampDriveChange _).trans ((State.Follows.of_keeps (State.keeps_seeShorts _ _)).trans
        (.of_keeps (State.keeps_writeDriveReadings _)))))
    exact (State.Follows.of_keeps taken).raise _

theorem State.follows_reachedZero : s.Follows s.reachedZero := by
  unfold State.reachedZero
  refine .ite (fun _ => .refl _) fun _ => ?_
  split
  · exact (s.follows_setDirection _).trans (State.follows_enterDriveState _ _ _)
  · exact .ite (fun _ => s.follows_enterDriveState _ _) fun _ => .refl _
  all_goals exact .refl _

theorem State.follows_settleWindow : s.Follows s.settleWindow := .of_keeps s.keeps_settleWindow

theorem State.follows_settleDrive : s.Follows s.settleDrive :=
  s.follows_followTarget.trans ((State.follows_settleWindow _).trans ((State.follows_reachedZero _).trans
    ((State.follows_followTarget _).trans (State.follows_settleWindow _))))

theorem State.follows_closeWindowEarly : s.Follows s.closeWindowEarly := .of_keeps s.keeps_closeWindowEarly

theorem State.follows_clearIntegrals : s.Follows s.clearIntegrals := .of_keeps s.keeps_clearIntegrals

theorem State.follows_drivePower (entersSpent : Bool) : s.Follows (s.drivePower entersSpent) :=
  (State.Follows.ite (fun _ => s.follows_zeroRamp.trans (State.follows_closeWindowEarly _))
    fun _ => .of_keeps s.keeps_refreshDuty).trans (State.follows_settleDrive _)

theorem State.follows_recomputeProtection : s.Follows s.recomputeProtection := by
  refine (State.Follows.of_keeps (s.keeps_withDrive _)).trans (.ite (fun _ => .refl _) fun _ => ?_)
  unfold State.changeLevel
  exact (State.Follows.of_keeps (State.keeps_withDrive _ _)).trans ((State.Follows.ite
    (fun _ => (State.follows_zeroRamp _).trans ((State.follows_clearIntegrals _).trans (State.follows_closeWindowEarly _)))
    fun _ => .of_keeps (State.keeps_refreshDuty _)).trans (State.follows_settleDrive _))

end

end Sys2Proof.Machine

/-! ## The power states -/

namespace Sys2Proof.Machine

-- One proof at a time: proofs that wait for one another would each hold a thread.
set_option Elab.async false

/-! ### Hand-offs in any order -/

/-- What every member of a list of moves keeps, the list keeps. -/
theorem foldl_apply_keeps {α : Type} {P : α → Prop} (fs : List (α → α)) (keep : ∀ f ∈ fs, ∀ s, P s → P (f s)) (s : α)
    (h : P s) : P (fs.foldl (fun s f => f s) s) := by
  induction fs generalizing s with
  | nil => exact h
  | cons f fs ih =>
    exact ih (fun g hg => keep g (List.mem_cons_of_mem _ hg)) (f s) (keep f List.mem_cons_self s h)

/-- Among moves in some order, what one of them brings about from `Q`, and no other undoes, stands behind them all. -/
theorem foldl_apply_once {α : Type} {Q P : α → Prop} {fs others : List (α → α)} {f : α → α} (h : fs.Perm (f :: others))
    (inv : ∀ g ∈ others, ∀ s, Q s → Q (g s)) (est : ∀ s, Q s → P (f s)) (keep : ∀ g ∈ others, ∀ s, P s → P (g s)) (s : α)
    (hs : Q s) : P (fs.foldl (fun s f => f s) s) := by
  obtain ⟨as, bs, rfl⟩ := List.append_of_mem (h.mem_iff.mpr List.mem_cons_self)
  have rest : (as ++ bs).Perm others := (List.perm_middle.symm.trans h).cons_inv
  rw [List.foldl_append, List.foldl_cons]
  refine foldl_apply_keeps bs (fun g hg => keep g (rest.mem_iff.mp (List.mem_append_right _ hg))) _ (est _ ?_)
  exact foldl_apply_keeps as (fun g hg => inv g (rest.mem_iff.mp (List.mem_append_left _ hg))) s hs

/-- The receivers of a publication (R71). -/
inductive Receiver
  | drive | smoke | lamps | sound
  deriving DecidableEq

/-- What a receiver does at a publication. -/
def Receiver.takes (entersSpent : Bool) : Receiver → State → State
  | .drive => fun s => s.drivePower entersSpent
  | .smoke => State.smokePower
  | .lamps => State.lampPower
  | .sound => State.soundPower

section
variable (s : State)

theorem Receiver.takes_drive (b : Bool) : Receiver.takes b .drive s = s.drivePower b := rfl

theorem Receiver.takes_smoke (b : Bool) : Receiver.takes b .smoke s = s.smokePower := rfl

theorem Receiver.takes_lamps (b : Bool) : Receiver.takes b .lamps s = s.lampPower := rfl

theorem Receiver.takes_sound (b : Bool) : Receiver.takes b .sound s = s.soundPower := rfl

/-- What one receiver of a publication brings about from `Q`, and no other undoes, the publication leaves, in whatever
order it reaches them. -/
theorem State.publishPower_reaches {Q P : State → Prop} (b : Bool) (order : Nat) (r : Receiver)
    (inv : ∀ g : Receiver, g ≠ r → ∀ u, Q u → Q (g.takes b u)) (est : ∀ u, Q u → P (r.takes b u))
    (keep : ∀ g : Receiver, g ≠ r → ∀ u, P u → P (g.takes b u)) (h : Q s) : P (s.publishPower b order) := by
  have receivers : [Receiver.drive, .smoke, .lamps, .sound].Perm (r :: [Receiver.drive, .smoke, .lamps, .sound].erase r) :=
    List.perm_cons_erase (by cases r <;> decide)
  have other (f : State → State) (hf : f ∈ ([Receiver.drive, .smoke, .lamps, .sound].erase r).map (Receiver.takes b)) :
      ∃ g : Receiver, g ≠ r ∧ f = g.takes b := by
    obtain ⟨g, hg, rfl⟩ := List.mem_map.mp hf
    exact ⟨g, ((List.Nodup.mem_erase_iff (by decide)).mp hg).1, rfl⟩
  refine foldl_apply_once (f := r.takes b) ((arrange_perm _ order).trans (receivers.map (Receiver.takes b)))
    (fun f hf u hu => ?_) est (fun f hf u hu => ?_) s h
  · obtain ⟨g, hg, rfl⟩ := other f hf
    exact inv g hg u hu
  · obtain ⟨g, hg, rfl⟩ := other f hf
    exact keep g hg u hu

/-- What no receiver undoes, the publication keeps. -/
theorem State.publishPower_stays {P : State → Prop} (b : Bool) (order : Nat)
    (keep : ∀ (g : Receiver) u, P u → P (g.takes b u)) (h : P s) : P (s.publishPower b order) :=
  s.publishPower_reaches (Q := P) b order .drive (fun g _ => keep g) (keep .drive) (fun g _ => keep g) h

/-- What a receiver touches. -/
theorem Receiver.keeps_takes (b : Bool) (g : Receiver) : s.Keeps (g.takes b s) Component.ofDrive := by
  cases g
  · exact s.keeps_drivePower b
  · exact s.keeps_smokePower.mono
  · exact s.keeps_lampPower.mono
  · exact s.keeps_soundPower.mono

theorem Receiver.takes_power (b : Bool) (g : Receiver) : (g.takes b s).power = s.power :=
  (g.keeps_takes s b).same .power

/-- Only the lamp unit takes the factor. -/
theorem Receiver.takes_factor (b : Bool) {g : Receiver} (hg : g ≠ .lamps) : (g.takes b s).lamps.factor = s.lamps.factor := by
  cases g
  · exact (s.follows_drivePower b).factor
  · exact congrArg Lamps.factor (s.keeps_smokePower.same .lamps)
  · exact absurd rfl hg
  · rfl

theorem State.lampPower_factor : s.lampPower.lamps.factor = s.power.lampFactor := by
  obtain ⟨-, -, -, -, factor, -⟩ := (s.withLamps { s.lamps with factor := s.power.lampFactor }).formLamps_counters
  exact factor

/-! ### What a publication leaves (R71) -/

theorem State.publishPower_factor (b : Bool) (order : Nat) :
    (s.publishPower b order).lamps.factor = s.power.lampFactor :=
  s.publishPower_reaches (Q := fun u => u.power = s.power) (P := fun u => u.lamps.factor = s.power.lampFactor) b order .lamps
    (fun g _ u hu => (g.takes_power u b).trans hu) (fun u hu => u.lampPower_factor.trans (by rw [hu]))
    (fun _ hg u hu => (Receiver.takes_factor u b hg).trans hu) rfl

theorem State.publishPower_attenuation (b : Bool) (order : Nat) :
    (s.publishPower b order).sound.attenuation = s.power.attenuation := by
  refine s.publishPower_reaches (Q := fun u => u.power = s.power)
    (P := fun u => u.sound.attenuation = s.power.attenuation)
    b order .sound (fun g _ u hu => (g.takes_power u b).trans hu) (fun u hu => congrArg Power.attenuation hu)
    (fun g hg u hu => ?_) rfl
  cases g
  · exact (u.follows_drivePower b).attenuation.trans hu
  · exact (congrArg Sound.attenuation (u.keeps_smokePower.same .sound)).trans hu
  · exact (congrArg Sound.attenuation (u.keeps_lampPower.same .sound)).trans hu
  · exact absurd rfl hg

/-- A receiver other than the smoke unit leaves what a move of the drive leaves of it. -/
theorem Receiver.takes_smokeFollows (b : Bool) {g : Receiver} (hg : g ≠ .smoke) : s.smoke.Follows (g.takes b s).smoke := by
  cases g
  · exact (s.follows_drivePower b).smoke
  · exact absurd rfl hg
  · rw [Receiver.takes_lamps, s.keeps_lampPower.same .smoke]
    exact .refl _
  · exact .refl _

theorem State.publishPower_powerHold (b : Bool) (order : Nat) :
    (s.publishPower b order).smoke.powerHold = (s.power.state != .supplied) := by
  refine s.publishPower_reaches (Q := fun u => u.power = s.power)
    (P := fun u => u.smoke.powerHold = (s.power.state != .supplied))
    b order .smoke (fun g _ u hu => (g.takes_power u b).trans hu) (fun u hu => ?_)
    (fun g hg u hu => (Receiver.takes_smokeFollows u b hg).powerHold.trans hu) rfl
  rw [← hu]
  exact (u.setHolds_smoke _ _).1

theorem State.drivePower_spent : s.drivePower true = s.zeroRamp.closeWindowEarly.settleDrive :=
  congrArg State.settleDrive (if_pos rfl)

theorem State.drivePower_refreshed : s.drivePower false = s.refreshDuty.settleDrive :=
  congrArg State.settleDrive (if_neg Bool.false_ne_true)

theorem State.dutyFormed_drivePower (b : Bool) : (s.drivePower b).DutyFormed := by
  cases b
  · rw [State.drivePower_refreshed]
    exact s.dutyFormed_refreshDuty.settleDrive
  · rw [State.drivePower_spent]
    exact State.DutyFormed.settleDrive (State.DutyFormed.closeWindowEarly (State.dutyFormed_rampMoved _))

/-- Only the drive touches the drive. -/
theorem Receiver.takes_driveSame (b : Bool) {g : Receiver} (hg : g ≠ .drive) : (g.takes b s).drive = s.drive := by
  cases g
  · exact absurd rfl hg
  · exact s.keeps_smokePower.same .drive
  · exact s.keeps_lampPower.same .drive
  · rfl

theorem State.publishPower_dutyFormed (b : Bool) (order : Nat) : (s.publishPower b order).DutyFormed := by
  refine s.publishPower_reaches (Q := fun _ => True) (P := State.DutyFormed) b order .drive (fun _ _ _ _ => trivial)
    (fun u _ => ?_) (fun g hg u hu => ?_) trivial
  · rw [Receiver.takes_drive]
    exact u.dutyFormed_drivePower b
  · exact hu.of_channels (g.keeps_takes u b).frame (.of_eq (Receiver.takes_driveSame u b hg) [])

/-- Where D is formed, a bridging drive is under its ceiling (R18). -/
theorem State.DutyFormed.ceiling (h : s.DutyFormed) (hb : s.power.state = .bridging) (c : Channel) :
    (s.drive.channels.get c).duty ≤ s.power.profile.ceiling := by
  obtain ⟨-, -, duty⟩ := h c
  rw [duty, State.computedDuty, if_pos hb]
  exact Nat.min_le_right _ _

/-- A publication leaves the receivers by the power state. -/
theorem State.powerPublished_publishPower (b : Bool) (order : Nat) : (s.publishPower b order).PowerPublished := by
  have power : (s.publishPower b order).power = s.power := (s.keeps_publishPower b order).same .power
  have formed := s.publishPower_dutyFormed b order
  refine ⟨?_, ?_, ?_, formed, formed.ceiling⟩
  · rw [s.publishPower_factor, power]
    rfl
  · rw [s.publishPower_attenuation, power]
    rfl
  · rw [s.publishPower_powerHold, power]
    simp

/-! ### What a publication shows -/

/-- What a publication shows where the drive brings no chuff. -/
abbrev Component.ofPublished : List Component := [.drive, .cadence, .smoke, .lamps, .sound, .store]

theorem Receiver.takes_shows (b : Bool) {g : Receiver} (hg : g ≠ .drive) : s.Shows (g.takes b s) Component.ofPublished := by
  cases g
  · exact absurd rfl hg
  · exact (s.shows_setHolds _ _).mono
  · exact (State.Shows.of_keeps s.keeps_lampPower).mono
  · exact (State.Shows.of_keeps s.keeps_soundPower).mono

/-- Under a momentum other than OFF a publication raises nothing. -/
theorem State.shows_publishPower (order : Nat) (h : s.drive.profile.momentum ≠ .off) :
    s.Shows (s.publishPower false order) Component.ofPublished := by
  refine s.publishPower_reaches (Q := fun u => s.Shows u Component.ofPublished ∧ u.drive = s.drive)
    (P := fun u => s.Shows u Component.ofPublished) false order .drive (fun g hg u hu => ?_) (fun u hu => ?_)
    (fun g hg u hu => hu.trans (Receiver.takes_shows u false hg)) ⟨.refl _ _, rfl⟩
  · obtain ⟨shows, drive⟩ := hu
    exact ⟨shows.trans (Receiver.takes_shows u false hg), (Receiver.takes_driveSame u false hg).trans drive⟩
  · obtain ⟨shows, drive⟩ := hu
    have profile : u.refreshDuty.drive.profile = u.drive.profile := u.driveSame_refreshDuty.same .profile
    rw [Receiver.takes_drive, u.drivePower_refreshed]
    exact shows.trans ((State.Shows.of_keeps u.keeps_refreshDuty).mono.trans
      (State.shows_settleDrive (by rwa [profile, drive])).mono)

/-! ### A closed window -/

/-- A window that is closed lies as it did, with what it asked for and read. -/
structure Drive.WindowLies (d e : Drive) : Prop where
  window : e.window = .closed
  settleTimer : e.settleTimer = d.settleTimer
  limitTimer : e.limitTimer = d.limitTimer
  closedEarly : e.closedEarly = d.closedEarly
  asked : ∀ c : Channel, (e.channels.get c).requested = (d.channels.get c).requested ∧
    (e.channels.get c).reading = (d.channels.get c).reading

namespace Drive.WindowLies
variable {d e : Drive} {s : State}

/-- An operation that leaves the window's record, and of the channels what they were asked and read. -/
theorem of_channels (h : d.WindowLies s.drive) {t : State} {l : List DriveField} (k : s.DriveSame t l)
    (asked : ∀ c : Channel, (t.drive.channels.get c).requested = (s.drive.channels.get c).requested ∧
      (t.drive.channels.get c).reading = (s.drive.channels.get c).reading)
    (hl : DriveField.window ∉ l ∧ .settleTimer ∉ l ∧ .limitTimer ∉ l ∧ .closedEarly ∉ l := by decide) :
    d.WindowLies t.drive where
  window := (k .window hl.1).trans h.window
  settleTimer := (k .settleTimer hl.2.1).trans h.settleTimer
  limitTimer := (k .limitTimer hl.2.2.1).trans h.limitTimer
  closedEarly := (k .closedEarly hl.2.2.2).trans h.closedEarly
  asked := fun c => ⟨(asked c).1.trans (h.asked c).1, (asked c).2.trans (h.asked c).2⟩

theorem of_same (h : d.WindowLies s.drive) {t : State} {l : List DriveField} (k : s.DriveSame t l)
    (hl : DriveField.window ∉ l ∧ .settleTimer ∉ l ∧ .limitTimer ∉ l ∧ .closedEarly ∉ l := by decide)
    (hc : DriveField.channels ∉ l := by decide) : d.WindowLies t.drive :=
  h.of_channels k (fun c => by rw [show t.drive.channels = s.drive.channels from k .channels hc]; exact ⟨rfl, rfl⟩) hl

theorem of_keeps (h : d.WindowLies s.drive) {t : State} {l : List Component} (k : s.Keeps t l)
    (hl : Component.drive ∉ l := by decide) : d.WindowLies t.drive := by
  rw [show t.drive = s.drive from k.same .drive hl]
  exact h

theorem latchBridge (h : d.WindowLies s.drive) : d.WindowLies s.latchBridge.drive :=
  h.of_channels s.driveSame_latchBridge fun c => by rw [s.latchBridge_get]; exact ⟨rfl, rfl⟩

theorem refreshDuty (h : d.WindowLies s.drive) : d.WindowLies s.refreshDuty.drive := by
  refine h.of_channels s.driveSame_refreshDuty fun c => ?_
  obtain ⟨n, e, -⟩ := s.refreshDuty_get c
  rw [e]
  unfold State.formChannel
  dsimp only
  split <;> exact ⟨rfl, rfl⟩

theorem clearIntegrals (h : d.WindowLies s.drive) : d.WindowLies s.clearIntegrals.drive := by
  refine refreshDuty (s := s.withDrive _) (h.of_channels (s.drive.sameBut_channels _) fun c => ?_)
  simp

theorem rampMoved (h : d.WindowLies s.drive) : d.WindowLies s.rampMoved.drive :=
  h.refreshDuty.of_keeps (State.keeps_cadenceStep _)

theorem ramped (h : d.WindowLies s.drive) (r : Nat) (x : StepDir) (y : Timer) :
    d.WindowLies (s.withDrive { s.drive with ramp := r, stepDir := x, rampTimer := y }).drive :=
  h.of_same (s.drive.sameBut_ramp r x y)

theorem zeroRamp (h : d.WindowLies s.drive) : d.WindowLies s.zeroRamp.drive := (h.ramped _ _ _).rampMoved

theorem jumpRamp (h : d.WindowLies s.drive) : d.WindowLies s.jumpRamp.drive := (h.ramped _ _ _).rampMoved

theorem followTarget (h : d.WindowLies s.drive) : d.WindowLies s.followTarget.drive := by
  have turned (x : StepDir) (y : Timer) : d.WindowLies (s.withDrive { s.drive with stepDir := x, rampTimer := y }).drive :=
    h.of_same (s.drive.sameBut_stepDir x y)
  unfold State.followTarget
  dsimp only
  split
  · split
    · exact turned _ _
    · exact h.jumpRamp
  · split
    · exact h
    · exact turned _ _

theorem settleWindow (h : d.WindowLies s.drive) : d.WindowLies s.settleWindow.drive := h.of_same s.driveSame_settleWindow

theorem setDirection (h : d.WindowLies s.drive) (dir : Direction) : d.WindowLies (s.setDirection dir).drive := by
  unfold State.setDirection
  split
  · exact h
  · have turned : d.WindowLies (s.withDrive { s.drive with direction := dir }).drive :=
      ⟨h.window, h.settleTimer, h.limitTimer, h.closedEarly, h.asked⟩
    exact turned.clearIntegrals.of_keeps (State.keeps_lampDirection _)

theorem enterDriveState (h : d.WindowLies s.drive) (new : DriveState) (asserting : Option Channel) :
    d.WindowLies (s.enterDriveState new asserting).drive := by
  by_cases hs : s.drive.state = new
  · rw [show s.enterDriveState new asserting = s from if_pos hs]
    exact h
  · have held : d.WindowLies (s.stateHeld new).drive := by
      have taken : d.WindowLies (s.withDrive { s.drive with state := new, forgiveTimer := s.forgiveAfter new }).drive :=
        ⟨h.window, h.settleTimer, h.limitTimer, h.closedEarly, h.asked⟩
      exact taken.latchBridge.settleWindow
    have shut : s.stateTaken new = s.stateHeld new := by
      unfold State.stateTaken
      rw [(s.stateHeld new).closeWindowEarly_shut.2.2 held.window, ite_self]
    rw [s.enterDriveState_eq hs, shut]
    exact held.of_same (State.driveSame_announced (s.stateHeld new) _ new asserting)

theorem reachedZero (h : d.WindowLies s.drive) : d.WindowLies s.reachedZero.drive := by
  unfold State.reachedZero
  split
  · exact h
  · split
    · exact (h.setDirection _).enterDriveState _ _
    · split
      · exact h.enterDriveState _ _
      · exact h
    all_goals exact h

theorem settleDrive (h : d.WindowLies s.drive) : d.WindowLies s.settleDrive.drive :=
  h.followTarget.settleWindow.reachedZero.followTarget.settleWindow

end Drive.WindowLies

/-- A closed window lies as it does. -/
theorem Drive.windowLies_self {d : Drive} (h : d.window = .closed) : d.WindowLies d :=
  ⟨h, rfl, rfl, rfl, fun _ => ⟨rfl, rfl⟩⟩

/-- The window period timer does not run where no window may open (R37). -/
theorem State.settleWindow_still (h : s.power.state = .spent ∨ s.part ≠ .run) :
    s.settleWindow.drive.periodTimer = .stopped := by
  have may : ¬ s.windowMayOpen = true := by
    rcases h with h | h <;> simp [State.windowMayOpen, h]
  unfold State.settleWindow
  rw [if_neg may]
  rfl

/-- Where no window may open, a window closed early stays shut while the drive is settled. -/
theorem State.windowShut_settleDrive {d : Drive} (h : s.power.state = .spent ∨ s.part ≠ .run)
    (hw : s.drive.window = d.window) (hc : s.drive.closedEarly = d.closedEarly) :
    d.WindowShut s.closeWindowEarly.settleDrive.drive := by
  obtain ⟨closed, opened, still⟩ := s.closeWindowEarly_shut
  have lies := (Drive.windowLies_self closed).settleDrive
  refine ⟨lies.window, State.settleWindow_still _ ?_, fun ho => ?_, fun h => ?_⟩
  · rw [(State.keeps_followTarget _).same .part, (State.keeps_followTarget _).same .power,
      (State.keeps_reachedZero _).same .part, (State.keeps_reachedZero _).same .power,
      (State.keeps_settleWindow _).same .part, (State.keeps_settleWindow _).same .power,
      (State.keeps_followTarget _).same .part, (State.keeps_followTarget _).same .power,
      (State.keeps_closeWindowEarly _).same .part, (State.keeps_closeWindowEarly _).same .power]
    exact h
  · obtain ⟨settle, limit, count, channels⟩ := opened (by rwa [hw])
    exact ⟨lies.settleTimer.trans settle, lies.limitTimer.trans limit, (lies.closedEarly.trans count).trans (by rw [hc]),
      fun c => ⟨(lies.asked c).1.trans (channels c).1, (lies.asked c).2.trans (channels c).2⟩⟩
  · rw [lies.closedEarly, still (hw.trans h), hc]

/-! ### An entry to SPENT -/

/-- A drive that takes an entry to SPENT comes to rest with its window closed, and brings no chuff (R71). -/
theorem State.drivePower_rests (h : s.power.state = .spent) :
    s.drive.AtRest (s.drivePower true).drive ∧ s.drive.WindowShut (s.drivePower true).drive ∧
      (s.drivePower true).drive.target = s.drive.target ∧
      s.Shows (s.drivePower true) [.drive, .cadence, .smoke, .lamps, .store] := by
  have zeroed := s.driveSame_zeroRamp
  have closing := State.driveSame_closeWindowEarly s.zeroRamp
  have power : s.zeroRamp.closeWindowEarly.power = s.power :=
    ((State.keeps_closeWindowEarly _).same .power).trans (s.keeps_zeroRamp.same .power)
  have rest : s.drive.AtRest s.zeroRamp.closeWindowEarly.drive := (State.atRest_zeroRamp fun _ => rfl).closeWindowEarly
  obtain ⟨rests, -, -, -, shows⟩ := rest.settlesShut (State.closeWindowEarly_shut _).1 fun v _ hv _ =>
    v.effectiveTarget_of_spent (by rw [hv, power, h])
  rw [State.drivePower_spent]
  refine ⟨rests, State.windowShut_settleDrive _ (.inl ?_) (zeroed.same .window) (zeroed.same .closedEarly), ?_, ?_⟩
  · rw [s.keeps_zeroRamp.same .power, h]
  · rw [(State.driveSame_settleDrive _).same .target, closing.same .target, zeroed.same .target]
  · exact s.shows_zeroRamp.mono.trans ((State.Shows.of_keeps (State.keeps_closeWindowEarly _)).mono.trans shows.mono)

/-- A publication at an entry to SPENT (R71). -/
theorem State.publishPower_spent (order : Nat) (h : s.power.state = .spent) :
    s.drive.AtRest (s.publishPower true order).drive ∧ s.drive.WindowShut (s.publishPower true order).drive ∧
      (s.publishPower true order).drive.target = s.drive.target ∧
      s.Shows (s.publishPower true order) Component.ofPublished ∧
      (s.publishPower true order).sound = { s.sound with attenuation := 0 } ∧
      (s.publishPower true order).lamps.Dark := by
  have drive : s.drive.AtRest (s.publishPower true order).drive ∧ s.drive.WindowShut (s.publishPower true order).drive ∧
      (s.publishPower true order).drive.target = s.drive.target ∧
      s.Shows (s.publishPower true order) Component.ofPublished ∧
      { (s.publishPower true order).sound with attenuation := 0 } = { s.sound with attenuation := 0 } := by
    have sound (u : State) (g : Receiver) (hg : g ≠ .drive) :
        { (g.takes true u).sound with attenuation := 0 } = { u.sound with attenuation := 0 } := by
      cases g
      · exact absurd rfl hg
      · rw [Receiver.takes_smoke, u.keeps_smokePower.same .sound]
      · rw [Receiver.takes_lamps, u.keeps_lampPower.same .sound]
      · rfl
    refine s.publishPower_reaches
      (Q := fun u => u.drive = s.drive ∧ u.power = s.power ∧ s.Shows u Component.ofPublished ∧
        { u.sound with attenuation := 0 } = { s.sound with attenuation := 0 })
      (P := fun u => s.drive.AtRest u.drive ∧ s.drive.WindowShut u.drive ∧ u.drive.target = s.drive.target ∧
        s.Shows u Component.ofPublished ∧ { u.sound with attenuation := 0 } = { s.sound with attenuation := 0 })
      true order .drive (fun g hg u hu => ?_) (fun u hu => ?_) (fun g hg u hu => ?_) ⟨rfl, rfl, .refl _ _, rfl⟩
    · obtain ⟨drive, power, shows, heard⟩ := hu
      exact ⟨(Receiver.takes_driveSame u true hg).trans drive, (g.takes_power u true).trans power,
        shows.trans (Receiver.takes_shows u true hg), (sound u g hg).trans heard⟩
    · obtain ⟨drive, power, shows, heard⟩ := hu
      obtain ⟨rest, shut, target, shown⟩ := u.drivePower_rests (by rw [power, h])
      rw [drive] at rest shut target
      rw [Receiver.takes_drive]
      refine ⟨rest, shut, target, shows.trans shown.mono, ?_⟩
      rw [show (u.drivePower true).sound = u.sound from shown.1 .sound (by decide)]
      exact heard
    · obtain ⟨rest, shut, target, shows, heard⟩ := hu
      rw [Receiver.takes_driveSame u true hg]
      exact ⟨rest, shut, target, shows.trans (Receiver.takes_shows u true hg), (sound u g hg).trans heard⟩
  obtain ⟨rest, shut, target, shows, heard⟩ := drive
  refine ⟨rest, shut, target, shows, ?_, ?_⟩
  · have silent : (s.publishPower true order).sound.attenuation = 0 := by
      rw [s.publishPower_attenuation, Power.attenuation, h]
    rw [← heard, ← silent]
  · refine s.publishPower_reaches (Q := fun u => u.power = s.power) (P := fun u => u.lamps.Dark) true order .lamps
      (fun g _ u hu => (g.takes_power u true).trans hu) (fun u hu => ?_) (fun g hg u hu => ?_) rfl
    · refine State.dark_formLamps (u.withLamps { u.lamps with factor := u.power.lampFactor }) ?_
      show u.power.lampFactor = 0
      rw [hu, Power.lampFactor, h]
    · cases g
      · exact (u.follows_drivePower true).dark hu
      · rw [Receiver.takes_smoke, u.keeps_smokePower.same .lamps]
        exact hu
      · exact absurd rfl hg
      · exact hu

/-- A publication outside SUPPLIED holds a heating smoke unit (R71, R92). -/
theorem State.publishPower_holds (b : Bool) (order : Nat) (h : s.power.state ≠ .supplied)
    (hs : s.smoke.state.heating = true) (hh : s.smoke.held = false) :
    (s.publishPower b order).smoke.state = .held ∧ (s.publishPower b order).smoke.heater = 0 ∧
      (s.publishPower b order).smoke.fan = 0 := by
  refine s.publishPower_reaches
    (Q := fun u => u.power = s.power ∧ u.smoke.state.heating = true ∧ u.smoke.held = false)
    (P := fun u => u.smoke.state = .held ∧ u.smoke.heater = 0 ∧ u.smoke.fan = 0)
    b order .smoke (fun g hg u hu => ?_) (fun u hu => ?_) (fun g hg u hu => ?_) ⟨rfl, hs, hh⟩
  · obtain ⟨power, heats, free⟩ := hu
    have follows := Receiver.takes_smokeFollows u b hg
    exact ⟨(g.takes_power u b).trans power, follows.heating.trans heats, follows.held.trans free⟩
  · obtain ⟨power, heats, free⟩ := hu
    have held : (u.power.state != .supplied) = true ∨ ∃ k : SlotIx, u.smoke.alarmHold[k] = true :=
      .inl (by simp [power, h])
    rw [Receiver.takes_smoke]
    have fan := u.setHolds_fanDuty _ _ held
    obtain ⟨e, -⟩ := u.setHolds_begins _ _ free held heats
    rw [fan] at e
    rw [State.smokePower, e]
    exact ⟨rfl, rfl, rfl⟩
  · obtain ⟨held, cold, still⟩ := hu
    have follows := Receiver.takes_smokeFollows u b hg
    exact ⟨(follows.stands (by rw [held]; exact nofun)).trans held, follows.heater.trans cold,
      (follows.fan held).trans still⟩

/-- A publication of SUPPLIED frees a unit that no alarm holds (R71, R92). -/
theorem State.publishPower_frees (b : Bool) (order : Nat) (h : s.power.state = .supplied) (hs : s.smoke.state = .held)
    (hp : s.smoke.powerHold = true) (ha : ∀ k : SlotIx, s.smoke.alarmHold[k] = false) :
    (s.publishPower b order).smoke.state = (if s.smoke.enabled then .warming else .off) ∧
      (s.publishPower b order).smoke.heater = 0 := by
  have moved : (if s.smoke.enabled then SmokeState.warming else .off) ≠ .idling := by split <;> exact nofun
  refine s.publishPower_reaches
    (Q := fun u => u.power = s.power ∧ s.smoke.Follows u.smoke)
    (P := fun u => u.smoke.state = (if s.smoke.enabled then .warming else .off) ∧ u.smoke.heater = 0)
    b order .smoke (fun g hg u hu => ?_) (fun u hu => ?_) (fun g hg u hu => ?_) ⟨rfl, .refl _⟩
  · obtain ⟨power, follows⟩ := hu
    exact ⟨(g.takes_power u b).trans power, follows.trans (Receiver.takes_smokeFollows u b hg)⟩
  · obtain ⟨power, follows⟩ := hu
    have held : u.smoke.held = true := (Smoke.held_iff _).mpr (.inl (follows.powerHold.trans hp))
    have free : ¬ ((u.power.state != .supplied) = true ∨ ∃ k : SlotIx, u.smoke.alarmHold[k] = true) := by
      rw [follows.alarmHold]
      simp [-Fin.getElem_fin, power, h, ha]
    obtain ⟨warms, cools, -⟩ := u.setHolds_ends _ _ held free ((follows.stands (by rw [hs]; exact nofun)).trans hs)
    rw [Receiver.takes_smoke, State.smokePower]
    cases he : u.smoke.enabled
    · rw [cools he, ← follows.enabled, he]
      exact ⟨rfl, rfl⟩
    · rw [warms he, ← follows.enabled, he]
      exact ⟨rfl, rfl⟩
  · obtain ⟨state, cold⟩ := hu
    have follows := Receiver.takes_smokeFollows u b hg
    exact ⟨(follows.stands (by rw [state]; exact moved)).trans state, follows.heater.trans cold⟩

/-! ### A change of the power state -/

/-- The state that a change of the power state hands to the publication (R75, R76). -/
def State.powerAnnounced (kind : EventKind) (subject : Byte) (detail : Nat) : State :=
  ((s.event kind subject (BitVec.ofNat 16 detail)).raise .power).writePowerReadings

theorem State.announcePower_eq (kind : EventKind) (subject : Byte) (detail : Nat) (b : Bool) (order : Nat) :
    s.announcePower kind subject detail b order = (s.powerAnnounced kind subject detail).publishPower b order := rfl

theorem State.keeps_powerAnnounced (kind : EventKind) (subject : Byte) (detail : Nat) :
    s.Keeps (s.powerAnnounced kind subject detail) [.store, .events, .eventSeq, .attention] :=
  (s.keeps_event _ _ _).mono.trans ((State.keeps_raise _ _).mono.trans (State.keeps_writePowerReadings _).mono)

theorem State.powerAnnounced_attends {u : State} (h : s.AttendsAs u) (kind : EventKind) (subject : Byte) (detail : Nat) :
    (s.powerAnnounced kind subject detail).AttendsAs ((u.event kind subject (BitVec.ofNat 16 detail)).raise .power) :=
  State.AttendsAs.trans ((h.event _ _ _).raise _) (.of_shows (State.shows_writeGroup _ _ _ _))

/-- A change of the power state: its power, its receivers, and the smoke unit's holds (R71, R92). -/
theorem State.announcePower_publishes (kind : EventKind) (subject : Byte) (detail : Nat) (b : Bool) (order : Nat) :
    (s.announcePower kind subject detail b order).power = s.power ∧
      (s.announcePower kind subject detail b order).PowerPublished ∧
      (s.power.state ≠ .supplied → s.smoke.state.heating = true → s.smoke.held = false →
        (s.announcePower kind subject detail b order).smoke.state = .held ∧
          (s.announcePower kind subject detail b order).smoke.heater = 0 ∧
          (s.announcePower kind subject detail b order).smoke.fan = 0) ∧
      (s.power.state = .supplied → s.smoke.state = .held → s.smoke.powerHold = true →
        (∀ k : SlotIx, s.smoke.alarmHold[k] = false) →
        (s.announcePower kind subject detail b order).smoke.state = (if s.smoke.enabled then .warming else .off) ∧
          (s.announcePower kind subject detail b order).smoke.heater = 0) := by
  have announced := s.keeps_powerAnnounced kind subject detail
  have power : (s.powerAnnounced kind subject detail).power = s.power := announced.same .power
  have smoke : (s.powerAnnounced kind subject detail).smoke = s.smoke := announced.same .smoke
  have holds := (s.powerAnnounced kind subject detail).publishPower_holds b order
  have frees := (s.powerAnnounced kind subject detail).publishPower_frees b order
  rw [power, smoke] at holds frees
  rw [State.announcePower_eq]
  exact ⟨((State.keeps_publishPower _ b order).same .power).trans power, State.powerPublished_publishPower _ b order,
    holds, frees⟩

/-- Under a momentum other than OFF a change of the power state raises its event and POWER alone (R76). -/
theorem State.announcePower_attends {u : State} (h : s.AttendsAs u) (hm : s.drive.profile.momentum ≠ .off)
    (kind : EventKind) (subject : Byte) (detail order : Nat) :
    (s.announcePower kind subject detail false order).AttendsAs
      ((u.event kind subject (BitVec.ofNat 16 detail)).raise .power) := by
  have drive : (s.powerAnnounced kind subject detail).drive = s.drive :=
    (s.keeps_powerAnnounced kind subject detail).same .drive
  exact (s.powerAnnounced_attends h kind subject detail).trans
    (.of_shows (State.shows_publishPower _ order (by rwa [drive])))

/-- An entry to SPENT, announced (R68, R71, R76). -/
theorem State.announcePower_spent {u : State} (h : s.AttendsAs u) (hs : s.power.state = .spent)
    (kind : EventKind) (subject : Byte) (detail order : Nat) :
    (s.announcePower kind subject detail true order).AttendsAs
        ((u.event kind subject (BitVec.ofNat 16 detail)).raise .power) ∧
      s.drive.AtRest (s.announcePower kind subject detail true order).drive ∧
      s.drive.WindowShut (s.announcePower kind subject detail true order).drive ∧
      (s.announcePower kind subject detail true order).drive.target = s.drive.target ∧
      (s.announcePower kind subject detail true order).sound = { s.sound with attenuation := 0 } ∧
      (s.announcePower kind subject detail true order).lamps.Dark := by
  have announced := s.keeps_powerAnnounced kind subject detail
  have drive : (s.powerAnnounced kind subject detail).drive = s.drive := announced.same .drive
  have sound : (s.powerAnnounced kind subject detail).sound = s.sound := announced.same .sound
  obtain ⟨rest, shut, target, shows, heard, dark⟩ := (s.powerAnnounced kind subject detail).publishPower_spent order
    (by rw [announced.same .power, hs])
  rw [drive] at rest shut target
  rw [sound] at heard
  exact ⟨(s.powerAnnounced_attends h kind subject detail).trans (.of_shows shows), rest, shut, target, heard, dark⟩

end

end Sys2Proof.Machine

/-! ## The supervisor's inputs and the outage tick -/

namespace Sys2Proof.Machine

-- One proof at a time: proofs that wait for one another would each hold a thread.
set_option Elab.async false

section
variable (s : State)

/-- The supervisor's record with its inputs taken (R65). -/
def State.powerInputs : Power :=
  { s.power with trackLost := s.sequencer.assertedLow slotTrack, storeLow := s.sequencer.assertedLow slotStore }

/-- The record as an outage begins (R66). -/
def State.outageBegun : Power :=
  { s.powerInputs with
    outage := 0
    outageTimer := .running (millis s.time + 10000)
    outageCount := s.power.outageCount + 1#16
    charge := false }

/-- The record as the bridge begins (R66). -/
def State.bridgeBegun : Power := { s.outageBegun with state := .bridging, bridge := s.power.profile.bridgeTime * 10 }

/-- The record as an outage ends (R67, R69). -/
def State.outageEnded : Power :=
  { s.powerInputs with
    state := .supplied
    outageTimer := .stopped
    bridge := 0
    lastOutage := s.power.outage
    outage := 0 }

/-- A record that has entered SPENT (R68). -/
def Power.spend (p : Power) : Power := { p with state := .spent, bridge := 0, spentCount := p.spentCount + 1#16 }

/-- The supervisor's judgement of its inputs, state by state. -/
theorem State.powerContributions_cases (order : Nat) :
    (s.power.state = .supplied → s.powerContributions order =
      if (s.sequencer.assertedLow slotTrack && !s.power.trackLost) = true then
        (s.withPower s.powerInputs).leaveSupplied order else s.withPower s.powerInputs) ∧
    (s.power.state = .bridging → s.powerContributions order =
      if (s.power.trackLost && !s.sequencer.assertedLow slotTrack) = true then
        (s.withPower s.powerInputs).returnSupplied 1#8 order
      else if (s.sequencer.assertedLow slotStore && !s.power.storeLow) = true then
        (s.withPower s.powerInputs).enterSpent .storeLow order
      else s.withPower s.powerInputs) ∧
    (s.power.state = .spent → s.powerContributions order =
      if (s.power.trackLost && !s.sequencer.assertedLow slotTrack) = true then
        (s.withPower s.powerInputs).returnSupplied 2#8 order else s.withPower s.powerInputs) := by
  refine ⟨fun hs => ?_, fun hs => ?_, fun hs => ?_⟩
  all_goals
    unfold State.powerContributions
    dsimp only
    split
  all_goals
    rename_i h
    first | rfl | exact absurd (h.symm.trans hs) nofun

theorem State.leaveSupplied_eq (order : Nat) : (s.withPower s.powerInputs).leaveSupplied order =
    if 0 < s.power.profile.bridgeTime ∧ s.sequencer.assertedLow slotStore = false then
      (s.withPower s.bridgeBegun).announcePower .powerBridging 0#8
          s.power.profile.bridgeTime false order
    else (s.withPower s.outageBegun.spend).announcePower .powerSpent 3#8 0 true order := rfl

theorem State.returnSupplied_eq (subject : Byte) (order : Nat) : (s.withPower s.powerInputs).returnSupplied subject order =
    (s.withPower s.outageEnded).announcePower .powerSupplied subject s.power.outage false order := rfl

/-- What the supervisor does with its inputs, by its state (R66 to R69). -/
theorem State.powerContributions_eq (order : Nat) :
    let lost := s.sequencer.assertedLow slotTrack
    let low := s.sequencer.assertedLow slotStore
    let begins := lost = true ∧ s.power.trackLost = false
    let ends := lost = false ∧ s.power.trackLost = true
    (s.power.state = .supplied → begins → 0 < s.power.profile.bridgeTime → low = false →
      s.powerContributions order = (s.withPower s.bridgeBegun).announcePower .powerBridging 0#8
          s.power.profile.bridgeTime false order) ∧
    (s.power.state = .supplied → begins → s.power.profile.bridgeTime = 0 ∨ low = true →
      s.powerContributions order = (s.withPower s.outageBegun.spend).announcePower .powerSpent 3#8 0 true order) ∧
    (s.power.state = .bridging ∨ s.power.state = .spent → ends →
      s.powerContributions order = (s.withPower s.outageEnded).announcePower .powerSupplied
        (if s.power.state = .bridging then 1#8 else 2#8) s.power.outage false order) ∧
    (s.power.state = .bridging → ¬ ends → low = true → s.power.storeLow = false →
      s.powerContributions order = (s.withPower s.powerInputs.spend).announcePower .powerSpent 2#8 s.power.outage true
        order) ∧
    (s.power.state = .supplied ∧ ¬ begins ∨ s.power.state = .spent ∧ ¬ ends ∨
        s.power.state = .bridging ∧ ¬ ends ∧ ¬ (low = true ∧ s.power.storeLow = false) →
      s.powerContributions order = s.withPower s.powerInputs) := by
  obtain ⟨supplied, bridging, spent⟩ := s.powerContributions_cases order
  have leaves := s.leaveSupplied_eq order
  have returns := s.returnSupplied_eq
  have spends : (s.withPower s.powerInputs).enterSpent .storeLow order =
      (s.withPower s.powerInputs.spend).announcePower .powerSpent 2#8 s.power.outage true order := rfl
  generalize s.sequencer.assertedLow slotTrack = lost at *
  generalize hlow : s.sequencer.assertedLow slotStore = low at *
  dsimp only
  refine ⟨fun hs hb ht hl => ?_, fun hs hb h => ?_, fun hs he => ?_, fun hs he hl hp => ?_, fun h => ?_⟩
  · rw [supplied hs, if_pos (by rw [hb.1, hb.2]; rfl), leaves, if_pos ⟨ht, hl⟩]
  · rw [supplied hs, if_pos (by rw [hb.1, hb.2]; rfl), leaves, if_neg]
    rintro ⟨ht, hl⟩
    rcases h with h | h
    · omega
    · rw [hl] at h
      cases h
  · rcases hs with hs | hs
    · rw [bridging hs, if_pos (by rw [he.1, he.2]; rfl), if_pos hs]
      exact returns 1#8 order
    · rw [spent hs, if_pos (by rw [he.1, he.2]; rfl), if_neg (by rw [hs]; exact nofun)]
      exact returns 2#8 order
  · rw [bridging hs, if_neg (by simpa [and_comm] using he), if_pos (by rw [hl, hp]; rfl), spends]
  · rcases h with ⟨hs, hn⟩ | ⟨hs, hn⟩ | ⟨hs, hn, hd⟩
    · rw [supplied hs, if_neg (by simpa using hn)]
    · rw [spent hs, if_neg (by simpa [and_comm] using hn)]
    · rw [bridging hs, if_neg (by simpa [and_comm] using hn), if_neg (by simpa using hd)]

/-- The bridge of a supervisor at a tick (R70). -/
def State.outageTicked : Power :=
  { s.power with
    outageTimer := .running (millis s.time + 10000)
    outage := min (s.power.outage + 1) 65535
    bridge := if s.power.state = .bridging then s.power.bridge - 1 else s.power.bridge }

theorem exec_outageTick (order : Nat) (h : s.power.outageTimer.isRunning = true) : exec (.outageTick order) s =
    .next (if s.power.state = .bridging ∧ s.outageTicked.bridge = 0 then
      (((s.withPower s.outageTicked.spend).announcePower .powerSpent 1#8 s.outageTicked.outage true order).settleQuiesce)
      else s.withPower s.outageTicked) := by
  show execOutageTick order s = _
  unfold execOutageTick
  rw [if_pos h]
  rfl

end

/-- The supervisor's inputs, whatever comes of them (R65). -/
theorem State.powerContributions_inputs (s : State) (order : Nat) :
    (s.powerContributions order).power.trackLost = s.sequencer.assertedLow slotTrack ∧
      (s.powerContributions order).power.storeLow = s.sequencer.assertedLow slotStore := by
  obtain ⟨supplied, bridging, spent⟩ := s.powerContributions_cases order
  have announced (p : Power) (hp : p.trackLost = s.powerInputs.trackLost ∧ p.storeLow = s.powerInputs.storeLow)
      (kind : EventKind) (subject : Byte) (detail : Nat) (b : Bool) :
      ((s.withPower p).announcePower kind subject detail b order).power.trackLost = s.powerInputs.trackLost ∧
        ((s.withPower p).announcePower kind subject detail b order).power.storeLow = s.powerInputs.storeLow := by
    rw [(State.announcePower_publishes (s.withPower p) kind subject detail b order).1]
    exact hp
  show (s.powerContributions order).power.trackLost = s.powerInputs.trackLost ∧
    (s.powerContributions order).power.storeLow = s.powerInputs.storeLow
  cases hs : s.power.state
  case supplied =>
    rw [supplied hs, s.leaveSupplied_eq]
    split
    · split
      · exact announced s.bridgeBegun ⟨rfl, rfl⟩ .powerBridging 0#8 s.power.profile.bridgeTime false
      · exact announced s.outageBegun.spend ⟨rfl, rfl⟩ .powerSpent 3#8 0 true
    · exact ⟨rfl, rfl⟩
  case bridging =>
    rw [bridging hs, s.returnSupplied_eq]
    split
    · exact announced s.outageEnded ⟨rfl, rfl⟩ .powerSupplied 1#8 s.power.outage false
    · split
      · exact announced s.powerInputs.spend ⟨rfl, rfl⟩ .powerSpent 2#8 s.power.outage true
      · exact ⟨rfl, rfl⟩
  case spent =>
    rw [spent hs, s.returnSupplied_eq]
    split
    · exact announced s.outageEnded ⟨rfl, rfl⟩ .powerSupplied 2#8 s.power.outage false
    · exact ⟨rfl, rfl⟩

/-- Settles O19: each branch of the supervisor's judgement is a change of its record and an announcement of it. -/
theorem trackAndStoreMoveThePowerState : Obligations.TrackAndStoreMoveThePowerState := by
  intro s order _ _
  obtain ⟨bridges, spends, returns, ends, stays⟩ := s.powerContributions_eq order
  have attends (p : Power) : (s.withPower p).AttendsAs s := .of_frame (s.sameExcept_withPower p)
  have inputs := s.powerContributions_inputs order
  generalize s.powerContributions order = t at *
  refine ⟨inputs.1, inputs.2, fun hs hb ht hl => ?_, fun hs hb h => ?_, fun hs he => ?_, fun hs he hl hp => ?_,
    fun hs hb hh hf => ?_, fun hs he hh hp ha => ?_, stays⟩
  · obtain ⟨power, published, -⟩ := State.announcePower_publishes (s.withPower s.bridgeBegun) .powerBridging 0#8 s.power.profile.bridgeTime false
      order
    have raised := fun hm => (State.announcePower_attends (s.withPower s.bridgeBegun) (attends _) hm .powerBridging 0#8
      s.power.profile.bridgeTime order).2
    rw [← bridges hs hb ht hl] at power published raised
    exact ⟨power, raised, published⟩
  · obtain ⟨power, published, -⟩ := State.announcePower_publishes (s.withPower s.outageBegun.spend) .powerSpent 3#8 0 true order
    obtain ⟨raised, rest, -⟩ := State.announcePower_spent _ (attends s.outageBegun.spend) rfl .powerSpent 3#8 0 order
    rw [← spends hs hb h] at power published raised rest
    exact ⟨power, raised.2, published, rest⟩
  · obtain ⟨power, published, -⟩ := State.announcePower_publishes (s.withPower s.outageEnded) .powerSupplied
      (if s.power.state = .bridging then 1#8 else 2#8) s.power.outage false order
    have raised := fun hm => (State.announcePower_attends (s.withPower s.outageEnded) (attends _) hm .powerSupplied
      (if s.power.state = .bridging then 1#8 else 2#8) s.power.outage order).2
    rw [← returns hs he] at power published raised
    exact ⟨power, raised, published⟩
  · obtain ⟨power, published, -⟩ := State.announcePower_publishes (s.withPower s.powerInputs.spend) .powerSpent 2#8
      s.power.outage true order
    obtain ⟨raised, rest, -⟩ := State.announcePower_spent _ (attends s.powerInputs.spend) rfl .powerSpent 2#8 s.power.outage
      order
    rw [← ends hs he hl hp] at power published raised rest
    exact ⟨power, raised.2, published, rest⟩
  · by_cases h : 0 < s.power.profile.bridgeTime ∧ s.sequencer.assertedLow slotStore = false
    · obtain ⟨-, -, holds, -⟩ := State.announcePower_publishes (s.withPower s.bridgeBegun) .powerBridging 0#8
        s.power.profile.bridgeTime false order
      rw [← bridges hs hb h.1 h.2] at holds
      obtain ⟨state, heater, -⟩ := holds nofun hh hf
      exact ⟨state, heater⟩
    · obtain ⟨-, -, holds, -⟩ := State.announcePower_publishes (s.withPower s.outageBegun.spend) .powerSpent 3#8 0 true order
      rw [← spends hs hb (by simpa [imp_iff_not_or] using h)] at holds
      obtain ⟨state, heater, -⟩ := holds nofun hh hf
      exact ⟨state, heater⟩
  · obtain ⟨-, -, -, frees⟩ := State.announcePower_publishes (s.withPower s.outageEnded) .powerSupplied
      (if s.power.state = .bridging then 1#8 else 2#8) s.power.outage false order
    rw [← returns hs he] at frees
    exact frees rfl hh hp ha

/-- Settles O20: a tick counts, and the one that takes the bridge to 0 announces SPENT. -/
theorem outageTickCountsAndEndsTheBridge : Obligations.OutageTickCountsAndEndsTheBridge := by
  intro s order _ running open_
  refine ⟨fun hs => ?_, fun hs hb => ?_, fun hs hb => ?_⟩
  · have e : s.outageTicked = { s.power with
        outage := min (s.power.outage + 1) 65535, outageTimer := .running (millis s.time + 10000) } := by
      unfold State.outageTicked
      rw [if_neg hs]
    rw [exec_outageTick s order running, if_neg fun h => hs h.1, e]
    rfl
  · have e : s.outageTicked = { s.power with
        outage := min (s.power.outage + 1) 65535, outageTimer := .running (millis s.time + 10000)
        bridge := s.power.bridge - 1 } := by
      unfold State.outageTicked
      rw [if_pos hs]
    rw [exec_outageTick s order running, e, if_neg fun h => ?_]
    · rfl
    · have : s.power.bridge - 1 = 0 := h.2
      omega
  · have empty : s.outageTicked.bridge = 0 := (if_pos hs).trans (by omega)
    have frame := State.keeps_announcePower (s.withPower s.outageTicked.spend) .powerSpent 1#8 s.outageTicked.outage true order
    obtain ⟨power, published, holds, -⟩ := State.announcePower_publishes (s.withPower s.outageTicked.spend) .powerSpent 1#8
      s.outageTicked.outage true order
    obtain ⟨raised, rest, shut, target, sound, dark⟩ := State.announcePower_spent (s.withPower s.outageTicked.spend)
      (.of_frame (s.sameExcept_withPower _)) rfl .powerSpent 1#8 s.outageTicked.outage order
    rw [exec_outageTick s order running, if_pos ⟨hs, empty⟩]
    generalize (s.withPower s.outageTicked.spend).announcePower .powerSpent 1#8 s.outageTicked.outage true order = t at *
    have unfinished : t.QuiesceUnfinished :=
      open_.unfinished (frame.same .part) (frame.same .acks) (fun _ => by rw [sound]; rfl) (frame.same .adoption)
    obtain ⟨a, settled, -⟩ := State.settleQuiesce_withAcks unfinished
    rw [settled]
    refine ⟨_, rfl, power, raised.2, published, rest, shut, target, dark.2, sound, fun hh hf => holds nofun hh hf, ?_⟩
    exact State.sameExcept_trans (State.sameExcept_mono (s.sameExcept_withPower _) (by decide))
      (State.sameExcept_trans (State.sameExcept_mono frame.frame (by decide))
        (State.sameExcept_mono (t.sameExcept_withAcks a) (by decide)))

end Sys2Proof.Machine

/-! ## The hand-off of the alarms' contributions -/

namespace Sys2Proof.Machine

-- One proof at a time: proofs that wait for one another would each hold a thread.
set_option Elab.async false

section
variable (s : State)

/-! ### What the hand-offs leave of the part and of the drive -/

theorem State.heeds_soundPower : s.Heeds s.soundPower := ⟨rfl, fun _ => id, fun _ _ _ => rfl, fun _ => rfl⟩

theorem Receiver.heeds_takes (b : Bool) (g : Receiver) : s.Heeds (g.takes b s) := by
  cases g
  · exact (s.follows_drivePower b).toHeeds
  · exact .of_frame s.keeps_smokePower.frame
  · exact .of_frame s.keeps_lampPower.frame
  · exact s.heeds_soundPower

theorem State.heeds_publishPower (b : Bool) (order : Nat) : s.Heeds (s.publishPower b order) :=
  s.publishPower_stays (P := s.Heeds) b order (fun g u hu => hu.trans (Receiver.heeds_takes u b g)) (.refl s)

theorem State.driveSame_drivePower (b : Bool) : s.DriveSame (s.drivePower b) DriveField.ofSettle := by
  cases b
  · rw [s.drivePower_refreshed]
    exact s.driveSame_refreshDuty.mono.trans (State.driveSame_settleDrive _)
  · rw [s.drivePower_spent]
    exact s.driveSame_zeroRamp.mono.trans
      ((State.driveSame_closeWindowEarly _).mono.trans (State.driveSame_settleDrive _))

theorem State.driveSame_publishPower (b : Bool) (order : Nat) : s.DriveSame (s.publishPower b order) DriveField.ofSettle := by
  refine s.publishPower_stays (P := fun u => s.DriveSame u DriveField.ofSettle) b order (fun g u hu => hu.trans ?_) (.refl _ _)
  by_cases hg : g = .drive
  · rw [hg, Receiver.takes_drive]
    exact u.driveSame_drivePower b
  · exact .of_eq (Receiver.takes_driveSame u b hg) _

/-- What a change of the power state leaves of the smoke unit's alarms. -/
structure Smoke.Heeds (u v : Smoke) : Prop where
  alarmHold : v.alarmHold = u.alarmHold
  alarmDry : v.alarmDry = u.alarmDry
  dry : u.state = .dry → v.state = .dry

namespace Smoke.Heeds
variable {u v w : Smoke}

theorem refl (u : Smoke) : u.Heeds u := ⟨rfl, rfl, id⟩

theorem trans (h : u.Heeds v) (k : v.Heeds w) : u.Heeds w :=
  ⟨k.alarmHold.trans h.alarmHold, k.alarmDry.trans h.alarmDry, fun d => k.dry (h.dry d)⟩

theorem of_follows (h : u.Follows v) : u.Heeds v :=
  ⟨h.alarmHold, h.alarmDry, fun d => (h.stands (by rw [d]; exact nofun)).trans d⟩

end Smoke.Heeds

theorem State.smokeHeeds_publishPower (b : Bool) (order : Nat) : s.smoke.Heeds (s.publishPower b order).smoke := by
  refine s.publishPower_stays (P := fun u => s.smoke.Heeds u.smoke) b order (fun g u hu => hu.trans ?_) (.refl _)
  by_cases hg : g = .smoke
  · obtain ⟨-, hold, dry, -, -, -, stays⟩ := u.setHolds_smoke (u.power.state != .supplied) u.smoke.alarmHold
    rw [hg, Receiver.takes_smoke]
    exact ⟨hold, dry, stays⟩
  · exact .of_follows (Receiver.takes_smokeFollows u b hg)

/-- An announcement of the power state, for what it leaves alone. -/
theorem State.announcePower_heeds {kind : EventKind} (hk : kind ≠ .alarmAssert ∧ kind ≠ .alarmClear) (subject : Byte)
    (detail : Nat) (b : Bool) (order : Nat) :
    s.Heeds (s.announcePower kind subject detail b order) ∧
      s.DriveSame (s.announcePower kind subject detail b order) DriveField.ofSettle ∧
      s.smoke.Heeds (s.announcePower kind subject detail b order).smoke := by
  have announced := s.keeps_powerAnnounced kind subject detail
  have smoke : (s.powerAnnounced kind subject detail).smoke = s.smoke := announced.same .smoke
  have heeds : s.Heeds (s.powerAnnounced kind subject detail) :=
    (((State.Heeds.refl s).event hk subject (BitVec.ofNat 16 detail)).raise .power).trans
      (.of_frame (State.keeps_writePowerReadings _).frame)
  have held := (s.powerAnnounced kind subject detail).smokeHeeds_publishPower b order
  rw [smoke] at held
  rw [State.announcePower_eq]
  exact ⟨heeds.trans (State.heeds_publishPower _ b order),
    Drive.SameBut.trans (State.DriveSame.of_keeps announced (m := _)) (State.driveSame_publishPower _ b order), held⟩

/-- The supervisor's judgement of its inputs, for what it leaves alone. -/
theorem State.powerContributions_heeds (order : Nat) :
    s.Heeds (s.powerContributions order) ∧ s.DriveSame (s.powerContributions order) DriveField.ofSettle ∧
      s.smoke.Heeds (s.powerContributions order).smoke := by
  obtain ⟨supplied, bridging, spent⟩ := s.powerContributions_cases order
  have heeds (p : Power) : s.Heeds (s.withPower p) := .of_frame (s.sameExcept_withPower p)
  have stays : s.Heeds (s.withPower s.powerInputs) ∧ s.DriveSame (s.withPower s.powerInputs) DriveField.ofSettle ∧
      s.smoke.Heeds (s.withPower s.powerInputs).smoke := ⟨heeds _, .refl _ _, .refl _⟩
  have announced (p : Power) (kind : EventKind) (hk : kind ≠ .alarmAssert ∧ kind ≠ .alarmClear) (subject : Byte)
      (detail : Nat) (b : Bool) :
      s.Heeds ((s.withPower p).announcePower kind subject detail b order) ∧
        s.DriveSame ((s.withPower p).announcePower kind subject detail b order) DriveField.ofSettle ∧
        s.smoke.Heeds ((s.withPower p).announcePower kind subject detail b order).smoke := by
    obtain ⟨h, d, m⟩ := (s.withPower p).announcePower_heeds hk subject detail b order
    exact ⟨(heeds p).trans h, d, m⟩
  cases hs : s.power.state
  case supplied =>
    rw [supplied hs, s.leaveSupplied_eq]
    split
    · split
      · exact announced s.bridgeBegun .powerBridging ⟨nofun, nofun⟩ 0#8 s.power.profile.bridgeTime false
      · exact announced s.outageBegun.spend .powerSpent ⟨nofun, nofun⟩ 3#8 0 true
    · exact stays
  case bridging =>
    rw [bridging hs, s.returnSupplied_eq]
    split
    · exact announced s.outageEnded .powerSupplied ⟨nofun, nofun⟩ 1#8 s.power.outage false
    · split
      · exact announced s.powerInputs.spend .powerSpent ⟨nofun, nofun⟩ 2#8 s.power.outage true
      · exact stays
  case spent =>
    rw [spent hs, s.returnSupplied_eq]
    split
    · exact announced s.outageEnded .powerSupplied ⟨nofun, nofun⟩ 2#8 s.power.outage false
    · exact stays

/-! ### The smoke unit's contributions (R92, R96) -/

/-- Entry to DRY raises an event that is no alarm's. -/
theorem State.heeds_enterDry (subject : Byte) (detail : Half) : s.Heeds (s.enterDry subject detail) := by
  refine .ite (fun _ => .refl s) fun _ => ?_
  have moved (u : Smoke) : s.Heeds ((s.withSmoke u).smokeMoved s.smoke.state) :=
    State.Heeds.trans (t := s.withSmoke u) (.of_frame (s.sameExcept_withSmoke u)) (.of_frame (State.shows_smokeMoved _ _).1)
  exact (moved _).event (k := .smokeDry) ⟨nofun, nofun⟩ _ _

theorem State.heeds_smokeContributions (holds drys : Vector Bool 12) : s.Heeds (s.smokeContributions holds drys) := by
  obtain ⟨quiet, dries⟩ := s.smokeContributions_eq holds drys
  have recorded : s.Heeds (s.drysRecorded drys) := .of_frame (s.sameExcept_withSmoke _)
  have holding (u : State) (h : s.Heeds u) : s.Heeds (u.setHolds s.smoke.powerHold holds) :=
    h.trans (.of_frame (u.shows_setHolds _ _).1)
  by_cases hq : s.smoke.state = .dry ∨ s.freshDry drys = []
  · rw [quiet hq]
    exact holding _ recorded
  · obtain ⟨hs, hn⟩ := not_or.mp hq
    obtain ⟨k, ks, hks⟩ := List.exists_cons_of_ne_nil hn
    rw [dries k ks hs hks]
    exact holding _ (recorded.trans (State.heeds_enterDry _ _ _))

/-- The causes the unit takes, and the state that a slot newly contributing DRY brings. -/
theorem State.smokeContributions_smoke (holds drys : Vector Bool 12) :
    (s.smokeContributions holds drys).smoke.alarmHold = holds ∧ (s.smokeContributions holds drys).smoke.alarmDry = drys ∧
      ∀ k : SlotIx, drys[k] = true → s.smoke.alarmDry[k] = false → (s.smokeContributions holds drys).smoke.state = .dry := by
  obtain ⟨-, contributions, -⟩ := budgetHoldsAndDryAlarmsMoveTheSmokeUnit s
  obtain ⟨hold, dry, -, stays, dries, -⟩ := contributions holds drys
  refine ⟨hold, dry, fun k hk hf => ?_⟩
  by_cases hs : s.smoke.state = .dry
  · exact (stays (.inl hs)).2 hs
  · obtain ⟨j, ⟨hj, hjf⟩, lowest⟩ : ∃ j : SlotIx, (drys[j] = true ∧ s.smoke.alarmDry[j] = false) ∧
        ∀ i : SlotIx, i < j → ¬ (drys[i] = true ∧ s.smoke.alarmDry[i] = false) := by
      have some : ∃ j : SlotIx, drys[j] = true ∧ s.smoke.alarmDry[j] = false := ⟨k, hk, hf⟩
      exact ⟨Fin.find _ some, Fin.find_spec some, fun i hi => Fin.find_min some hi⟩
    rw [(dries hs j ⟨hj, hjf⟩ lowest).1]

/-! ### The hand-off (R58) -/

/-- The blocks that the contributions are handed to (R58). -/
inductive Contributee
  | drive | smoke | power
  deriving DecidableEq

/-- What a block does with the contributions. -/
def Contributee.takes (order : Nat) : Contributee → State → State
  | .drive => State.recomputeProtection
  | .smoke => State.smokeAlarms
  | .power => fun s => s.powerContributions (order / 6)

theorem Contributee.takes_drive (order : Nat) : Contributee.takes order .drive s = s.recomputeProtection := rfl

theorem Contributee.takes_smoke (order : Nat) : Contributee.takes order .smoke s = s.smokeAlarms := rfl

theorem Contributee.takes_power (order : Nat) : Contributee.takes order .power s = s.powerContributions (order / 6) := rfl

/-- What one block brings about from `Q`, and no other undoes, the hand-off leaves, in whatever order it reaches them. -/
theorem State.handContributions_reaches {Q P : State → Prop} (order : Nat) (r : Contributee)
    (inv : ∀ g : Contributee, g ≠ r → ∀ u, Q u → Q (g.takes order u)) (est : ∀ u, Q u → P (r.takes order u))
    (keep : ∀ g : Contributee, g ≠ r → ∀ u, P u → P (g.takes order u)) (h : Q s) : P (s.handContributions order) := by
  have blocks : [Contributee.drive, .smoke, .power].Perm (r :: [Contributee.drive, .smoke, .power].erase r) :=
    List.perm_cons_erase (by cases r <;> decide)
  have other (f : State → State) (hf : f ∈ ([Contributee.drive, .smoke, .power].erase r).map (Contributee.takes order)) :
      ∃ g : Contributee, g ≠ r ∧ f = g.takes order := by
    obtain ⟨g, hg, rfl⟩ := List.mem_map.mp hf
    exact ⟨g, ((List.Nodup.mem_erase_iff (by decide)).mp hg).1, rfl⟩
  refine foldl_apply_once (f := r.takes order) ((arrange_perm _ order).trans (blocks.map (Contributee.takes order)))
    (fun f hf u hu => ?_) est (fun f hf u hu => ?_) s h
  · obtain ⟨g, hg, rfl⟩ := other f hf
    exact inv g hg u hu
  · obtain ⟨g, hg, rfl⟩ := other f hf
    exact keep g hg u hu

theorem State.handContributions_stays {P : State → Prop} (order : Nat)
    (keep : ∀ (g : Contributee) u, P u → P (g.takes order u)) (h : P s) : P (s.handContributions order) :=
  s.handContributions_reaches (Q := P) order .drive (fun g _ => keep g) (keep .drive) (fun g _ => keep g) h

theorem Contributee.keeps_takes (order : Nat) (g : Contributee) : s.Keeps (g.takes order s) Component.ofPower := by
  cases g
  · exact s.keeps_recomputeProtection.mono
  · exact s.keeps_smokeAlarms.mono
  · exact s.keeps_powerContributions _

theorem Contributee.heeds_takes (order : Nat) (g : Contributee) : s.Heeds (g.takes order s) := by
  cases g
  · exact s.follows_recomputeProtection.toHeeds
  · exact s.heeds_smokeContributions _ _
  · exact (s.powerContributions_heeds _).1

theorem State.heeds_handContributions (order : Nat) : s.Heeds (s.handContributions order) :=
  s.handContributions_stays (P := s.Heeds) order (fun g u hu => hu.trans (Contributee.heeds_takes u order g)) (.refl s)

/-- The protection level depends on the sequencer and the radio alone. -/
theorem State.protectionLevel_congr {s t : State} (hq : t.sequencer = s.sequencer) (hr : t.radio = s.radio) :
    t.protectionLevel = s.protectionLevel := by
  unfold State.protectionLevel
  rw [hq, hr]

/-- The drive under the contributions as they stand (R35). -/
theorem State.handContributions_drive (order : Nat) :
    (s.handContributions order).drive.level = s.protectionLevel ∧
      ∀ k : SlotIx, (s.handContributions order).drive.slotCauses[k] = (s.sequencer.driveAction k != .none) := by
  refine s.handContributions_reaches (Q := fun u => u.sequencer = s.sequencer ∧ u.radio = s.radio)
    (P := fun u => u.drive.level = s.protectionLevel ∧
      ∀ k : SlotIx, u.drive.slotCauses[k] = (s.sequencer.driveAction k != .none))
    order .drive (fun g _ u hu => ?_) (fun u hu => ?_) (fun g hg u hu => ?_) ⟨rfl, rfl⟩
  · have keeps := g.keeps_takes u order
    exact ⟨(keeps.same .sequencer).trans hu.1, (keeps.same .radio).trans hu.2⟩
  · have stores := u.recomputeProtection_stores
    rw [Contributee.takes_drive]
    refine ⟨(stores.same .level).trans (State.protectionLevel_congr hu.1 hu.2), fun k => ?_⟩
    rw [show u.recomputeProtection.drive.slotCauses = _ from stores.same .slotCauses, ← hu.1]
    exact vecTab_get _ _ _
  · have same : u.DriveSame (g.takes order u) DriveField.ofSettle := by
      cases g
      · exact absurd rfl hg
      · exact State.DriveSame.of_keeps u.keeps_smokeAlarms (m := _)
      · exact (u.powerContributions_heeds _).2.1
    refine ⟨(same.same .level).trans hu.1, fun k => ?_⟩
    rw [show (g.takes order u).drive.slotCauses = _ from same.same .slotCauses]
    exact hu.2 k

/-- The supervisor's inputs under the contributions as they stand (R65). -/
theorem State.handContributions_power (order : Nat) :
    (s.handContributions order).power.trackLost = s.sequencer.assertedLow slotTrack ∧
      (s.handContributions order).power.storeLow = s.sequencer.assertedLow slotStore := by
  refine s.handContributions_reaches (Q := fun u => u.sequencer = s.sequencer)
    (P := fun u => u.power.trackLost = s.sequencer.assertedLow slotTrack ∧
      u.power.storeLow = s.sequencer.assertedLow slotStore)
    order .power (fun g _ u hu => ((g.keeps_takes u order).same .sequencer).trans hu) (fun u hu => ?_)
    (fun g hg u hu => ?_) rfl
  · rw [Contributee.takes_power, ← hu]
    exact u.powerContributions_inputs _
  · have same : (g.takes order u).power = u.power := by
      cases g
      · exact u.keeps_recomputeProtection.same .power
      · exact u.keeps_smokeAlarms.same .power
      · exact absurd rfl hg
    rw [same]
    exact hu

/-- The smoke unit under the contributions as they stand (R92, R96). -/
theorem State.handContributions_smoke (order : Nat) (k : SlotIx) :
    (s.handContributions order).smoke.alarmHold[k] = (s.sequencer.smokeAction k == .hold) ∧
      (s.handContributions order).smoke.alarmDry[k] = (s.sequencer.smokeAction k == .dry) ∧
      (s.sequencer.smokeAction k = .dry → s.smoke.alarmDry[k] = false →
        (s.handContributions order).smoke.state = .dry) := by
  refine s.handContributions_reaches (Q := fun u => u.sequencer = s.sequencer ∧ u.smoke.alarmDry = s.smoke.alarmDry)
    (P := fun u => u.smoke.alarmHold[k] = (s.sequencer.smokeAction k == .hold) ∧
      u.smoke.alarmDry[k] = (s.sequencer.smokeAction k == .dry) ∧
      (s.sequencer.smokeAction k = .dry → s.smoke.alarmDry[k] = false → u.smoke.state = .dry))
    order .smoke (fun g hg u hu => ?_) (fun u hu => ?_) (fun g hg u hu => ?_) ⟨rfl, rfl⟩
  · refine ⟨((g.keeps_takes u order).same .sequencer).trans hu.1, ?_⟩
    cases g
    · exact u.follows_recomputeProtection.smoke.alarmDry.trans hu.2
    · exact absurd rfl hg
    · exact (u.powerContributions_heeds _).2.2.alarmDry.trans hu.2
  · obtain ⟨hold, dry, dries⟩ := u.smokeContributions_smoke (vecTab 12 fun k => u.sequencer.smokeAction k == .hold)
      (vecTab 12 fun k => u.sequencer.smokeAction k == .dry)
    rw [Contributee.takes_smoke, State.smokeAlarms, hold, dry, ← hu.1, ← hu.2]
    exact ⟨vecTab_get _ _ _, vecTab_get _ _ _, fun h hf => dries k ((vecTab_get _ _ _).trans (by rw [h]; rfl)) hf⟩
  · have heeds : u.smoke.Heeds (g.takes order u).smoke := by
      cases g
      · exact .of_follows u.follows_recomputeProtection.smoke
      · exact absurd rfl hg
      · exact (u.powerContributions_heeds _).2.2
    rw [heeds.alarmHold, heeds.alarmDry]
    exact ⟨hu.1, hu.2.1, fun h hf => heeds.dry (hu.2.2 h hf)⟩

end

end Sys2Proof.Machine

/-! ## Conversions and passes -/

namespace Sys2Proof.Machine

-- One proof at a time: proofs that wait for one another would each hold a thread.
set_option Elab.async false

/-! ### The sequencer's own record -/

/-- What the beginning of a conversion leaves of the sequencer's record. -/
theorem Sequencer.begin_same (q : Sequencer) :
    q.begin.slots = q.slots ∧ q.begin.profile = q.profile ∧ q.begin.offset = q.offset ∧
      q.begin.scanTimer = q.scanTimer ∧ q.begin.passCounter = q.passCounter ∧ q.begin.waiting = q.waiting := by
  unfold Sequencer.begin
  split
  · exact ⟨rfl, rfl, rfl, rfl, rfl, rfl⟩
  · split
    · exact ⟨rfl, rfl, rfl, rfl, rfl, rfl⟩
    · split <;> exact ⟨rfl, rfl, rfl, rfl, rfl, rfl⟩

/-- With no request waiting the pass goes on, or nothing begins. -/
theorem Sequencer.begin_pass (q : Sequencer) (hf : q.inFlight = none) (hr : q.requests = []) :
    (∀ k ks, q.pass = some (k :: ks) → q.begin = { q with pass := some ks, inFlight := some ⟨k, none⟩ }) ∧
      (q.pass = none ∨ q.pass = some [] → q.begin = q) := by
  refine ⟨fun k ks hp => ?_, fun hp => ?_⟩
  · simp only [Sequencer.begin, hf, hr, hp, nextRequested, Option.isSome_none, Bool.false_eq_true, if_false]
  · have same : { q with requests := [] } = q := by rw [← hr]
    have begins : q.begin = { q with requests := [] } := by
      unfold Sequencer.begin
      rw [if_neg (by simp [hf]), hr]
      rcases hp with hp | hp <;> simp only [nextRequested, hp]
    exact begins.trans same

section
variable (s : State)

/-! ### Alarms (R57, R58) -/

/-- An alarm that neither asserts, clears nor switches raises nothing. -/
theorem State.alarmEvent_quiet {x y : Slot} (h : contributionMoved x y = false) (k : SlotIx) (v : Nat) :
    s.alarmEvent k x y v = s := by
  obtain ⟨-, -, quiet, stands⟩ := alarmChangesRaiseEvents s k x y v
  simp only [contributionMoved, Bool.and_eq_false_iff, Bool.or_eq_false_iff, beq_eq_false_iff_ne, bne_eq_false_iff_eq] at h
  rcases h with ⟨hx, hy⟩ | ⟨ha, hs⟩
  · exact quiet hx hy
  · by_cases hx : x.alarm = .asserted
    · exact stands hx (ha ▸ hx) hs
    · exact quiet hx (ha ▸ hx)

/-- An alarm that asserts, clears or switches raises an event and ALARM. -/
theorem State.alarmEvent_moved {x y : Slot} (h : contributionMoved x y = true) (k : SlotIx) (v : Nat) :
    ∃ kind detail, s.alarmEvent k x y v = (s.event kind (BitVec.ofNat 8 k.val) detail).raise .alarm := by
  obtain ⟨asserts, clears, -, -⟩ := alarmChangesRaiseEvents s k x y v
  simp only [contributionMoved, Bool.and_eq_true, Bool.or_eq_true, beq_iff_eq, bne_iff_ne, ne_eq] at h
  obtain ⟨some, moved⟩ := h
  by_cases hy : y.alarm = .asserted
  · refine ⟨_, _, asserts hy ?_⟩
    rcases moved with ha | hs
    · exact .inl fun hx => ha (hx.trans hy.symm)
    · exact .inr hs
  · exact ⟨_, _, clears (some.resolve_right hy) hy⟩

/-- A conversion's value, R50's and R51's (4095 bounds the clamp). -/
theorem conversionValue_eq (p : MeasureProfile) (offset : Int) (k : SlotIx) (raw : Nat) :
    conversionValue p offset k raw =
      if p.slots[k].substitute then p.slots[k].substituteValue
      else if k = 0 ∨ p.correction = false then raw
      else (max 0 (min 4095 ((raw : Int) - offset))).toNat := by
  have formed : (if k = slotZero then raw else if p.correction then (clampInt ((raw : Int) - offset) 0 4095).toNat else raw) =
      if k = 0 ∨ p.correction = false then raw else (max 0 (min 4095 ((raw : Int) - offset))).toNat := by
    have zero : slotZero = (0 : SlotIx) := rfl
    rw [zero]
    by_cases hk : k = 0
    · rw [if_pos hk, if_pos (Or.inl hk)]
    · cases hc : p.correction
      · rw [if_neg hk, if_pos (Or.inr rfl)]
        rfl
      · rw [if_neg hk, if_pos rfl, if_neg (by simp [hk]), clampInt_eq _ _ _ (by omega)]
  rw [conversionValue, formed]

/-! ### The delivery of a value (R49) -/

theorem State.heeds_deliver (c : Conversion) (value : Nat) : s.Heeds (s.deliver c value) :=
  .of_frame (s.keeps_deliver c value).frame

/-- A HEAT value leaves the holds, the dry alarms and DRY. -/
theorem State.smokeHeeds_heatValue (value : Nat) : s.smoke.Heeds (s.heatValue value).smoke := by
  unfold State.heatValue
  dsimp only
  split
  · rename_i heating
    obtain ⟨x, hx, hx'⟩ := Smoke.temperatureMove_eq { s.smoke with temperature := value * 400 / 4096 }
    rw [State.smokeMoved_smoke]
    simp only [State.withSmoke_smoke, hx]
    have dry : s.smoke.state = .dry → x = .dry := fun h => by rw [h] at heating; cases heating
    split <;> exact ⟨rfl, rfl, dry⟩
  · exact ⟨rfl, rfl, id⟩

theorem State.smokeHeeds_deliver (c : Conversion) (value : Nat) : s.smoke.Heeds (s.deliver c value).smoke := by
  unfold State.deliver
  split
  · exact s.smokeHeeds_heatValue value
  · split
    · rw [(s.keeps_storeValue value).same .smoke]
      exact .refl _
    · split
      · rw [(s.keeps_deliverEmf _ _ _).same .smoke]
        exact .refl _
      · exact .refl _

/-- What a reading changes of the drive. -/
abbrev DriveField.ofReading : List DriveField :=
  [.window, .windowMuted, .settleTimer, .limitTimer, .channels, .completed, .periodTimer]

theorem State.driveSame_deliverEmf (c : Channel) (w value : Nat) :
    s.DriveSame (s.deliverEmf c w value) DriveField.ofReading := by
  have completes (u : State) : u.DriveSame u.completeWindow DriveField.ofReading := by
    have closed : u.DriveSame (((u.withDrive { u.drive with channels := u.drive.channels.map u.completeChannel }).withDrive
        { ({ u.drive with channels := u.drive.channels.map u.completeChannel } : Drive).closeWindow with
          completed := u.drive.completed + 1#16 })) DriveField.ofReading := by
      intro f hf
      cases f <;> first | rfl | exact absurd hf (by decide)
    exact closed.trans ((State.driveSame_refreshDuty _).mono.trans (State.driveSame_settleWindow _).mono)
  refine .ite (fun _ => ?_) fun _ => .refl _ _
  have taken : s.DriveSame (s.withDrive { s.drive with
      channels := s.drive.channels.set c { s.drive.channels.get c with reading := some value } }) DriveField.ofReading :=
    (s.drive.sameBut_channels _).mono
  exact Drive.SameBut.trans taken (State.DriveSame.ite (fun _ => completes _) fun _ => .refl _ _)

theorem State.driveSame_deliver (c : Conversion) (value : Nat) : s.DriveSame (s.deliver c value) DriveField.ofReading := by
  unfold State.deliver
  refine .ite (fun _ => State.DriveSame.of_keeps (s.keeps_heatValue _) (m := _)) fun _ =>
    .ite (fun _ => State.DriveSame.of_keeps (s.keeps_storeValue _) (m := _)) fun _ => ?_
  split
  · exact s.driveSame_deliverEmf _ _ _
  · exact .refl _ _

/-- A value leaves the supervisor's inputs. -/
theorem State.deliver_power (c : Conversion) (value : Nat) : (s.deliver c value).power.trackLost = s.power.trackLost ∧
    (s.deliver c value).power.storeLow = s.power.storeLow := by
  unfold State.deliver
  split
  · rw [(s.keeps_heatValue value).same .power]
    exact ⟨rfl, rfl⟩
  · split
    · unfold State.storeValue
      split <;> exact ⟨rfl, rfl⟩
    · split
      · rw [(s.keeps_deliverEmf _ _ _).same .power]
        exact ⟨rfl, rfl⟩
      · exact ⟨rfl, rfl⟩

/-! ### The acknowledgement (R62) -/

/-- A wait for the sound engine or the adoption unit goes on. -/
theorem State.QuiesceOpenElsewhere.goesOn {s t : State} (h : s.QuiesceOpenElsewhere) (part : t.part = s.part)
    (voices : s.part ≠ .run → t.sound.voices = s.sound.voices) (ha : t.acks = s.acks) (hd : t.adoption = s.adoption) :
    t.QuiesceOpenElsewhere := by
  intro hp
  have hs : s.part = .quiescing := part.symm.trans hp
  have busy : t.sound.anyBusy = s.sound.anyBusy := by
    unfold Sound.anyBusy
    rw [voices (by simp [hs])]
  rw [ha, hd, busy]
  exact h hs

/-- The sequencer's acknowledgement, where another block is still to acknowledge. -/
theorem State.ackSequencer_eq (h : s.QuiesceOpenElsewhere) : ∃ a, s.ackSequencer = s.withAcks a ∧
    (s.part = .quiescing → a.sequencer = true) := by
  unfold State.ackSequencer
  split
  · rename_i hp
    rcases (s.withAcks { s.acks with sequencer := true }).settleQuiesce_cases with ⟨hn, -⟩ | ⟨-, -, e⟩ | ⟨-, all, -⟩
    · exact absurd hp hn
    · exact ⟨_, e, fun _ => rfl⟩
    · obtain ⟨-, sound, -, -, -, -, adoption⟩ := (Acks.all_iff _).mp all
      simp only [State.acksNow, State.withAcks_acks, State.withAcks_sound, State.withAcks_adoption] at sound adoption
      rcases h hp with ⟨ha, hb⟩ | ⟨ha, hv⟩
      · simp [ha, hb] at sound
      · simp [ha, hv] at adoption
  · rename_i hp
    exact ⟨s.acks, rfl, fun h => absurd h hp⟩

end

end Sys2Proof.Machine

/-! ## The end of a pass, and a conversion completed -/

namespace Sys2Proof.Machine

-- One proof at a time: proofs that wait for one another would each hold a thread.
set_option Elab.async false

section
variable (s : State)

/-! ### The end of a pass (R48, R60, R61) -/

/-- The sequencer's record at the end of a pass, with a profile that takes effect. -/
def Sequencer.passEnded (q : Sequencer) : Sequencer := { q with pass := none, passCounter := q.passCounter + 1#8 }

/-- The record with a pending profile in effect (R60, R61). -/
def Sequencer.reprofiled (q : Sequencer) (p : MeasureProfile) : Sequencer :=
  { q with profile := p, waiting := none, slots := vecTab 12 fun k => q.slots[k].underProfile p.slots[k] }

theorem State.endPass_plain (order : Nat) (h : s.sequencer.waiting = none) :
    s.endPass order = (s.withSequencer s.sequencer.passEnded).writeSequencerReadings := by
  have same : s.takeWaitingProfile order = s := by
    unfold State.takeWaitingProfile
    rw [h]
  unfold State.endPass
  rw [same]
  rfl

theorem State.endPass_waiting (order : Nat) {p : MeasureProfile} (h : s.sequencer.waiting = some p) :
    s.endPass order = ((((s.withSequencer (s.sequencer.reprofiled p)).handContributions order).withSequencer
      (s.sequencer.reprofiled p).passEnded).writeSequencerReadings) := by
  have taken : s.takeWaitingProfile order = (s.withSequencer (s.sequencer.reprofiled p)).handContributions order := by
    unfold State.takeWaitingProfile
    split
    · rename_i hn
      rw [h] at hn
      cases hn
    · rename_i p' hp
      obtain rfl := Option.some.inj (h.symm.trans hp)
      rfl
  have sequencer : ((s.withSequencer (s.sequencer.reprofiled p)).handContributions order).sequencer =
      s.sequencer.reprofiled p := (State.keeps_handContributions _ _).same .sequencer
  unfold State.endPass
  rw [taken]
  dsimp only
  rw [sequencer]
  rfl

/-- The sequencer's record behind the end of a pass. -/
theorem State.endPass_sequencer (order : Nat) : (s.endPass order).sequencer =
    (match s.sequencer.waiting with
      | none => s.sequencer
      | some p => s.sequencer.reprofiled p).passEnded := by
  cases h : s.sequencer.waiting with
  | none =>
    rw [s.endPass_plain order h]
    rfl
  | some p =>
    rw [s.endPass_waiting order h]
    rfl

theorem State.heeds_endPass (order : Nat) : s.Heeds (s.endPass order) := by
  have written (u : State) (q : Sequencer) : u.Heeds ((u.withSequencer q).writeSequencerReadings) :=
    State.Heeds.trans (t := u.withSequencer q) (.of_frame (u.sameExcept_withSequencer q))
      (.of_frame (State.keeps_writeSequencerReadings _).frame)
  cases h : s.sequencer.waiting with
  | none =>
    rw [s.endPass_plain order h]
    exact written s _
  | some p =>
    rw [s.endPass_waiting order h]
    exact State.Heeds.trans (t := s.withSequencer (s.sequencer.reprofiled p)) (.of_frame (s.sameExcept_withSequencer _))
      ((State.heeds_handContributions _ _).trans (written _ _))

/-- A slot under a new profile (R61). -/
theorem Slot.underProfile_same (x : Slot) (p : SlotProfile) :
    (x.underProfile p).raw = x.raw ∧ (x.underProfile p).value = x.value ∧
      (x.underProfile p).substituted = x.substituted := by
  unfold Slot.underProfile
  split <;> exact ⟨rfl, rfl, rfl⟩

end

/-- Settles O18: the pending profile takes effect slot by slot, and its contributions are handed on. -/
theorem passEndTakesThePendingProfile : Obligations.PassEndTakesThePendingProfile := by
  intro s order p _ h
  have sequencer := s.endPass_sequencer order
  rw [h] at sequencer
  have slot (k : SlotIx) : (s.endPass order).sequencer.slots[k] = s.sequencer.slots[k].underProfile p.slots[k] := by
    rw [sequencer]
    exact vecTab_get _ _ k
  have level : (s.endPass order).drive.level = (s.endPass order).protectionLevel := by
    rw [s.endPass_waiting order h]
    have written := (State.keeps_writeSequencerReadings (((s.withSequencer (s.sequencer.reprofiled p)).handContributions
      order).withSequencer (s.sequencer.reprofiled p).passEnded))
    have radio : ((s.withSequencer (s.sequencer.reprofiled p)).handContributions order).radio = s.radio :=
      (State.keeps_handContributions _ order).same .radio
    rw [written.same .drive, State.withSequencer_drive, (State.handContributions_drive _ order).1,
      State.protectionLevel_congr (written.same .sequencer) (written.same .radio)]
    unfold State.protectionLevel
    rw [State.withSequencer_radio, State.withSequencer_radio, radio]
    rfl
  dsimp only
  refine ⟨by rw [sequencer]; rfl, by rw [sequencer]; rfl, by rw [sequencer]; rfl, by rw [sequencer]; rfl,
    by rw [sequencer]; rfl, by rw [sequencer]; rfl, fun k hk => ?_, fun k hk => ?_, level⟩
  · rw [slot, Slot.underProfile, if_pos hk]
  · rw [slot, Slot.underProfile, if_neg (by rw [hk]; exact Bool.false_ne_true)]

end Sys2Proof.Machine

/-! ## A conversion completed -/

namespace Sys2Proof.Machine

-- One proof at a time: proofs that wait for one another would each hold a thread.
set_option Elab.async false

/-! ### What a conversion forms (R50, R51, R55) -/

/-- The value of a conversion of slot `k` (R50, R51). -/
def Sequencer.formed (q : Sequencer) (k : SlotIx) (raw : Nat) : Nat := conversionValue q.profile (q.offsetAfter k raw) k raw

/-- The slot with its code and its value, before its alarm is evaluated. -/
def Sequencer.read (q : Sequencer) (k : SlotIx) (raw : Nat) : Slot :=
  { q.slots[k] with raw := raw, value := q.formed k raw, substituted := q.profile.slots[k].substitute }

/-- The slot with its alarm evaluated. -/
def Sequencer.judged (q : Sequencer) (k : SlotIx) (raw : Nat) : Slot :=
  (q.read k raw).evaluate q.profile.slots[k] (q.formed k raw)

/-- The sequencer's record with a conversion taken. -/
def Sequencer.taken (q : Sequencer) (k : SlotIx) (raw : Nat) : Sequencer :=
  { q with offset := q.offsetAfter k raw, slots := q.slots.set k (q.judged k raw), inFlight := none }

/-- An evaluation keeps the code and the value. -/
theorem Slot.evaluate_same (x : Slot) (p : SlotProfile) (v : Nat) : (x.evaluate p v).raw = x.raw ∧
    (x.evaluate p v).value = x.value ∧ (x.evaluate p v).substituted = x.substituted := by
  unfold Slot.evaluate Slot.takeInside Slot.takeOutside
  split
  · split
    · exact ⟨rfl, rfl, rfl⟩
    · exact ⟨rfl, rfl, rfl⟩
    · split <;> exact ⟨rfl, rfl, rfl⟩
  · dsimp only
    split <;> exact ⟨rfl, rfl, rfl⟩

theorem Sequencer.groupBytes_length (q : Sequencer) : q.groupBytes.length = 105 := by
  have slots : ((q.slots.toList.map Slot.bytes).flatten).length = 96 := by
    rw [flatten_map_length Slot.bytes 8 fun _ => rfl]
    simp
  simp only [Sequencer.groupBytes, List.length_append, slots]
  rfl

section
variable (s : State)

/-- The alarm's event and, where the contributions move, their hand-off. -/
def State.conversionJudged (k : SlotIx) (raw order : Nat) : State :=
  let u := (s.withSequencer (s.sequencer.taken k raw)).alarmEvent k (s.sequencer.read k raw) (s.sequencer.judged k raw)
    (s.sequencer.formed k raw)
  if contributionMoved (s.sequencer.read k raw) (s.sequencer.judged k raw) then u.handContributions order else u

/-- The conversion with its value delivered. -/
def State.conversionDelivered (c : Conversion) (raw order : Nat) : State :=
  (s.conversionJudged c.slot raw order).deliver c (s.sequencer.formed c.slot raw)

/-- The steps of a conversion (R48, R49, R62). -/
theorem exec_adcConversionComplete (raw : BitVec 12) (order : Nat) {c : Conversion} (h : s.sequencer.inFlight = some c) :
    exec (.adcConversionComplete raw order) s =
      .next ((((s.conversionDelivered c raw.toNat (order % handOffOrders)).endPassIfDone
        (order / handOffOrders)).ackSequencer).beginConversion) := by
  show execAdcConversionComplete raw order s = _
  unfold execAdcConversionComplete
  rw [h]
  rfl

theorem State.keeps_conversionJudged (k : SlotIx) (raw order : Nat) :
    s.Keeps (s.conversionJudged k raw order) Component.ofConversion :=
  (s.keeps_withSequencer _).mono.trans ((State.keeps_alarmEvent _ _ _ _ _).mono.trans
    (.ite (fun _ => (State.keeps_handContributions _ _).mono) fun _ => .refl _ _))

theorem State.conversionDelivered_sequencer (c : Conversion) (raw order : Nat) :
    (s.conversionDelivered c raw order).sequencer = s.sequencer.taken c.slot raw := by
  have judged : (s.conversionJudged c.slot raw order).sequencer = s.sequencer.taken c.slot raw := by
    have event (x y : Slot) (v : Nat) : ((s.withSequencer (s.sequencer.taken c.slot raw)).alarmEvent c.slot x y v).sequencer =
        s.sequencer.taken c.slot raw := (State.keeps_alarmEvent _ _ _ _ _).same .sequencer
    unfold State.conversionJudged
    dsimp only
    split
    · rw [(State.keeps_handContributions _ _).same .sequencer, event]
    · exact event _ _ _
  exact ((State.keeps_deliver _ _ _).same .sequencer).trans judged

/-- The part state stands behind a conversion's delivery, and outside RUN the voices. -/
theorem State.conversionDelivered_waits (c : Conversion) (raw order : Nat) :
    (s.conversionDelivered c raw order).part = s.part ∧
      (s.part ≠ .run → (s.conversionDelivered c raw order).sound.voices = s.sound.voices) := by
  have event := State.keeps_alarmEvent (s.withSequencer (s.sequencer.taken c.slot raw)) c.slot (s.sequencer.read c.slot raw)
    (s.sequencer.judged c.slot raw) (s.sequencer.formed c.slot raw)
  have part : ((s.withSequencer (s.sequencer.taken c.slot raw)).alarmEvent c.slot (s.sequencer.read c.slot raw)
    (s.sequencer.judged c.slot raw) (s.sequencer.formed c.slot raw)).part = s.part := event.same .part
  have sound : ((s.withSequencer (s.sequencer.taken c.slot raw)).alarmEvent c.slot (s.sequencer.read c.slot raw)
    (s.sequencer.judged c.slot raw) (s.sequencer.formed c.slot raw)).sound = s.sound := event.same .sound
  have judged : (s.conversionJudged c.slot raw order).part = s.part ∧
      (s.part ≠ .run → (s.conversionJudged c.slot raw order).sound.voices = s.sound.voices) := by
    unfold State.conversionJudged
    dsimp only
    split
    · have heeds := State.heeds_handContributions ((s.withSequencer (s.sequencer.taken c.slot raw)).alarmEvent c.slot
        (s.sequencer.read c.slot raw) (s.sequencer.judged c.slot raw) (s.sequencer.formed c.slot raw)) order
      exact ⟨heeds.part.trans part, fun hp => (heeds.voices (by rwa [part])).trans (by rw [sound])⟩
    · exact ⟨part, fun _ => by rw [sound]⟩
  have delivered := (s.conversionJudged c.slot raw order).heeds_deliver c (s.sequencer.formed c.slot raw)
  exact ⟨delivered.part.trans judged.1, fun hp => (delivered.voices (by rwa [judged.1])).trans (judged.2 hp)⟩

/-- The conversion with its pass ended where it was the last of it. -/
def State.conversionEnded (c : Conversion) (raw order : Nat) : State :=
  (s.conversionDelivered c raw (order % handOffOrders)).endPassIfDone (order / handOffOrders)

theorem State.heeds_endPassIfDone (order : Nat) : s.Heeds (s.endPassIfDone order) :=
  .ite (fun _ => s.heeds_endPass order) fun _ => .refl s

theorem State.keeps_conversionEnded (c : Conversion) (raw order : Nat) :
    s.Keeps (s.conversionEnded c raw order) Component.ofConversion :=
  ((s.keeps_conversionJudged _ _ _).trans (State.keeps_deliver _ _ _).mono).trans (State.keeps_endPassIfDone _ _)

/-- Where another block is still to acknowledge, a conversion ends its pass, acknowledges, and the next begins. -/
theorem State.exec_conversion (raw : BitVec 12) (order : Nat) {c : Conversion} (hf : s.sequencer.inFlight = some c)
    (ho : s.QuiesceOpenElsewhere) : ∃ a t, exec (.adcConversionComplete raw order) s = .next t ∧
      t = (((s.conversionEnded c raw.toNat order).withAcks a).withSequencer
        (s.conversionEnded c raw.toNat order).sequencer.begin) ∧
      (s.part = .quiescing → a.sequencer = true) ∧ t.part = s.part := by
  have keeps := s.keeps_conversionEnded c raw.toNat order
  obtain ⟨part, voices⟩ := s.conversionDelivered_waits c raw.toNat (order % handOffOrders)
  have heeds := (s.conversionDelivered c raw.toNat (order % handOffOrders)).heeds_endPassIfDone (order / handOffOrders)
  have ended : (s.conversionEnded c raw.toNat order).part = s.part := heeds.part.trans part
  have goesOn : (s.conversionEnded c raw.toNat order).QuiesceOpenElsewhere :=
    ho.goesOn ended (fun hp => (heeds.voices (by rwa [part])).trans (voices hp)) (keeps.same .acks) (keeps.same .adoption)
  obtain ⟨a, e, acked⟩ := State.ackSequencer_eq _ goesOn
  rw [ended] at acked
  refine ⟨a, _, exec_adcConversionComplete s raw order hf, ?_, acked, ?_⟩
  · rw [State.conversionEnded] at e
    rw [e]
    rfl
  · rw [State.conversionEnded] at e ended
    rw [e, (State.keeps_beginConversion _).same .part, State.withAcks_part, ended]

/-- The sequencer's record behind a conversion, before the next begins. -/
theorem State.conversionEnded_sequencer (c : Conversion) (raw order : Nat) :
    (s.conversionEnded c raw order).sequencer =
      if s.sequencer.pass = some [] then
        (match s.sequencer.waiting with
          | none => s.sequencer.taken c.slot raw
          | some p => (s.sequencer.taken c.slot raw).reprofiled p).passEnded
      else s.sequencer.taken c.slot raw := by
  have taken := s.conversionDelivered_sequencer c raw (order % handOffOrders)
  unfold State.conversionEnded State.endPassIfDone
  rw [taken]
  by_cases hp : s.sequencer.pass = some []
  · rw [if_pos hp, if_pos ⟨hp, rfl⟩, State.endPass_sequencer, taken]
    rfl
  · rw [if_neg hp, if_neg fun h => hp h.1, taken]

/-- With no profile pending the end of the pass touches no more than the sequencer and its readings. -/
theorem State.conversionEnded_plain (c : Conversion) (raw order : Nat) (hw : s.sequencer.waiting = none) :
    (s.conversionDelivered c raw (order % handOffOrders)).SameExcept (s.conversionEnded c raw order) [.sequencer, .store] ∧
      (s.conversionDelivered c raw (order % handOffOrders)).StoreSameOutside (s.conversionEnded c raw order) 0x0840 106 := by
  have taken := s.conversionDelivered_sequencer c raw (order % handOffOrders)
  unfold State.conversionEnded State.endPassIfDone
  split
  · rw [State.endPass_plain _ _ (by rw [taken]; exact hw)]
    generalize s.conversionDelivered c raw (order % handOffOrders) = d
    obtain ⟨-, -, -, outside⟩ := (d.withSequencer d.sequencer.passEnded).writeSequencerReadings_shows
    rw [Sequencer.groupBytes_length] at outside
    refine ⟨?_, outside⟩
    exact State.sameExcept_trans (State.sameExcept_mono (d.sameExcept_withSequencer _) (by decide))
      (State.sameExcept_mono (State.keeps_writeSequencerReadings _).frame (by decide))
  · exact ⟨State.sameExcept_refl _ _, fun _ _ => rfl⟩

/-- A conversion that moves no alarm delivers its value alone. -/
theorem State.conversionDelivered_quiet (c : Conversion) (raw order : Nat)
    (h : contributionMoved (s.sequencer.read c.slot raw) (s.sequencer.judged c.slot raw) = false) :
    s.conversionDelivered c raw order =
      (s.withSequencer (s.sequencer.taken c.slot raw)).deliver c (s.sequencer.formed c.slot raw) := by
  unfold State.conversionDelivered State.conversionJudged
  dsimp only
  rw [h, if_neg Bool.false_ne_true, State.alarmEvent_quiet _ h]

/-! ### A quiet conversion -/

/-- What the sequencer shows behind a conversion with no profile and no request pending. -/
theorem State.conversion_goesOn (c : Conversion) (raw order : Nat) (hw : s.sequencer.waiting = none)
    (hr : s.sequencer.requests = []) :
    let q := (s.conversionEnded c raw order).sequencer.begin
    q.slots = s.sequencer.slots.set c.slot (s.sequencer.judged c.slot raw) ∧
    (∀ k ks, s.sequencer.pass = some (k :: ks) →
      q.pass = some ks ∧ q.inFlight = some ⟨k, none⟩ ∧ q.passCounter = s.sequencer.passCounter) ∧
    (s.sequencer.pass = some [] →
      q.pass = none ∧ q.inFlight = none ∧ q.passCounter = s.sequencer.passCounter + 1#8) := by
  have ended := s.conversionEnded_sequencer c raw order
  rw [hw] at ended
  refine ⟨?_, fun k ks hp => ?_, fun hp => ?_⟩
  · rw [Sequencer.begin_same _ |>.1, ended]
    split <;> rfl
  · rw [if_neg (by rw [hp]; simp)] at ended
    rw [ended, ((s.sequencer.taken c.slot raw).begin_pass rfl hr).1 k ks hp]
    exact ⟨rfl, rfl, rfl⟩
  · rw [if_pos hp] at ended
    rw [ended, ((s.sequencer.taken c.slot raw).passEnded.begin_pass rfl hr).2 (.inl rfl)]
    exact ⟨rfl, rfl, rfl⟩

end

/-! ### Values delivered (R73, R93) -/

/-- A HEAT value at a unit that is not heating (R93). -/
theorem State.heatValue_cold (s : State) (value : Nat) (h : s.smoke.state.heating = false) :
    (s.heatValue value).smoke = { s.smoke with temperature := value * 400 / 4096 } := by
  unfold State.heatValue
  dsimp only
  rw [if_neg (by rw [h]; exact Bool.false_ne_true)]
  rfl

/-- The state that a temperature moves a unit to (R93). -/
theorem Smoke.temperatureMove_state (u : Smoke) :
    (u.state = .warming → u.temperatureMove.state = if u.profile.setpoint ≤ u.temperature + 10 then .ready else .warming) ∧
    (u.state = .ready → u.temperatureMove.state = if u.temperature + 30 < u.profile.setpoint then .warming else .ready) ∧
    (u.state ≠ .warming → u.state ≠ .ready → u.temperatureMove.state = u.state) := by
  refine ⟨fun h => ?_, fun h => ?_, fun h h' => ?_⟩
  all_goals unfold Smoke.temperatureMove
  · split <;> simp_all
    split <;> simp_all
  · split <;> simp_all
    split <;> simp_all
  · split <;> simp_all

/-- The heater law, as a number (R93). -/
theorem Smoke.heaterLaw_eq (u : Smoke) : (u.heaterLaw : Int) =
    max 0 (min (u.profile.heaterMax : Int) ((u.profile.gain : Int) * ((u.setpoint : Int) - u.temperature))) := by
  unfold Smoke.heaterLaw
  rw [clampInt_eq _ _ _ (by omega)]
  omega

/-- The record of a heating unit at a HEAT value (R93, R94, R101). -/
def State.heated (s : State) (value : Nat) : Smoke :=
  let moved := ({ s.smoke with temperature := value * 400 / 4096 } : Smoke).temperatureMove
  let v := { moved with
    staleTimer := .running (millis s.time + 5000000), stale := false, computed := moved.heaterLaw }
  if s.part = .run then v.setHeater v.computed else v

theorem State.heatValue_eq (s : State) (value : Nat) (h : s.smoke.state.heating = true) :
    s.heatValue value = (s.withSmoke (s.heated value)).smokeMoved s.smoke.state := if_pos h

/-- A HEAT value at a heating unit: its temperature moves it, and the heater follows (R93, R94, R101). -/
theorem State.heatValue_hot (s : State) (value : Nat) (h : s.smoke.state.heating = true) :
    let heat := value * 400 / 4096
    let u := s.smoke
    let t := (s.heatValue value).smoke
    t.temperature = heat ∧ t.budget = u.budget ∧
      (u.state = .warming → t.state = if u.profile.setpoint ≤ heat + 10 then .ready else .warming) ∧
      (u.state = .ready → t.state = if heat + 30 < u.profile.setpoint then .warming else .ready) ∧
      (u.state = .idling → t.state = .idling) ∧
      t.staleTimer = .running (millis s.time + 5000000) ∧ t.stale = false ∧
      (t.computed : Int) = max 0 (min (u.profile.heaterMax : Int) ((u.profile.gain : Int) *
        (((if u.state = .idling then u.profile.setpoint - u.profile.idleDrop else u.profile.setpoint : Nat) : Int) - heat))) ∧
      (s.part = .run → t.heater = t.computed) ∧ (s.part ≠ .run → t.heater = u.heater) := by
  intro heat u t
  obtain ⟨x, moved, -⟩ := Smoke.temperatureMove_eq { u with temperature := heat }
  obtain ⟨warming, ready, other⟩ := Smoke.temperatureMove_state { u with temperature := heat }
  simp only [moved] at warming ready other
  have idling : (x = .idling) = (u.state = .idling) := by
    cases hs : u.state
    case warming => rw [warming hs]; split <;> simp
    case ready => rw [ready hs]; split <;> simp
    all_goals rw [other (by rw [hs]; exact nofun) (by rw [hs]; exact nofun), hs]
  have setpoint : ({ u with temperature := heat, state := x } : Smoke).setpoint =
      if u.state = .idling then u.profile.setpoint - u.profile.idleDrop else u.profile.setpoint := by
    simp only [Smoke.setpoint, idling]
  have law := ({ u with temperature := heat, state := x } : Smoke).heaterLaw_eq
  rw [setpoint] at law
  obtain ⟨fan, fanPwm, smoke⟩ : ∃ fan fanPwm, t = { s.heated value with fan := fan, fanPwm := fanPwm } :=
    ⟨_, _, (congrArg State.smoke (s.heatValue_eq value h)).trans (State.smokeMoved_smoke _ _)⟩
  have judged : s.heated value = (let v : Smoke := { u with
      temperature := heat, state := x, staleTimer := .running (millis s.time + 5000000), stale := false
      computed := ({ u with temperature := heat, state := x } : Smoke).heaterLaw }
    if s.part = .run then v.setHeater v.computed else v) := by
    unfold State.heated
    rw [moved]
  rw [smoke, judged]
  dsimp only
  split
  · exact ⟨rfl, rfl, warming, ready, fun h => (other (by rw [h]; exact nofun) (by rw [h]; exact nofun)).trans h, rfl, rfl, law,
      fun _ => rfl, fun h => absurd ‹_› h⟩
  · exact ⟨rfl, rfl, warming, ready, fun h => (other (by rw [h]; exact nofun) (by rw [h]; exact nofun)).trans h, rfl, rfl, law,
      fun h => absurd h ‹_›, fun _ => rfl⟩

end Sys2Proof.Machine

/-! ## Quiet conversions -/

namespace Sys2Proof.Machine

-- One proof at a time: proofs that wait for one another would each hold a thread.
set_option Elab.async false

section
variable (s : State)

theorem State.deliver_heat {c : Conversion} (h : c.slot = slotHeat) (value : Nat) : s.deliver c value = s.heatValue value :=
  if_pos h

theorem State.deliver_store {c : Conversion} (h : c.slot = slotStore) (value : Nat) :
    s.deliver c value = s.storeValue value := by
  refine (if_neg ?_).trans (if_pos h)
  rw [h]
  decide

theorem State.deliver_none {c : Conversion} (h : c.slot ≠ slotHeat) (h' : c.slot ≠ slotStore) (hr : c.request = none)
    (value : Nat) : s.deliver c value = s := by
  refine (if_neg h).trans ((if_neg h').trans ?_)
  rw [hr]

/-- A reading of an EMF slot that answers a request (R53). -/
theorem State.deliver_emf (e : Channel) {c : Conversion} (h : c.slot = match e with
      | .a => 5
      | .b => 6) {w : Nat} (hr : c.request = some w) (value : Nat) : s.deliver c value = s.deliverEmf e w value := by
  cases e
  all_goals
    refine (if_neg (by rw [h]; decide)).trans ((if_neg (by rw [h]; decide)).trans ?_)
    rw [hr, h]
    rfl

/-- The charge switch behind a STORE value (R73). -/
theorem State.storeValue_charge (value : Nat) : (s.storeValue value).power.charge =
    if s.power.state ≠ .supplied then s.power.charge
    else if (value : Int) < (s.power.profile.storeFull : Int) - 32 then true
    else if value < s.power.profile.storeFull then s.power.charge else false := by
  unfold State.storeValue
  by_cases h : s.power.state = .supplied
  · rw [if_pos h, if_neg (by simp [h])]
    rfl
  · rw [if_neg h, if_pos h]

/-- What a conversion, the acknowledgement and the next conversion leave outside the sequencer. -/
theorem State.sameExcept_conversion {s e : State} {l m : List Component} (h : s.SameExcept e l) (a : Acks) (q : Sequencer)
    (sub : ∀ c ∈ l, c ∈ m := by decide) (hm : .acks ∈ m ∧ .sequencer ∈ m := by decide) :
    s.SameExcept ((e.withAcks a).withSequencer q) m :=
  State.sameExcept_trans (State.sameExcept_mono h sub)
    (State.sameExcept_trans (State.sameExcept_mono (e.sameExcept_withAcks a) (by simp [hm.1]))
      (State.sameExcept_mono (State.sameExcept_withSequencer _ q) (by simp [hm.2])))

end

/-- Settles O13: the value is delivered alone, the pass goes on or ends, and the next conversion begins. -/
theorem quietConversionDelivers : Obligations.QuietConversionDelivers := by
  intro s raw order c _ hf hw hr hc ho q p value x quiet
  obtain ⟨a, t, e, ht, -, part⟩ := s.exec_conversion raw order hf ho
  obtain ⟨slots, goes, ends⟩ := s.conversion_goesOn c raw.toNat order hw hr
  obtain ⟨plain, -⟩ := s.conversionEnded_plain c raw.toNat order hw
  rw [s.conversionDelivered_quiet c raw.toNat _ quiet] at plain
  have frame {l m : List Component} (h : (s.withSequencer (q.taken c.slot raw.toNat)).Keeps
      ((s.withSequencer (q.taken c.slot raw.toNat)).deliver c value) l)
      (sub : ∀ k ∈ Component.sequencer :: .store :: l, k ∈ m := by decide) (hm : .acks ∈ m ∧ .sequencer ∈ m := by decide) :
      s.SameExcept t m := by
    rw [ht]
    refine State.sameExcept_conversion (l := .sequencer :: .store :: l) (State.sameExcept_trans ?_ (State.sameExcept_trans
      (State.sameExcept_mono h.frame fun k hk => List.mem_cons_of_mem _ (List.mem_cons_of_mem _ hk))
      (State.sameExcept_mono plain (by simp)))) a _ sub hm
    exact State.sameExcept_mono (s.sameExcept_withSequencer _) (by simp)
  have smoke : t.smoke = ((s.withSequencer (q.taken c.slot raw.toNat)).deliver c value).smoke := by
    rw [ht]
    exact plain .smoke (by decide)
  have power : t.power = ((s.withSequencer (q.taken c.slot raw.toNat)).deliver c value).power := by
    rw [ht]
    exact plain .power (by decide)
  have sequencer : t.sequencer = (s.conversionEnded c raw.toNat order).sequencer.begin := by rw [ht]; rfl
  refine ⟨t, e, by rw [sequencer]; exact slots, by rw [sequencer]; exact goes, by rw [sequencer]; exact ends,
    fun hk => ?_, fun hk => ?_, fun hk hk' => ?_⟩
  · have heat := State.deliver_heat (s.withSequencer (q.taken c.slot raw.toNat)) hk value
    have keeps := State.keeps_heatValue (s.withSequencer (q.taken c.slot raw.toNat)) value
    rw [← heat] at keeps
    have framed : s.SameExcept t [.sequencer, .smoke, .store, .acks] := frame keeps
    rw [heat] at smoke
    intro u h setpoint
    by_cases hs : s.smoke.state.heating = true
    · obtain ⟨temperature, budget, warming, ready, idling, stale, fresh, law, run, rest⟩ :=
        State.heatValue_hot (s.withSequencer (q.taken c.slot raw.toNat)) value hs
      rw [← smoke] at temperature budget warming ready idling stale fresh law run rest
      exact ⟨temperature, budget, warming, ready, idling, fun _ => ⟨stale, fresh, law, run, rest⟩,
        fun hn => absurd (hs.symm.trans hn) nofun, framed⟩
    · have hn : s.smoke.state.heating = false := by simpa using hs
      have cold := State.heatValue_cold (s.withSequencer (q.taken c.slot raw.toNat)) value hn
      rw [← smoke] at cold
      rw [cold]
      have not (z : SmokeState) (hz : z.heating = true) : u.state ≠ z := fun h => by
        rw [← h] at hz
        exact hs hz
      refine ⟨rfl, rfl, fun h => absurd h (not _ rfl), fun h => absurd h (not _ rfl), fun h => absurd h (not _ rfl),
        fun h => ?_, fun _ => rfl, framed⟩
      rcases h with h | h | h <;> exact absurd h (not _ rfl)
  · have store := State.deliver_store (s.withSequencer (q.taken c.slot raw.toNat)) hk value
    have keeps := State.keeps_storeValue (s.withSequencer (q.taken c.slot raw.toNat)) value
    rw [← store] at keeps
    refine ⟨?_, frame keeps⟩
    rw [power, store, State.storeValue_charge]
    rfl
  · have none := State.deliver_none (s.withSequencer (q.taken c.slot raw.toNat)) hk hk' hc value
    exact frame (l := []) (by rw [none]; exact .refl _ _)

end Sys2Proof.Machine

/-! ## EMF readings -/

namespace Sys2Proof.Machine

-- One proof at a time: proofs that wait for one another would each hold a thread.
set_option Elab.async false

section
variable (s : State)

/-! ### The drive does not look at the sequencer for a reading -/

theorem State.settleWindow_withSequencer (q : Sequencer) :
    (s.withSequencer q).settleWindow = s.settleWindow.withSequencer q := by
  have may : (s.withSequencer q).windowMayOpen = s.windowMayOpen := rfl
  unfold State.settleWindow
  rw [may, State.withSequencer_drive]
  split
  · split <;> rfl
  · rfl

theorem State.refreshDuty_withSequencer (q : Sequencer) : (s.withSequencer q).refreshDuty = s.refreshDuty.withSequencer q := rfl

theorem State.windowCompleted_withSequencer (q : Sequencer) :
    (s.withSequencer q).windowCompleted = s.windowCompleted.withSequencer q := rfl

theorem State.deliverEmf_withSequencer (q : Sequencer) (c : Channel) (w value : Nat) :
    ((s.withSequencer q).deliverEmf c w value) = (s.deliverEmf c w value).withSequencer q := by
  have completes (u : State) : (u.withSequencer q).completeWindow = u.completeWindow.withSequencer q := by
    show (u.withSequencer q).windowCompleted.refreshDuty.settleWindow = _
    rw [u.windowCompleted_withSequencer, State.refreshDuty_withSequencer, State.settleWindow_withSequencer]
    rfl
  have e : (s.withSequencer q).deliverEmf c w value =
      if s.drive.window = .sampling ∧ s.drive.windowId = w ∧ (s.drive.channels.get c).requested then
        (if (s.readingTaken c value).drive.channels.a.answered && (s.readingTaken c value).drive.channels.b.answered then
          ((s.readingTaken c value).withSequencer q).completeWindow else (s.readingTaken c value).withSequencer q)
      else s.withSequencer q := rfl
  have e' : s.deliverEmf c w value =
      if s.drive.window = .sampling ∧ s.drive.windowId = w ∧ (s.drive.channels.get c).requested then
        (if (s.readingTaken c value).drive.channels.a.answered && (s.readingTaken c value).drive.channels.b.answered then
          (s.readingTaken c value).completeWindow else s.readingTaken c value)
      else s := rfl
  rw [e, e', completes]
  split
  · split <;> rfl
  · rfl

/-- A completed channel (R15, R17, R39). -/
theorem State.completeChannel_completed (d : Channel) (x : ChannelState) (code : Nat) (hc : x.requested = true → x.reading = some code) :
    let p := s.drive.profile
    let z := s.completeChannel d x
    let emf := code * p.emfScale / 256
    let e : Int := (x.command : Int) - emf
    let updates := x.requested = true ∧ (p.trim.get d).enabled = true
    (updates → z.lastEmf = emf) ∧ (¬ updates → z.lastEmf = x.lastEmf) ∧
      (updates → p.emfPeriod = 0 ∨ s.drive.windowMuted = true → z.integral = x.integral ∧ z.correction = x.correction) ∧
      (updates → x.command ≠ 0 → 0 < p.emfPeriod → s.drive.windowMuted = false →
        z.integral = max (-(p.integralLimit : Int)) (min p.integralLimit (x.integral + e)) ∧
          z.correction = Int.tdiv (p.kp * e) 16 + Int.tdiv (p.ki * z.integral) 256) := by
  intro p z emf e updates
  have takes (h : updates) := s.completeChannel_takes d x code h.1 (hc h.1) h.2
  refine ⟨fun h => ?_, fun h => ?_, fun h hm => ?_, fun h hx hp hm => ?_⟩
  · simp only [z, takes h]
    rfl
  · simp only [z, s.completeChannel_stands d x h]
  · simp only [z, takes h]
    rw [if_pos (.inr hm)]
    exact ⟨rfl, rfl⟩
  · have compensates : ¬ (x.command = 0 ∨ s.drive.profile.emfPeriod = 0 ∨ s.drive.windowMuted = true) := by
      rintro (h | h | h)
      · exact hx h
      · exact absurd h (Nat.pos_iff_ne_zero.mp hp)
      · rw [hm] at h
        cases h
    have clamped := clampInt_eq (x.integral + e) (-(p.integralLimit : Int)) p.integralLimit (by omega)
    simp only [z, takes h]
    rw [if_neg compensates]
    refine ⟨clamped, rfl⟩

end

/-- Settles O14: a reading is discarded, or completes the window; and a quiet conversion that answers a request delivers one. -/
theorem emfReadingIsDeliveredAndCompletesTheWindow : Obligations.EmfReadingIsDeliveredAndCompletesTheWindow := by
  intro s c w value
  refine ⟨s.deliverEmf_discarded c w value, fun hs hw hr others => ?_, fun raw order _ => ?_⟩
  · have frame := (s.keeps_deliverEmf c w value).frame
    have completes := s.deliverEmf_completes c w value hs hw hr others
    obtain ⟨window, completed, closedEarly, timedOut, limit, ramp, formed, channels⟩ := (s.readingTaken c value).completeWindow_eq
    intro p reading t
    have e : t = (s.readingTaken c value).completeWindow := completes
    rw [← e] at window completed closedEarly timedOut limit ramp formed channels
    refine ⟨window, completed, closedEarly, timedOut, limit, fun d => ?_, formed, ramp, frame⟩
    intro x y updates emf dist
    obtain ⟨last, stands⟩ := channels d
    rw [s.readingTaken_get] at last stands
    have code : (s.drive.channels.get d).requested = true →
        (if d = c then some value else (s.drive.channels.get d).reading) = some (reading d) := fun hd => by
      by_cases h : d = c
      · simp [reading, h]
      · obtain ⟨v, hv⟩ := Option.isSome_iff_exists.mp ((others d h).resolve_left (by simp [hd]))
        simp [reading, h, hv]
    obtain ⟨takes, kept, muted, compensates⟩ := (s.readingTaken c value).completeChannel_completed d
      { s.drive.channels.get d with reading := if d = c then some value else (s.drive.channels.get d).reading } (reading d) code
    refine ⟨fun h => last.trans (takes h), fun h => last.trans (kept h), fun h hy hm => ?_, fun h hy hx hp hm => ?_⟩
    · obtain ⟨integral, correction⟩ := stands hy
      obtain ⟨i, k⟩ := muted h hm
      exact ⟨integral.trans i, correction.trans k⟩
    · obtain ⟨integral, correction⟩ := stands hy
      obtain ⟨i, k⟩ := compensates h (by rw [hx]; exact hy) hp hm
      rw [← integral] at k i
      exact ⟨i, correction.trans k⟩
  · intro q k p formed x hf hw ho quiet
    have zero : k ≠ slotZero := by simp only [k]; cases c <;> decide
    have value : q.formed k raw.toNat = formed := by
      have offset : q.offsetAfter k raw.toNat = q.offset := if_neg zero
      rw [Sequencer.formed, conversionValue_eq, offset]
      refine congrArg (fun n => if p.substitute then p.substituteValue else n) ?_
      have zero' : ¬ k = 0 := zero
      cases hc : q.profile.correction
      · rw [if_pos (Or.inr rfl)]
        rfl
      · rw [if_neg (by simp [zero']), if_pos rfl]
    have quiet : contributionMoved (q.read k raw.toNat) (q.judged k raw.toNat) = false := by
      unfold Sequencer.judged Sequencer.read
      rw [value]
      exact quiet
    have judged : q.judged k raw.toNat = x.evaluate p formed := by
      unfold Sequencer.judged Sequencer.read
      rw [value]
    obtain ⟨a, t, e, ht, -, -⟩ := s.exec_conversion raw order hf ho
    obtain ⟨plain, outside⟩ := s.conversionEnded_plain ⟨k, some w⟩ raw.toNat order hw
    have delivered : s.conversionDelivered ⟨k, some w⟩ raw.toNat (order % handOffOrders) =
        (s.deliverEmf c w formed).withSequencer (q.taken k raw.toNat) := by
      rw [s.conversionDelivered_quiet ⟨k, some w⟩ raw.toNat _ quiet, State.deliver_emf _ c rfl rfl,
        State.deliverEmf_withSequencer]
      exact congrArg (fun v => (s.deliverEmf c w v).withSequencer (q.taken k raw.toNat)) value
    rw [delivered] at plain outside
    have keeps := s.keeps_deliverEmf c w formed
    have sequencer := s.conversionEnded_sequencer ⟨k, some w⟩ raw.toNat order
    rw [hw] at sequencer
    refine ⟨t, e, ?_, ?_, ?_, ?_⟩
    · rw [ht]
      exact plain .drive (by decide)
    · rw [ht, ← judged]
      show (s.conversionEnded ⟨k, some w⟩ raw.toNat order).sequencer.begin.slots = _
      rw [(Sequencer.begin_same _).1, sequencer]
      split <;> rfl
    · rw [ht]
      intro n hn
      exact (outside n hn).trans (keeps.same .store (by decide) n)
    · rw [ht]
      refine State.sameExcept_conversion (l := [.sequencer, .drive, .store]) ?_ a _
      exact State.sameExcept_trans (State.sameExcept_mono keeps.frame (by decide))
        (State.sameExcept_trans (State.sameExcept_mono (State.sameExcept_withSequencer _ _) (by decide))
          (State.sameExcept_mono plain (by decide)))

end Sys2Proof.Machine

/-! ## Conversions that move an alarm -/

namespace Sys2Proof.Machine

-- One proof at a time: proofs that wait for one another would each hold a thread.
set_option Elab.async false

/-! ### What depends on the slots and the profile alone -/

section
variable {q r : Sequencer} (hs : r.slots = q.slots) (hp : r.profile = q.profile)
include hs hp

theorem Sequencer.driveAction_congr (k : SlotIx) : r.driveAction k = q.driveAction k := by
  unfold Sequencer.driveAction
  rw [hs, hp]

theorem Sequencer.smokeAction_congr (k : SlotIx) : r.smokeAction k = q.smokeAction k := by
  unfold Sequencer.smokeAction
  rw [hs, hp]

end

theorem Sequencer.assertedLow_congr {q r : Sequencer} (hs : r.slots = q.slots) (k : SlotIx) :
    r.assertedLow k = q.assertedLow k := by
  unfold Sequencer.assertedLow
  rw [hs]

theorem State.protectionLevel_of_slots {s t : State} (hs : t.sequencer.slots = s.sequencer.slots)
    (hp : t.sequencer.profile = s.sequencer.profile) (hr : t.radio = s.radio) : t.protectionLevel = s.protectionLevel := by
  unfold State.protectionLevel
  rw [hr]
  simp only [Sequencer.driveAction_congr hs hp]

/-! ### The codes and the values behind a conversion -/

/-- The record of the sequencer as far as a pass end and the next conversion leave it. -/
structure Sequencer.SameCodes (q r : Sequencer) : Prop where
  offset : r.offset = q.offset
  scanTimer : r.scanTimer = q.scanTimer
  codes : ∀ j : SlotIx, r.slots[j].raw = q.slots[j].raw ∧ r.slots[j].value = q.slots[j].value ∧
    r.slots[j].substituted = q.slots[j].substituted

theorem State.conversion_sameCodes (s : State) (c : Conversion) (raw order : Nat) :
    (s.sequencer.taken c.slot raw).SameCodes (s.conversionEnded c raw order).sequencer.begin := by
  obtain ⟨slots, -, offset, scan, -, -⟩ := (s.conversionEnded c raw order).sequencer.begin_same
  have stays : (s.sequencer.taken c.slot raw).SameCodes (s.conversionEnded c raw order).sequencer := by
    rw [s.conversionEnded_sequencer]
    split
    · split
      · exact ⟨rfl, rfl, fun _ => ⟨rfl, rfl, rfl⟩⟩
      · rename_i p _
        refine ⟨rfl, rfl, fun j => ?_⟩
        have slot : ((s.sequencer.taken c.slot raw).reprofiled p).slots[j] =
            (s.sequencer.taken c.slot raw).slots[j].underProfile p.slots[j] := vecTab_get _ _ j
        show ((s.sequencer.taken c.slot raw).reprofiled p).slots[j].raw = _ ∧
          ((s.sequencer.taken c.slot raw).reprofiled p).slots[j].value = _ ∧
          ((s.sequencer.taken c.slot raw).reprofiled p).slots[j].substituted = _
        rw [slot]
        exact Slot.underProfile_same _ _
    · exact ⟨rfl, rfl, fun _ => ⟨rfl, rfl, rfl⟩⟩
  exact ⟨offset.trans stays.offset, scan.trans stays.scanTimer, fun j => by rw [slots]; exact stays.codes j⟩

/-- The codes of a conversion taken (R49, R50). -/
theorem Sequencer.taken_codes (q : Sequencer) (k : SlotIx) (raw : Nat) :
    ((q.taken k raw).slots[k].raw = raw ∧ (q.taken k raw).slots[k].value = q.formed k raw ∧
      (q.taken k raw).slots[k].substituted = q.profile.slots[k].substitute) ∧
    ∀ j : SlotIx, j ≠ k → (q.taken k raw).slots[j] = q.slots[j] := by
  refine ⟨?_, fun j hj => Vector.getElem_set_ne k.isLt j.isLt fun h => hj (Fin.ext h.symm)⟩
  have slot : (q.taken k raw).slots[k] = q.judged k raw := Vector.getElem_set_self _
  rw [slot]
  exact Slot.evaluate_same _ _ _

section
variable (s : State)

/-- Behind a conversion with no profile pending the slots and the profile are those it took. -/
theorem State.conversion_slots (c : Conversion) (raw order : Nat) (hw : s.sequencer.waiting = none) :
    (s.conversionEnded c raw order).sequencer.begin.slots = (s.sequencer.taken c.slot raw).slots ∧
      (s.conversionEnded c raw order).sequencer.begin.profile = s.sequencer.profile := by
  obtain ⟨slots, profile, -⟩ := (s.conversionEnded c raw order).sequencer.begin_same
  have ended := s.conversionEnded_sequencer c raw order
  rw [hw] at ended
  rw [slots, profile, ended]
  split <;> exact ⟨rfl, rfl⟩

/-- A moved alarm raises ALARM. -/
theorem State.alarmEvent_pending {x y : Slot} (h : contributionMoved x y = true) (k : SlotIx) (v : Nat)
    (ha : s.part.active = true) : (s.alarmEvent k x y v).attention.pending[(8 : Fin 12)] = true := by
  obtain ⟨kind, detail, e⟩ := s.alarmEvent_moved h k v
  rw [e, State.raise_active _ _ (by rw [(s.keeps_event _ _ _).same .part]; exact ha)]
  exact Vector.getElem_set_self _

end

/-- Settles O12: the conversion's record; and, of one that moves its alarm, the event, the hand-offs and the delivery. -/
theorem conversionFormsTheValueAndMovesTheAlarm : Obligations.ConversionFormsTheValueAndMovesTheAlarm := by
  intro s raw order c _ hf ho p offset value
  have offsetIs : s.sequencer.offsetAfter c.slot raw.toNat = offset := rfl
  have valueIs : s.sequencer.formed c.slot raw.toNat = value := conversionValue_eq _ _ _ _
  clear_value value offset
  subst valueIs offsetIs
  obtain ⟨a, t, e, ht, acked, part⟩ := s.exec_conversion raw order hf ho
  have codes := s.conversion_sameCodes c raw.toNat order
  obtain ⟨⟨raw', value', substituted⟩, others⟩ := s.sequencer.taken_codes c.slot raw.toNat
  have sequencer : t.sequencer = (s.conversionEnded c raw.toNat order).sequencer.begin := by rw [ht]; rfl
  rw [← sequencer] at codes
  obtain ⟨r, v, b⟩ := codes.codes c.slot
  refine ⟨t, e, codes.offset, r.trans raw', v.trans value', b.trans substituted, fun j hj => ?_, fun hq => ?_, part,
    codes.scanTimer, fun hw => ?_, ?_⟩
  · obtain ⟨r, v, b⟩ := codes.codes j
    rw [others j hj] at r v b
    exact ⟨r, v, b⟩
  · rw [ht]
    exact acked hq
  · intro x y moved u h delivered
    have judged : delivered = h.deliver c (s.sequencer.formed c.slot raw.toNat) := by
      simp only [delivered]
      unfold State.deliver
      cases c.request <;> rfl
    have whole : delivered = s.conversionDelivered c raw.toNat (order % handOffOrders) :=
      judged.trans (congrArg (fun z => State.deliver z c (s.sequencer.formed c.slot raw.toNat)) (if_pos moved).symm)
    obtain ⟨plain, outside⟩ := s.conversionEnded_plain c raw.toNat order hw
    obtain ⟨slots, profile⟩ := s.conversion_slots c raw.toNat order hw
    rw [← sequencer] at slots profile
    rw [← whole] at plain outside
    have event := State.keeps_alarmEvent (s.withSequencer (s.sequencer.taken c.slot raw.toNat)) c.slot x y
      (s.sequencer.formed c.slot raw.toNat)
    have taken : u.sequencer = s.sequencer.taken c.slot raw.toNat := event.same .sequencer
    have dry : u.smoke = s.smoke := event.same .smoke
    have handed := u.heeds_handContributions (order % handOffOrders)
    have hands := u.keeps_handContributions (order % handOffOrders)
    obtain ⟨level, causes⟩ := u.handContributions_drive (order % handOffOrders)
    obtain ⟨lost, low⟩ := u.handContributions_power (order % handOffOrders)
    have smoke := u.handContributions_smoke (order % handOffOrders)
    have pending := State.alarmEvent_pending (s.withSequencer (s.sequencer.taken c.slot raw.toNat)) moved c.slot
      (s.sequencer.formed c.slot raw.toNat)
    have delivery := h.heeds_deliver c (s.sequencer.formed c.slot raw.toNat)
    have drive := h.driveSame_deliver c (s.sequencer.formed c.slot raw.toNat)
    have power := h.deliver_power c (s.sequencer.formed c.slot raw.toNat)
    have heated := h.smokeHeeds_deliver c (s.sequencer.formed c.slot raw.toNat)
    have radio : delivered.radio = u.radio := by
      rw [judged, (State.keeps_deliver _ _ _).same .radio]
      exact hands.same .radio
    rw [← judged] at delivery drive power heated
    have frame : delivered.SameExcept t [.sequencer, .store, .acks] := by
      rw [ht]
      exact State.sameExcept_conversion plain a _
    have slots' : t.sequencer.slots = u.sequencer.slots := by rw [slots, taken]
    have profile' : t.sequencer.profile = u.sequencer.profile := by
      rw [profile, taken]
      rfl
    have ofDrive : t.drive = delivered.drive := frame .drive (by decide)
    have ofPower : t.power = delivered.power := frame .power (by decide)
    have ofSmoke : t.smoke = delivered.smoke := frame .smoke (by decide)
    have ofAttention : t.attention = delivered.attention := frame .attention (by decide)
    have ofEvents : t.events = delivered.events := frame .events (by decide)
    have ofRadio : t.radio = delivered.radio := frame .radio (by decide)
    have levels := State.protectionLevel_of_slots (s := u) (t := t) slots' profile' (ofRadio.trans radio)
    have actions := Sequencer.driveAction_congr slots' profile'
    have smokes := Sequencer.smokeAction_congr slots' profile'
    have lows := Sequencer.assertedLow_congr slots'
    refine ⟨slots, fun ha => ?_, fun i hfilled hkind => ?_, ?_, fun k => ?_, ?_, ?_, fun k => ⟨?_, ?_, fun hd hn => ?_⟩, frame,
      ?_⟩
    · rw [ofAttention]
      exact delivery.pending _ (handed.pending _ (pending ha))
    · rw [ofEvents]
      exact (handed.trans delivery).alarms i hfilled hkind
    · rw [levels, ofDrive, drive.same .level, level]
    · rw [actions, ofDrive, drive.same .slotCauses]
      exact causes k
    · rw [lows, ofPower, power.1, lost]
    · rw [lows, ofPower, power.2, low]
    · rw [smokes, ofSmoke, heated.alarmHold]
      exact (smoke k).1
    · rw [smokes, ofSmoke, heated.alarmDry]
      exact (smoke k).2.1
    · rw [smokes] at hd
      rw [ofSmoke]
      exact heated.dry ((smoke k).2.2 hd (by rw [dry]; exact hn))
    · intro n hn
      rw [ht]
      exact outside n hn
  · rw [ht]
    exact State.sameExcept_conversion (s.keeps_conversionEnded c raw.toNat order).frame a _

end Sys2Proof.Machine

/-! ## The beginning of passes and requests -/

namespace Sys2Proof.Machine

-- One proof at a time: proofs that wait for one another would each hold a thread.
set_option Elab.async false

/-- Whether a slot belongs to the set of the pass that the counter stands at (R48). -/
def Sequencer.Due (q : Sequencer) (j : SlotIx) : Prop :=
  j ≠ 5 ∧ j ≠ 6 ∧ q.profile.slots[j].enabled = true ∧ q.passCounter.toNat % q.profile.slots[j].divisor = 0

theorem Sequencer.mem_passSet (q : Sequencer) (j : SlotIx) : j ∈ q.passSet ↔ q.Due j := by
  have ungated : gated j = false ↔ j ≠ 5 ∧ j ≠ 6 := by
    rw [gated, Bool.or_eq_false_iff, beq_eq_false_iff_ne, beq_eq_false_iff_ne]
    rfl
  simp only [Sequencer.passSet, List.mem_filter, List.mem_finRange, true_and, Bool.and_eq_true, Bool.not_eq_true',
    beq_iff_eq, ungated, and_assoc, Sequencer.enabled, Sequencer.Due]

/-- A set of a pass, listed in slot order, is the set (R48). -/
theorem Sequencer.passSet_eq (q : Sequencer) {ks : List SlotIx} (sorted : ks.Pairwise (· < ·))
    (due : ∀ j, j ∈ ks ↔ q.Due j) : q.passSet = ks :=
  ((List.pairwise_lt_finRange 12).filter _).eq_of_mem_iff sorted fun j => (q.mem_passSet j).trans (due j).symm

/-- With neither a pass, a request nor a conversion the sequencer is idle. -/
theorem Sequencer.idle_iff (q : Sequencer) : q.idle = true ↔ q.pass = none ∧ q.requests = [] ∧ q.inFlight = none := by
  simp [Sequencer.idle, and_assoc]

/-- The first enabled slot of the request at the head of the list is served (R52, R53). -/
theorem nextRequested_skips (enabled : SlotIx → Bool) (w : Nat) (skipped ks : List SlotIx) (k : SlotIx) (rs : List EmfRequest)
    (hs : ∀ j ∈ skipped, enabled j = false) (hk : enabled k = true) :
    nextRequested enabled (⟨w, skipped ++ k :: ks⟩ :: rs) = some (k, w, ⟨w, ks⟩ :: rs) := by
  have drop : (skipped ++ k :: ks).dropWhile (fun j => !enabled j) = k :: ks := by
    rw [List.dropWhile_append_of_pos fun j hj => by rw [hs j hj]; rfl, List.dropWhile_cons_of_neg (by simp [hk])]
  simp only [nextRequested, drop]

section
variable (s : State)

/-- The sequencer's record at the start of a pass of some set (R48). -/
def Sequencer.passBegun (q : Sequencer) (set : List SlotIx) : Sequencer := { q with pass := some set, passDeferred := false }

/-- A pass starts with the first slot of its set. -/
theorem State.startPass_begins (order : Nat) (k : SlotIx) (ks : List SlotIx) (hs : s.sequencer.passSet = k :: ks)
    (hr : s.sequencer.requests = []) (hf : s.sequencer.inFlight = none) :
    s.startPass order = s.withSequencer { s.sequencer with
      passDeferred := false, pass := some ks, inFlight := some ⟨k, none⟩ } := by
  have begins := ((s.sequencer.passBegun (k :: ks)).begin_pass hf hr).1 k ks rfl
  have e : s.startPass order = (s.withSequencer (s.sequencer.passBegun (k :: ks))).beginConversion := by
    unfold State.startPass
    rw [hs]
    rfl
  rw [e]
  exact congrArg s.withSequencer begins

/-- A pass of an empty set ends at once. -/
theorem State.startPass_empty (order : Nat) (hs : s.sequencer.passSet = []) (hr : s.sequencer.requests = [])
    (hf : s.sequencer.inFlight = none) (hw : s.sequencer.waiting = none) :
    s.startPass order = (s.withSequencer (s.sequencer.passBegun []).passEnded).writeSequencerReadings := by
  have stays := ((s.sequencer.passBegun []).passEnded.begin_pass hf hr).2 (.inl rfl)
  have e : s.startPass order = ((s.withSequencer (s.sequencer.passBegun [])).endPass order).beginConversion := by
    unfold State.startPass
    rw [hs]
    rfl
  rw [e, State.endPass_plain (s.withSequencer (s.sequencer.passBegun [])) order hw]
  exact congrArg (fun q => State.withSequencer ((s.withSequencer (s.sequencer.passBegun []).passEnded).writeSequencerReadings) q)
    stays

/-- A quiesce that is unfinished stays so while only the sequencer and the store change. -/
theorem State.QuiesceUnfinished.passes {s t : State} (h : s.QuiesceUnfinished) {l : List Component} (frame : s.SameExcept t l)
    (hl : Component.part ∉ l ∧ .acks ∉ l ∧ .drive ∉ l ∧ .sound ∉ l ∧ .adoption ∉ l := by decide) :
    ∃ a, t.settleQuiesce = t.withAcks a := by
  obtain ⟨h₁, h₂, h₃, h₄, h₅⟩ := hl
  have now : t.acksNow = s.acksNow := State.acksNow_congr (frame .acks h₂) (by rw [show t.drive = s.drive from frame .drive h₃])
    (by rw [show t.sound = s.sound from frame .sound h₄]) (by rw [show t.adoption = s.adoption from frame .adoption h₅])
  have unfinished : t.QuiesceUnfinished := fun hp => by
    rw [now]
    exact h ((frame .part h₁).symm.trans hp)
  obtain ⟨a, e, -⟩ := State.settleQuiesce_withAcks unfinished
  exact ⟨a, e⟩

/-- A pass that starts with a slot due. -/
theorem State.startPass_goesOn (order : Nat) (hi : s.sequencer.idle = true) (hq : s.QuiesceUnfinished) (k : SlotIx)
    (ks : List SlotIx) (sorted : (k :: ks).Pairwise (· < ·)) (due : ∀ j, j ∈ k :: ks ↔ s.sequencer.Due j) :
    (s.startPass order).settleQuiesce.sequencer = { s.sequencer with
        passDeferred := false, pass := some ks, inFlight := some ⟨k, none⟩ } ∧
      s.SameExcept (s.startPass order).settleQuiesce [.sequencer, .acks] := by
  obtain ⟨-, requests, flight⟩ := s.sequencer.idle_iff.mp hi
  have frame := s.sameExcept_withSequencer { s.sequencer with
    passDeferred := false, pass := some ks, inFlight := some ⟨k, none⟩ }
  obtain ⟨a, e⟩ := hq.passes frame
  rw [s.startPass_begins order k ks (s.sequencer.passSet_eq sorted due) requests flight, e]
  exact ⟨rfl, State.sameExcept_trans (State.sameExcept_mono frame (by decide))
    (State.sameExcept_mono (State.sameExcept_withAcks _ a) (by decide))⟩

/-- A pass that starts with no slot due ends at once. -/
theorem State.startPass_endsAtOnce (order : Nat) (hi : s.sequencer.idle = true) (hq : s.QuiesceUnfinished)
    (hw : s.sequencer.waiting = none) (due : ∀ j, ¬ s.sequencer.Due j) :
    let t := (s.startPass order).settleQuiesce
    t.sequencer = { s.sequencer with passDeferred := false, passCounter := s.sequencer.passCounter + 1#8 } ∧
      t.SequencerGroupShows ∧ s.GroupWritten t sequencerGroup t.sequencer.groupBytes ∧
      s.SameExcept t [.sequencer, .store, .acks] := by
  obtain ⟨pass, requests, flight⟩ := s.sequencer.idle_iff.mp hi
  have empty : s.sequencer.passSet = [] := s.sequencer.passSet_eq .nil fun j => by simp [due j]
  have record : (s.sequencer.passBegun []).passEnded =
      { s.sequencer with passDeferred := false, passCounter := s.sequencer.passCounter + 1#8 } := by
    simp only [Sequencer.passBegun, Sequencer.passEnded, ← pass]
  obtain ⟨shows, written⟩ := (s.withSequencer (s.sequencer.passBegun []).passEnded).writeSequencerReadings_shows
  have frame : s.SameExcept (s.withSequencer (s.sequencer.passBegun []).passEnded).writeSequencerReadings
      [.sequencer, .store] :=
    State.sameExcept_trans (State.sameExcept_mono (s.sameExcept_withSequencer _) (by decide))
      (State.sameExcept_mono (State.keeps_writeSequencerReadings _).frame (by decide))
  obtain ⟨a, e⟩ := hq.passes frame
  rw [s.startPass_empty order empty requests flight hw, e]
  refine ⟨record, shows, written, State.sameExcept_trans (State.sameExcept_mono frame (by decide))
    (State.sameExcept_mono (State.sameExcept_withAcks _ a) (by decide))⟩

theorem exec_scanTimerExpiry (order : Nat) (h : s.sequencer.scanTimer.isRunning = true) :
    exec (.scanTimerExpiry order) s = .next
      (let u := s.withSequencer { s.sequencer with
        scanTimer := .running (millis s.time + millis s.sequencer.profile.scanPeriod) }
      if u.sequencer.idle then (u.startPass order).settleQuiesce
      else u.withSequencer { u.sequencer with passDeferred := true }) := by
  show execScanTimerExpiry order s = _
  unfold execScanTimerExpiry
  rw [if_pos h]
  rfl

end

/-- Settles O11: a pass starts with its set or is deferred, and a request with its first enabled slot. -/
theorem passesAndRequestsBegin : Obligations.PassesAndRequestsBegin := by
  intro s order _ q timer free due
  have idle (hf : free) : s.sequencer.idle = true := s.sequencer.idle_iff.mpr hf
  have busy (hf : ¬ free) : ¬ s.sequencer.idle = true := fun h => hf (s.sequencer.idle_iff.mp h)
  obtain ⟨u, hu⟩ : ∃ u, u = s.withSequencer { s.sequencer with scanTimer := timer } := ⟨_, rfl⟩
  have frame {t : State} {l : List Component} (h : u.SameExcept t (.sequencer :: l)) : s.SameExcept t (.sequencer :: l) := by
    rw [hu] at h
    exact State.sameExcept_trans (State.sameExcept_mono (s.sameExcept_withSequencer _) (by simp)) h
  have sequencer : u.sequencer = { s.sequencer with scanTimer := timer } := by rw [hu]; rfl
  refine ⟨fun hr hf => ?_, fun hr hf hq k ks sorted hd => ?_, fun hr hf hq hw hd => ?_, fun h => ?_,
    fun hp hf hq k ks sorted hd => ?_, fun hp hf hq hw hd => ?_, fun h => ?_, fun w skipped k ks rs hf hr hs hk => ?_⟩
  · rw [exec_scanTimerExpiry s order hr]
    exact congrArg Host.Outcome.next (if_neg (busy hf))
  · obtain ⟨record, same⟩ := u.startPass_goesOn order (by rw [hu]; exact idle hf) (by rw [hu]; exact hq) k ks sorted
      (by rw [hu]; exact hd)
    rw [exec_scanTimerExpiry s order hr]
    refine ⟨(u.startPass order).settleQuiesce, ?_, record.trans (by rw [sequencer]), frame same⟩
    rw [hu]
    exact congrArg Host.Outcome.next (if_pos (idle hf))
  · obtain ⟨record, shows, written, same⟩ := u.startPass_endsAtOnce order (by rw [hu]; exact idle hf) (by rw [hu]; exact hq)
      (by rw [hu]; exact hw) (by rw [hu]; exact hd)
    rw [exec_scanTimerExpiry s order hr]
    refine ⟨(u.startPass order).settleQuiesce, ?_, record.trans (by rw [sequencer]), shows, ?_, frame same⟩
    · rw [hu]
      exact congrArg Host.Outcome.next (if_pos (idle hf))
    · rw [hu] at written ⊢
      exact written
  · refine congrArg Host.Outcome.next (if_neg ?_)
    rintro ⟨hp, hi⟩
    rcases h with h | h
    · rw [h] at hp
      cases hp
    · exact busy h hi
  · obtain ⟨record, same⟩ := s.startPass_goesOn order (idle hf) hq k ks sorted hd
    exact ⟨_, congrArg Host.Outcome.next (if_pos ⟨hp, idle hf⟩), record, same⟩
  · obtain ⟨record, shows, written, same⟩ := s.startPass_endsAtOnce order (idle hf) hq hw hd
    exact ⟨_, congrArg Host.Outcome.next (if_pos ⟨hp, idle hf⟩), record, shows, written, same⟩
  · show execEmfRequestServe s = _
    unfold execEmfRequestServe
    by_cases hr : s.sequencer.requests = []
    · rw [if_pos (by rw [hr]; rfl)]
    · have stays : s.sequencer.begin = s.sequencer := if_pos (h.resolve_left hr)
      rw [if_neg (by simpa using hr), State.beginConversion, stays]
      rfl
  · show execEmfRequestServe s = _
    have serves : s.sequencer.begin = { s.sequencer with requests := ⟨w, ks⟩ :: rs, inFlight := some ⟨k, some w⟩ } := by
      unfold Sequencer.begin
      rw [if_neg (by rw [hf]; exact Bool.false_ne_true), hr, nextRequested_skips s.sequencer.enabled w skipped ks k rs hs hk]
    unfold execEmfRequestServe
    rw [if_neg (by rw [hr]; exact Bool.false_ne_true), State.beginConversion, serves]
    rfl

end Sys2Proof.Machine

/-! ## Frames of the radio: the judgement, and the frames that are discarded -/

namespace Sys2Proof.Machine

-- One proof at a time: proofs that wait for one another would each hold a thread.
set_option Elab.async false

section
variable (s : State)

/-- What a matched frame leaves of the receiver: its counts, its table of senders and its profile (R149). -/
def Radio.SameCounts (r q : Radio) : Prop :=
  ∃ (silence : SilenceState) (heard : Bool) (silenceTimer elapsedTimer : Timer),
    q = { r with
      silence := silence
      heard := heard
      silenceTimer := silenceTimer
      elapsedTimer := elapsedTimer }

/-- The receiver once silence has ended by a matched frame (R149). -/
def State.restored : Radio :=
  { s.radio with
    silence := .listening
    silenceTimer := s.startTimer s.radio.timeoutMicros
    elapsedTimer := .stopped }

theorem State.endSilence_radio (subject : Byte) :
    (s.endSilence subject).radio = { s.radio with elapsedTimer := .stopped } :=
  ((State.keeps_recomputeProtection _).same .radio).trans (((State.keeps_raise _ _).same .radio).trans
    ((State.keeps_event _ _ _ _).same .radio))

/-- A matched frame while silence is not yet armed, the timeout being 0 (R149). -/
theorem State.frameHeard_unarmed (h : s.radio.silence = .disarmed) (ht : s.radio.profile.silenceTimeout = 0) :
    s.frameHeard = s.withRadio { s.radio with heard := true } := by
  unfold State.frameHeard
  rw [h]
  exact if_neg (Nat.not_lt.mpr ht.le)

/-- A matched frame that arms silence (R149). -/
theorem State.frameHeard_arms (h : s.radio.silence = .disarmed) (ht : 0 < s.radio.profile.silenceTimeout) :
    s.frameHeard = ((s.withRadio { s.radio with heard := true }).listen).writeRadioReadings := by
  unfold State.frameHeard
  rw [h]
  exact if_pos ht

/-- A matched frame while LISTENING (R149). -/
theorem State.frameHeard_listening (h : s.radio.silence = .listening) : s.frameHeard = s.listen := by
  unfold State.frameHeard
  rw [h]

/-- A matched frame that ends silence (R149). -/
theorem State.frameHeard_silent (h : s.radio.silence = .silent) :
    s.frameHeard = (s.listen.endSilence 1#8).writeRadioReadings := by
  unfold State.frameHeard
  rw [h]

theorem State.frameHeard_silent_radio (h : s.radio.silence = .silent) : s.frameHeard.radio = s.restored := by
  rw [s.frameHeard_silent h]
  exact ((State.keeps_writeRadioReadings _).same .radio).trans (State.endSilence_radio _ _)

theorem State.frameHeard_counts : s.radio.SameCounts s.frameHeard.radio := by
  cases h : s.radio.silence with
  | disarmed =>
    by_cases ht : 0 < s.radio.profile.silenceTimeout
    · rw [s.frameHeard_arms h ht]
      exact ⟨_, _, _, _, (State.keeps_writeRadioReadings _).same .radio⟩
    · rw [s.frameHeard_unarmed h (by omega)]
      exact ⟨_, _, _, _, rfl⟩
  | listening =>
    rw [s.frameHeard_listening h]
    exact ⟨_, _, _, _, rfl⟩
  | silent =>
    rw [s.frameHeard_silent_radio h]
    exact ⟨_, _, _, _, rfl⟩

/-- The receiver as an addressed frame meets the duplicate check differs in its count of good frames and in its
silence alone. -/
theorem State.listened_counts (via : Via) :
    Radio.SameCounts { s.radio with framesGood := s.radio.framesGood + 1#16 } (s.listened via).radio := by
  unfold State.listened
  dsimp only
  split
  · exact ⟨_, _, _, _, rfl⟩
  · exact State.frameHeard_counts _

theorem State.listened_isDuplicate (via : Via) (h : Heard) :
    (s.listened via).radio.isDuplicate h = s.radio.isDuplicate h := by
  obtain ⟨_, _, _, _, e⟩ := s.listened_counts via
  rw [e]
  rfl

/-- The state in which a completed frame is judged. -/
abbrev State.judging : State := s.withRadio { s.radio with completed := none }

theorem State.judging_admitted (f : Frame) (via : Via) : s.judging.admitted f via = s.passed f via := rfl

theorem State.passed_refused (f : Frame) (via : Via) : (s.passed f via).radio.refused = s.radio.refused := by
  obtain ⟨_, _, _, _, e⟩ := s.judging.listened_counts via
  show (s.judging.listened via).radio.refused = _
  rw [e]
  rfl

/-! ### The frame taken (R141) -/

variable {s} {f : Frame} {kind : Nat → Bool} {act : State → Heard → State}

/-- A completed frame that the judgement discards is taken no further. -/
theorem State.takeFrame_discards {u : State} (hc : s.radio.completed = some f) (hk : kind f.command = true)
    (hj : s.judging.judge f = (u, none)) : s.takeFrame kind act = u := by
  simp only [State.takeFrame, hc, hk, if_true, hj]

/-- A completed frame that reaches the checks of its command. -/
theorem State.takeFrame_passes {via : Via} (hp : s.Passes f via) (hk : kind f.command = true) :
    s.takeFrame kind act = act (s.passed f via) (f.heard via) := by
  obtain ⟨hc, hcrc, hrun, ha, hd⟩ := hp
  have hj : s.judging.judge f = (s.passed f via, some (f.heard via)) := by
    rcases s.judging.judge_cases f with ⟨h, -⟩ | ⟨-, h, -⟩ | ⟨-, -, h, -⟩ | ⟨v, -, -, h, last⟩
    · exact absurd (h.symm.trans hcrc) nofun
    · exact absurd hrun h
    · exact absurd (h.symm.trans ha) nofun
    · cases Option.some.inj (h.symm.trans ha)
      rw [State.listened_isDuplicate, State.judging_admitted] at last
      rcases last with ⟨h, -⟩ | ⟨-, e⟩
      · exact absurd (h.symm.trans hd) nofun
      · exact e
  simp only [State.takeFrame, hc, hk, if_true, hj]

/-- What takes the frame at each of the receiver's rows of order `order`: the codes the row names, and what is done
with a frame that passes the duplicate check (R144). -/
inductive TakesFrame (order : Nat) : Instr → (Nat → Bool) → (State → Heard → State) → Prop
  | speed : TakesFrame order (.radioSpeed order) (· == 0x10) fun s h => s.takeSpeed h order
  | halt : TakesFrame order (.radioHalt order) (· == 0x11) fun s h =>
      s.route s.radio.profile.halt h (fun s => s.halt .radio) order
  | function : TakesFrame order (.radioFunction order) (· == 0x20) fun s h => s.takeFunction h order
  | functionGroup : TakesFrame order (.radioFunctionGroup order) (· == 0x21) fun s h => s.takeFunctionGroup h order
  | cue : TakesFrame order (.radioCue order) (· == 0x30) fun s h => s.takeCue h order
  | volume : TakesFrame order .radioVolume (· == 0x31) fun s h => s.takeVolume h
  | user : TakesFrame order .radioUser (fun c => decide (0x40 ≤ c) && decide (c ≤ 0x7F)) fun s h =>
      s.route s.radio.profile.user h (fun s => s) 0
  | unknown : TakesFrame order .radioUnknownCommand (fun c => !knownCommand c) fun s _ => s.refuseCommand

theorem TakesFrame.exec_eq {order : Nat} {c : Instr} (h : TakesFrame order c kind act) (s : State) :
    exec c s = .next (s.takeFrame kind act) := by
  cases h <;> rfl

/-- The ways in which a frame that has passed the duplicate check fails the checks of its command (R144). -/
def Frame.FailsChecks (f : Frame) (via : Via) : Prop :=
  knownCommand f.command = false ∨
    (f.command = 0x10 ∧ ((f.heard via).payload.length < 2 ∨ 1 < u8At (f.heard via).payload 1)) ∨
    (f.command = 0x20 ∧ ((f.heard via).payload.length < 2 ∨ 31 < u8At (f.heard via).payload 0 ∨
      1 < u8At (f.heard via).payload 1)) ∨
    (f.command = 0x21 ∧ ((f.heard via).payload.length < 2 ∨ u8At (f.heard via).payload 0 ∉ [0, 8, 16, 24])) ∨
    (f.command = 0x30 ∧ ((f.heard via).payload.length < 2 ∨ 63 < u8At (f.heard via).payload 0)) ∨
    (f.command = 0x31 ∧ (f.heard via).payload.length < 1)

theorem Direction.ofCode_eq_none {n : Nat} (h : 1 < n) : Direction.ofCode n = none :=
  match n, h with
  | _ + 2, _ => rfl

theorem switchOfCode_eq_none {n : Nat} (h : 1 < n) : switchOfCode n = none :=
  match n, h with
  | _ + 2, _ => rfl

theorem State.takeSpeed_refuses (h : Heard) (order : Nat) (hb : h.payload.length < 2 ∨ 1 < u8At h.payload 1) :
    s.takeSpeed h order = s.refuseCommand := by
  by_cases hl : h.payload.length < 2
  · exact if_pos hl
  · simp only [State.takeSpeed, if_neg hl, Direction.ofCode_eq_none (hb.resolve_left hl)]

theorem State.takeFunction_refuses (h : Heard) (order : Nat)
    (hb : h.payload.length < 2 ∨ 31 < u8At h.payload 0 ∨ 1 < u8At h.payload 1) :
    s.takeFunction h order = s.refuseCommand := by
  by_cases hl : h.payload.length < 2 ∨ 31 < u8At h.payload 0
  · exact if_pos hl
  · have on : 1 < u8At h.payload 1 := by tauto
    simp only [State.takeFunction, if_neg hl, switchOfCode_eq_none on]

theorem State.takeFunctionGroup_refuses (h : Heard) (order : Nat)
    (hb : h.payload.length < 2 ∨ u8At h.payload 0 ∉ [0, 8, 16, 24]) :
    s.takeFunctionGroup h order = s.refuseCommand :=
  if_pos (hb.imp_right fun h => by simpa using h)

/-- A frame that fails the checks of its command is refused at the row that names its code (R144). -/
theorem TakesFrame.refuses {order : Nat} {c : Instr} (h : TakesFrame order c kind act) (hk : kind f.command = true)
    (via : Via) (hb : f.FailsChecks via) (u : State) : act u (f.heard via) = u.refuseCommand := by
  unfold Frame.FailsChecks at hb
  cases h
  case unknown => rfl
  case user =>
    have known : knownCommand f.command = true := by simp [knownCommand] at hk ⊢; omega
    rw [known] at hb
    simp at hk hb
    omega
  all_goals
    have code := beq_iff_eq.mp hk
    rw [code] at hb
    simp only [knownCommand, Nat.reduceBEq, Nat.reduceEqDiff, Bool.or_true, Bool.true_or, Bool.or_false, reduceCtorEq,
      false_and, false_or, or_false, true_and] at hb
  case speed => exact State.takeSpeed_refuses _ _ hb
  case function => exact State.takeFunction_refuses _ _ hb
  case functionGroup => exact State.takeFunctionGroup_refuses _ _ hb
  case cue => exact if_pos hb
  case volume => exact if_pos hb

/-! ### The address and the table of senders (R142, R143) -/

theorem Radio.isDuplicate_iff (r : Radio) (h : Heard) :
    r.isDuplicate h = true ↔ ∃ x ∈ r.senders, x.sender = h.sender ∧ x.counter = h.counter := by
  simp [Radio.isDuplicate]

/-- A sender that stands in the table moves to its back (R143). -/
theorem Radio.sendersAfter_known (r : Radio) (h : Heard) (time : Nat) (hk : ∃ x ∈ r.senders, x.sender = h.sender) :
    r.sendersAfter h time = (r.senders.filter fun x => x.sender ≠ h.sender) ++ [⟨h.sender, h.counter, time⟩] := by
  obtain ⟨x, hx, e⟩ := hk
  have shorter : (r.senders.filter fun x => x.sender != h.sender).length < r.senders.length :=
    List.length_filter_lt_length_iff_exists.mpr ⟨x, hx, by simp [e]⟩
  unfold Radio.sendersAfter
  dsimp only
  rw [if_neg (by omega)]
  congr 1
  exact List.filter_congr fun x _ => by rw [Bool.eq_iff_iff]; simp

theorem Radio.others_of_unknown (r : Radio) (h : Heard) (hk : ¬ ∃ x ∈ r.senders, x.sender = h.sender) :
    (r.senders.filter fun x => x.sender != h.sender) = r.senders :=
  List.filter_eq_self.mpr fun x hx => by simpa using fun e => hk ⟨x, hx, e⟩

/-- A new sender goes to the back of a table with room (R143). -/
theorem Radio.sendersAfter_new (r : Radio) (h : Heard) (time : Nat) (hk : ¬ ∃ x ∈ r.senders, x.sender = h.sender)
    (hl : r.senders.length < 8) : r.sendersAfter h time = r.senders ++ [⟨h.sender, h.counter, time⟩] := by
  unfold Radio.sendersAfter
  dsimp only
  rw [r.others_of_unknown h hk, if_neg (by omega)]

/-- A new sender takes the place of the front one of a full table (R143). -/
theorem Radio.sendersAfter_full (r : Radio) (h : Heard) (time : Nat) (hk : ¬ ∃ x ∈ r.senders, x.sender = h.sender)
    (hl : r.senders.length = 8) : r.sendersAfter h time = r.senders.tail ++ [⟨h.sender, h.counter, time⟩] := by
  unfold Radio.sendersAfter
  dsimp only
  rw [r.others_of_unknown h hk, if_pos ⟨rfl, hl.ge⟩, List.drop_one]

/-- How a frame is addressed (R142). -/
theorem RadioProfile.addressedAs_eq (p : RadioProfile) (f : Frame) :
    (f.address = p.primary → p.addressedAs f = some .primary) ∧
    (f.address ≠ p.primary → f.address = p.consist → p.consist ≠ 0 → p.addressedAs f = some .consist) ∧
    (f.address ≠ p.primary → f.address = 0 → f.command = 0x11 → p.addressedAs f = some .broadcast) ∧
    (f.address ≠ p.primary → f.address ≠ p.consist ∨ p.consist = 0 → f.address ≠ 0 ∨ f.command ≠ 0x11 →
      p.addressedAs f = none) := by
  unfold RadioProfile.addressedAs
  dsimp only
  refine ⟨fun h => if_pos h, fun h hc hz => ?_, fun h hz hh => ?_, fun h hc hz => ?_⟩
  · rw [if_neg h, if_pos ⟨hc, hz⟩]
  · rw [if_neg h, if_neg (by omega), if_pos ⟨hz, hh⟩]
  · rw [if_neg h, if_neg (by tauto), if_neg (by tauto)]

end

/-- Settles O36: every row takes a frame of the codes it names alike, so that the judgement's cases are those of
`judge_cases`, and a frame that passes is refused where its command's checks fail. -/
theorem discardedFramesAreCounted : Obligations.DiscardedFramesAreCounted := by
  unfold Obligations.DiscardedFramesAreCounted
  intro s f c hc row
  obtain ⟨kind, act, takes, named⟩ : ∃ kind act, TakesFrame 0 c kind act ∧ kind f.command = true := by
    rcases row with ⟨rfl, h⟩ | ⟨rfl, h⟩ | ⟨rfl, h⟩ | ⟨rfl, h⟩ | ⟨rfl, h⟩ | ⟨rfl, h⟩ | ⟨rfl, h, h'⟩ | ⟨rfl, h⟩
    · exact ⟨_, _, .speed, by simp [h]⟩
    · exact ⟨_, _, .halt, by simp [h]⟩
    · exact ⟨_, _, .function, by simp [h]⟩
    · exact ⟨_, _, .functionGroup, by simp [h]⟩
    · exact ⟨_, _, .cue, by simp [h]⟩
    · exact ⟨_, _, .volume, by simp [h]⟩
    · exact ⟨_, _, .user, by simp [h, h']⟩
    · exact ⟨_, _, .unknown, by simp [h]⟩
  have discards (u : State) (hj : s.judging.judge f = (u, none)) : exec c s = .next u :=
    (takes.exec_eq s).trans (congrArg _ (State.takeFrame_discards hc named hj))
  intro r good address p
  obtain ⟨primary, consist, broadcast, unaddressed⟩ := p.addressedAs_eq f
  refine ⟨fun via => ?_, primary, consist, broadcast, unaddressed, fun via => ?_, fun bad => ?_, fun ok held => ?_,
    fun ok run ha => ?_, fun via ok run ha dup => ?_, fun via pass fails => ?_⟩
  · simp [Frame.heard, Frame.command, u8At]
  · exact ⟨r.isDuplicate_iff _, r.sendersAfter_known _ _, r.sendersAfter_new _ _, r.sendersAfter_full _ _⟩
  · refine discards _ ?_
    rcases s.judging.judge_cases f with ⟨-, e⟩ | ⟨h, -⟩ | ⟨h, -⟩ | ⟨v, h, -⟩
    · exact e
    all_goals exact absurd (h.symm.trans bad) nofun
  · refine discards _ ?_
    rcases s.judging.judge_cases f with ⟨h, -⟩ | ⟨-, -, e⟩ | ⟨-, h, -⟩ | ⟨v, -, h, -⟩
    · exact absurd (h.symm.trans ok) nofun
    · exact e
    all_goals exact absurd h held
  · refine discards _ ?_
    rcases s.judging.judge_cases f with ⟨h, -⟩ | ⟨-, h, -⟩ | ⟨-, -, -, e⟩ | ⟨v, -, -, h, -⟩
    · exact absurd (h.symm.trans ok) nofun
    · exact absurd run h
    · exact e
    · exact absurd (h.symm.trans ha) nofun
  · refine discards _ ?_
    rcases s.judging.judge_cases f with ⟨h, -⟩ | ⟨-, h, -⟩ | ⟨-, -, h, -⟩ | ⟨v, -, -, h, last⟩
    · exact absurd (h.symm.trans ok) nofun
    · exact absurd run h
    · exact absurd (h.symm.trans ha) nofun
    · cases Option.some.inj (h.symm.trans ha)
      rw [State.listened_isDuplicate, State.judging_admitted] at last
      rcases last with ⟨-, e⟩ | ⟨h, -⟩
      · exact e
      · exact absurd (h.symm.trans dup) nofun
  · rw [takes.exec_eq, State.takeFrame_passes pass named, takes.refuses named via fails]
    unfold State.refuseCommand
    rw [State.passed_refused]

end Sys2Proof.Machine

/-! ## Radio silence -/

namespace Sys2Proof.Machine

-- One proof at a time: proofs that wait for one another would each hold a thread.
set_option Elab.async false

/-! ### A drive that can only come to rest -/

/-- The drive is limited, or asked for no speed: whatever its state, T is 0 (R7). -/
def Drive.Grounded (d : Drive) : Prop := d.level ≠ .none ∨ d.target.magnitude = 0

section
variable (s : State)

theorem State.effectiveTarget_of_grounded (h : s.drive.Grounded) : s.effectiveTarget = 0 := by
  unfold State.effectiveTarget
  dsimp only
  rcases h with h | h
  · cases hl : s.drive.level <;> simp_all [Level.holds]
  · simp [h]

/-- A ramp that follows T = 0 brings no chuff. -/
theorem State.shows_followTarget_of_zero (h : s.effectiveTarget = 0) : s.Shows s.followTarget [.drive, .cadence] := by
  have jump : s.jumpRamp = s.zeroRamp := by
    unfold State.jumpRamp
    rw [h]
    rfl
  have set (d : Drive) : s.Shows (s.withDrive d) [.drive, .cadence] := .of_frame (State.sameExcept_mono (s.sameExcept_withDrive d) (by decide))
  unfold State.followTarget
  dsimp only
  refine .ite (fun _ => .ite (fun _ => set _) fun _ => ?_) fun _ => .ite (fun _ => .refl _ _) fun _ => set _
  rw [jump]
  exact s.shows_zeroRamp

/-- Settling a drive under T = 0 raises nothing and brings no chuff. -/
theorem State.shows_settleDrive_of_zero (h : s.effectiveTarget = 0)
    (h' : s.followTarget.settleWindow.reachedZero.effectiveTarget = 0) :
    s.Shows s.settleDrive (.cadence :: Component.ofZero) := by
  have follows (u : State) (hu : u.effectiveTarget = 0) : u.Shows u.followTarget.settleWindow (.cadence :: Component.ofZero) :=
    (u.shows_followTarget_of_zero hu).mono.trans (State.Shows.of_keeps (State.keeps_settleWindow _)).mono
  exact (follows s h).trans ((State.shows_reachedZero _).mono.trans (follows _ h'))

theorem Drive.Grounded.of_same {d e : Drive} {l : List DriveField} (h : d.Grounded) (k : d.SameBut e l)
    (hl : DriveField.level ∉ l ∧ .target ∉ l := by decide) : e.Grounded := by
  unfold Drive.Grounded
  rw [show e.level = d.level from k .level hl.1, show e.target = d.target from k .target hl.2]
  exact h

/-- Settling a drive that can only come to rest raises nothing and brings no chuff. -/
theorem State.shows_settleDrive_of_grounded (h : s.drive.Grounded) :
    s.Shows s.settleDrive (.cadence :: Component.ofZero) :=
  s.shows_settleDrive_of_zero (s.effectiveTarget_of_grounded h) (State.effectiveTarget_of_grounded _
    (((h.of_same s.driveSame_followTarget).of_same (State.driveSame_settleWindow _)).of_same (State.driveSame_reachedZero _)))

/-- Settling neither enters nor leaves HALTED and LOCKED. -/
theorem State.settleDrive_held_iff :
    s.settleDrive.drive.state = .halted ∨ s.settleDrive.drive.state = .locked ↔
      s.drive.state = .halted ∨ s.drive.state = .locked := by
  obtain ⟨stays, reached⟩ := s.settleDrive_state
  by_cases moving : s.drive.state = .reversing ∨ s.drive.state = .running
  · by_cases zero : s.followedRamp = 0
    · obtain ⟨-, -, ended⟩ := reached zero
      rw [ended moving]
      rcases moving with h | h <;> rw [h] <;> split <;> simp
    · rw [(stays (.inl zero)).1]
  · rw [(stays (.inr (not_or.mp moving))).1]

/-! ### A target of no speed -/

theorem State.follows_released (dir : Direction) (src : Source) : s.Follows (s.released dir src) := by
  have aimed : s.Follows (s.aimed 0 dir src) := .of_keeps (s.keeps_withDrive _)
  have u : s.Follows (if s.drive.state = .locked
      then (s.aimed 0 dir src).withDrive { (s.aimed 0 dir src).drive with tripCount := 0 } else s.aimed 0 dir src) :=
    .ite (fun _ => aimed.trans (.of_keeps (State.keeps_withDrive _ _))) fun _ => aimed
  unfold State.released
  dsimp only
  generalize (if s.drive.state = .locked
    then (s.aimed 0 dir src).withDrive { (s.aimed 0 dir src).drive with tripCount := 0 } else s.aimed 0 dir src) = x at *
  exact u.trans ((x.follows_setDirection dir).trans (State.follows_enterDriveState _ _ _))

theorem State.follows_directed (m : Nat) (dir : Direction) (src : Source) : s.Follows (s.directed m dir src) := by
  have aimed : s.Follows (s.aimed m dir src) := .of_keeps (s.keeps_withDrive _)
  unfold State.directed
  dsimp only
  split
  · exact .ite (fun _ => aimed.trans (State.follows_setDirection _ _)) fun _ =>
      aimed.trans ((State.follows_setDirection _ _).trans (State.follows_enterDriveState _ _ _))
  · exact .ite (fun _ => aimed) fun _ => .ite (fun _ => aimed.trans (State.follows_setDirection _ _)) fun _ =>
      aimed.trans (State.follows_enterDriveState _ _ _)
  · exact .ite (fun _ => aimed.trans (State.follows_enterDriveState _ _ _)) fun _ => aimed
  all_goals exact aimed

theorem State.follows_writeTarget (m : Nat) (dir : Direction) (src : Source) : s.Follows (s.writeTarget m dir src) := by
  obtain ⟨refused, stored, released, directed⟩ := s.writeTarget_eq m dir src
  have aimed : s.Follows (s.aimed m dir src) := .of_keeps (s.keeps_withDrive _)
  have frees (h : s.drive.state = .halted ∨ s.drive.state = .locked) (hm : m = 0) : s.Follows (s.writeTarget m dir src) := by
    rw [released h hm]
    exact (s.follows_released dir src).trans (State.follows_settleDrive _)
  have walks (h : s.drive.state = .idle ∨ s.drive.state = .running ∨ s.drive.state = .reversing) :
      s.Follows (s.writeTarget m dir src) := by
    rw [directed h]
    exact (s.follows_directed m dir src).trans (State.follows_settleDrive _)
  cases hs : s.drive.state
  case idle => exact walks (.inl hs)
  case running => exact walks (.inr (.inl hs))
  case reversing => exact walks (.inr (.inr hs))
  case tripped => rw [stored (.inl hs)]; exact aimed
  case halted =>
    by_cases hm : m = 0
    · exact frees (.inl hs) hm
    · rw [refused hs (by omega)]
      exact .refl _
  case locked =>
    by_cases hm : m = 0
    · exact frees (.inr hs) hm
    · rw [stored (.inr ⟨hs, by omega⟩)]
      exact aimed

/-- A drive that has been directed is not HALTED or LOCKED, unless it was. -/
theorem State.directed_held_iff (m : Nat) (dir : Direction) (src : Source) :
    (s.directed m dir src).drive.state = .halted ∨ (s.directed m dir src).drive.state = .locked ↔
      s.drive.state = .halted ∨ s.drive.state = .locked := by
  have turned := ((s.aimed m dir src).driveSame_setDirection dir).same .state
  have entered (u : State) (x : DriveState) := u.enterDriveState_state x none
  cases hs : s.drive.state
  case idle =>
    rw [s.directed_idle m dir src hs]
    split
    · rw [turned, show (s.aimed m dir src).drive.state = .idle from hs]
    · simp [entered]
  case running =>
    rw [s.directed_running m dir src hs]
    split
    · rw [show (s.aimed m dir src).drive.state = .running from hs]
    · split
      · rw [turned, show (s.aimed m dir src).drive.state = .running from hs]
      · simp [entered]
  case reversing =>
    rw [s.directed_reversing m dir src hs]
    split
    · simp [entered]
    · rw [show (s.aimed m dir src).drive.state = .reversing from hs]
  all_goals
    have e : s.directed m dir src = s.aimed m dir src := by simp [State.directed, hs]
    rw [e, show (s.aimed m dir src).drive.state = _ from hs]

/-- A target of magnitude 0 releases a HALTED or LOCKED drive, raising DRIVE, and otherwise raises nothing (R30, R34,
R44). -/
theorem State.writeTarget_none (dir : Direction) (src : Source) :
    let t := s.writeTarget 0 dir src
    t.drive.target = ⟨0, dir, src⟩ ∧ t.drive.state ≠ .halted ∧ t.drive.state ≠ .locked ∧
      (s.drive.state = .halted ∨ s.drive.state = .locked → t.AttendsAs (s.raise .drive)) ∧
      (¬ (s.drive.state = .halted ∨ s.drive.state = .locked) → t.AttendsAs s) := by
  intro t
  obtain ⟨-, stored, released, directed⟩ := s.writeTarget_eq 0 dir src
  obtain ⟨-, target, -⟩ := s.writeTarget_kept 0 dir src
  refine ⟨target (by omega), ?_⟩
  by_cases hs : s.drive.state = .halted ∨ s.drive.state = .locked
  · obtain ⟨state, -, target', -, -, attends, -⟩ := s.released_eq dir src hs
    have ht : t = (s.released dir src).settleDrive := released hs rfl
    have shown := (s.released dir src).shows_settleDrive_of_grounded (.inr (by rw [target']))
    have idle : t.drive.state = .idle := (s.writeTarget_released dir src hs).1
    exact ⟨by rw [idle]; nofun, by rw [idle]; nofun, fun _ => by rw [ht]; exact attends.trans (.of_shows shown),
      fun h => absurd hs h⟩
  · by_cases htr : s.drive.state = .tripped
    · have ht : t = s.aimed 0 dir src := stored (.inl htr)
      rw [ht]
      refine ⟨?_, ?_, fun h => absurd h hs, fun _ => .of_keeps (s.keeps_withDrive _)⟩
      all_goals
        show s.drive.state ≠ _
        rw [htr]
        nofun
    · have moves : s.drive.state = .idle ∨ s.drive.state = .running ∨ s.drive.state = .reversing := by
        cases h : s.drive.state <;> simp_all
      obtain ⟨target', -, -, -, shown⟩ := s.directed_eq 0 dir src
      have ht : t = (s.directed 0 dir src).settleDrive := directed moves
      have still := (s.directed 0 dir src).shows_settleDrive_of_grounded (.inr (by rw [target']))
      have free := (State.settleDrive_held_iff _).not.mpr ((s.directed_held_iff 0 dir src).not.mpr hs)
      rw [ht]
      exact ⟨fun h => free (.inl h), fun h => free (.inr h), fun h => absurd h hs,
        fun _ => (State.AttendsAs.of_shows shown).trans (.of_shows still)⟩

/-! ### The cause handed to the drive -/

/-- A hand-off neither enters nor leaves HALTED and LOCKED. -/
theorem State.recomputeProtection_held_iff :
    s.recomputeProtection.drive.state = .halted ∨ s.recomputeProtection.drive.state = .locked ↔
      s.drive.state = .halted ∨ s.drive.state = .locked := by
  obtain ⟨same, rises, moves⟩ := s.recomputeProtection_eq
  have levelled := s.driveSame_levelled
  have settles (u : State) (hu : u.drive.state = s.drive.state) (e : s.recomputeProtection = u.settleDrive) :
      s.recomputeProtection.drive.state = .halted ∨ s.recomputeProtection.drive.state = .locked ↔
        s.drive.state = .halted ∨ s.drive.state = .locked := by
    rw [e, u.settleDrive_held_iff, hu]
  by_cases h : s.protectionLevel = s.drive.level
  · rw [same h]
    exact Iff.rfl
  · by_cases h' : s.protectionLevel.holds = false ∨ s.drive.level.holds = true
    · have refreshed := s.levelled.driveSame_refreshDuty.same .state
      exact settles _ (refreshed.trans (levelled.same .state)) (moves h h')
    · obtain ⟨hl, hd⟩ := not_or.mp h'
      have stilled := s.levelled.driveSame_stilled.same .state
      exact settles _ (((State.driveSame_closeWindowEarly _).same .state).trans (stilled.trans (levelled.same .state)))
        (rises (by simpa using hl) (by simpa using hd))

/-- A hand-off that does not lift the level to NONE raises nothing, in mode OFF too. -/
theorem State.recomputeProtection_shows_grounded (h : s.protectionLevel = s.drive.level ∨ s.protectionLevel ≠ .none) :
    s.Shows s.recomputeProtection [.drive, .cadence, .smoke, .lamps, .store] := by
  obtain ⟨same, -, moves⟩ := s.recomputeProtection_eq
  have first : s.Shows s.levelled [.drive, .cadence, .smoke, .lamps, .store] := (State.Shows.of_keeps s.keeps_levelled).mono
  by_cases level : s.protectionLevel = s.drive.level
  · rw [same level]
    exact first
  · by_cases h' : s.protectionLevel.holds = false ∨ s.drive.level.holds = true
    · have limited : s.levelled.drive.Grounded := .inl (h.resolve_left level)
      rw [moves level h']
      exact first.trans ((State.Shows.of_keeps s.levelled.keeps_refreshDuty).mono.trans
        (State.shows_settleDrive_of_grounded _ (limited.of_same s.levelled.driveSame_refreshDuty)).mono)
    · obtain ⟨hl, hd⟩ := not_or.mp h'
      exact (s.recomputeProtection_rises (by simpa using hl) (by simpa using hd)).2.2.2.2

/-- The receiver as its silence timer expires (R150). -/
def State.silenced : State :=
  s.withRadio { s.radio with
    silence := .silent
    silenceTimer := .stopped
    elapsed := 0
    elapsedTimer := s.startTimer elapsedInterval }

/-- Silence leaves the level as it was, or makes it one that is not NONE (R35). -/
theorem State.protectionLevel_silenced :
    s.silenced.protectionLevel = s.protectionLevel ∨ s.silenced.protectionLevel ≠ .none := by
  by_cases action : s.radio.profile.silenceAction = .none
  · have level : s.silenced.radio.silenceLevel = s.radio.silenceLevel := by
      simp [Radio.silenceLevel, State.silenced, State.withRadio, action]
    refine .inl ?_
    unfold State.protectionLevel
    rw [level]
    rfl
  · refine .inr fun h => action ?_
    obtain ⟨first, -⟩ := foldl_levelMax s.sequencer.driveAction (List.finRange 12) s.silenced.radio.silenceLevel
    have code : s.radio.profile.silenceAction.code ≤ s.silenced.protectionLevel.code := first
    rw [h] at code
    cases ha : s.radio.profile.silenceAction <;> simp [ha, Level.code] at code ⊢

/-- The drive once the silence cause has been handed to it (R150). -/
def State.silenceHanded : State := s.silenced.recomputeProtection

/-- The drive once it has taken silence in full: the cause, and the target cleared where the profile says so (R150). -/
def State.silenceTaken : State :=
  if s.radio.profile.clearTarget then
    s.silenceHanded.writeTarget 0 s.silenceHanded.drive.target.direction .radio
  else s.silenceHanded

/-- The silence timer's expiry, by what the drive takes (R150). -/
theorem exec_silenceTimerExpiry (h : s.hasExpired s.radio.silenceTimer = true) :
    exec .silenceTimerExpiry s = .next ((s.silenceTaken.event .radioSilent 0#8
      (BitVec.ofNat 16 s.radio.profile.silenceTimeout)).raise .silence).writeRadioReadings.settleQuiesce := by
  have radio : s.silenceHanded.radio = s.silenced.radio := (State.keeps_recomputeProtection _).same .radio
  have radio' : s.silenceTaken.radio = s.silenced.radio := by
    unfold State.silenceTaken
    split
    · exact ((State.keeps_writeTarget _ _ _ _).same .radio).trans radio
    · exact radio
  have e : s.silenceTaken = if s.silenceHanded.radio.profile.clearTarget then
      s.silenceHanded.writeTarget 0 s.silenceHanded.drive.target.direction .radio else s.silenceHanded := by
    rw [radio]
    rfl
  have timeout : s.radio.profile.silenceTimeout = s.silenceTaken.radio.profile.silenceTimeout := by
    rw [radio']
    rfl
  rw [timeout, e]
  show execSilenceTimerExpiry s = _
  unfold execSilenceTimerExpiry
  rw [if_pos h]
  rfl

/-- What the drive has taken of silence: the causes stored, the target and the state, and what is announced. -/
theorem State.silenceTaken_eq :
    let clears := s.radio.profile.clearTarget = true ∧ (s.drive.state = .halted ∨ s.drive.state = .locked)
    let steady := s.drive.profile.momentum ≠ .off ∨ s.drive.level = s.protectionLevel
    s.silenceTaken.radio = s.silenced.radio ∧ s.silenceTaken.drive.level = s.silenceTaken.protectionLevel ∧
      s.silenceTaken.drive.silenceCause = (s.radio.profile.silenceAction != .none) ∧
      (s.radio.profile.clearTarget = true → s.silenceTaken.drive.target = ⟨0, s.drive.target.direction, .radio⟩ ∧
        s.silenceTaken.drive.state ≠ .halted ∧ s.silenceTaken.drive.state ≠ .locked) ∧
      (s.radio.profile.clearTarget = false → s.silenceTaken.drive.target = s.drive.target) ∧
      (steady → clears → s.silenceTaken.AttendsAs (s.raise .drive)) ∧
      (steady → ¬ clears → s.silenceTaken.AttendsAs s) ∧ s.Follows s.silenceTaken ∧
      s.SameExcept s.silenceTaken Component.ofSilence := by
  intro clears steady
  have set : s.SameExcept s.silenced [.radio] := s.sameExcept_withRadio _
  have drive : s.silenced.drive = s.drive := rfl
  have level : s.silenced.protectionLevel = s.silenced.drive.level ∨ s.silenced.protectionLevel ≠ .none ∨
      s.drive.level ≠ s.protectionLevel := by
    rw [drive]
    rcases s.protectionLevel_silenced with h | h
    · rw [h]
      by_cases e : s.drive.level = s.protectionLevel
      · exact .inl e.symm
      · exact .inr (.inr e)
    · exact .inr (.inl h)
  have keeps := s.silenced.keeps_recomputeProtection
  have stores := s.silenced.recomputeProtection_stores
  have held := s.silenced.recomputeProtection_held_iff
  have follows := s.silenced.follows_recomputeProtection
  have quiet : steady → s.silenced.Shows s.silenced.recomputeProtection [.drive, .cadence, .smoke, .lamps, .store] := by
    rintro (h | h)
    · exact (s.silenced.recomputeProtection_shows h).1
    · refine s.silenced.recomputeProtection_shows_grounded ?_
      rcases level with k | k | k
      · exact .inl k
      · exact .inr k
      · exact absurd h k
  have cause : s.silenced.levelled.drive.silenceCause = (s.radio.profile.silenceAction != .none) := rfl
  have levels : s.silenced.levelled.drive.level = s.silenced.protectionLevel := rfl
  have target : s.silenced.levelled.drive.target = s.drive.target := rfl
  have begins : s.Follows s.silenced := .of_keeps (s.keeps_withRadio _)
  have attends : s.silenced.AttendsAs s := .of_frame set
  unfold State.silenceTaken State.silenceHanded
  rw [drive] at held
  generalize s.silenced.recomputeProtection = u at *
  have unradio : u.radio = s.silenced.radio := keeps.same .radio
  have samelevel : s.silenced.protectionLevel = u.protectionLevel :=
    (State.protectionLevel_of_slots (congrArg Sequencer.slots (keeps.same .sequencer))
      (congrArg Sequencer.profile (keeps.same .sequencer)) unradio).symm
  have hlevel : u.drive.level = u.protectionLevel := ((stores.same .level).trans levels).trans samelevel
  have hcause : u.drive.silenceCause = (s.radio.profile.silenceAction != .none) := (stores.same .silenceCause).trans cause
  have htarget : u.drive.target = s.drive.target := (stores.same .target).trans target
  have frame : s.SameExcept u Component.ofSilence :=
    State.sameExcept_trans (State.sameExcept_mono set (by decide)) (State.sameExcept_mono keeps.frame (by decide))
  have shown (h : steady) : u.AttendsAs s := attends.trans (.of_shows (quiet h))
  cases hc : s.radio.profile.clearTarget with
  | false =>
    rw [if_neg (by simp)]
    exact ⟨unradio, hlevel, hcause, nofun, fun _ => htarget, fun _ h => absurd (hc.symm.trans h.1) nofun,
      fun h _ => shown h, begins.trans follows, frame⟩
  | true =>
    rw [if_pos rfl, htarget]
    obtain ⟨t', halted, locked, raises, quietly⟩ := u.writeTarget_none s.drive.target.direction .radio
    obtain ⟨kept, -, -⟩ := u.writeTarget_kept 0 s.drive.target.direction .radio
    have keeps' := u.keeps_writeTarget 0 s.drive.target.direction .radio
    have follows' := u.follows_writeTarget 0 s.drive.target.direction .radio
    generalize u.writeTarget 0 s.drive.target.direction .radio = t at *
    have level' : u.protectionLevel = t.protectionLevel :=
      (State.protectionLevel_of_slots (congrArg Sequencer.slots (keeps'.same .sequencer))
        (congrArg Sequencer.profile (keeps'.same .sequencer)) (keeps'.same .radio)).symm
    refine ⟨(keeps'.same .radio).trans unradio, ((kept.same .level).trans hlevel).trans level', (kept.same .silenceCause).trans hcause, fun _ => ⟨t', halted, locked⟩,
      nofun, fun h k => ((shown h).raise .drive).trans (raises (held.mpr k.2)), fun h k =>
        (shown h).trans (quietly (held.not.mpr fun e => k ⟨hc, e⟩)), begins.trans (follows.trans follows'), ?_⟩
    exact State.sameExcept_trans frame (State.sameExcept_mono keeps'.frame (by decide))

/-- A matched frame that ends silence, by what the drive takes (R149). -/
theorem State.frameHeard_restores (h : s.radio.silence = .silent) :
    s.frameHeard = (((s.withRadio s.restored).event .radioRestored 1#8 (BitVec.ofNat 16 s.radio.elapsed)).raise
      .silence).recomputeProtection.writeRadioReadings :=
  s.frameHeard_silent h

end

/-- Settles O37: the silence cause can only hold the drive further, so that what is announced is the events of silence
itself and DRIVE where a clearing of the target releases the drive. -/
theorem silenceBeginsAndEnds : Obligations.SilenceBeginsAndEnds := by
  intro s r timeout clears steady
  refine ⟨fun h => ?_, fun h hq => ?_, fun h => ?_, fun h ht => s.frameHeard_unarmed h ht, fun h ht => ?_, fun h => ?_, fun h => ?_⟩
  · show execSilenceTimerExpiry s = _
    unfold execSilenceTimerExpiry
    rw [if_neg (by rw [h]; nofun)]
  · obtain ⟨radio, level, cause, cleared, kept, raises, quietly, follows, frame⟩ := s.silenceTaken_eq
    rw [exec_silenceTimerExpiry s h]
    generalize s.silenceTaken = u at *
    have announced := (u.keeps_event .radioSilent 0#8 (BitVec.ofNat 16 r.profile.silenceTimeout)).mono
      (m := [.events, .eventSeq, .attention, .store]) |>.trans
        ((State.keeps_raise _ .silence).mono.trans (State.keeps_writeRadioReadings _).mono)
    have readings := State.keeps_writeRadioReadings ((u.event .radioSilent 0#8 (BitVec.ofNat 16 r.profile.silenceTimeout)).raise .silence)
    have told (x : State) (hx : u.AttendsAs x) := (hx.event .radioSilent 0#8 (BitVec.ofNat 16 r.profile.silenceTimeout)).raise .silence
    generalize ((u.event .radioSilent 0#8 (BitVec.ofNat 16 r.profile.silenceTimeout)).raise .silence) = v at *
    generalize v.writeRadioReadings = w at *
    have whole : s.SameExcept w Component.ofSilence :=
      State.sameExcept_trans frame (State.sameExcept_mono announced.frame (by decide))
    have voices (hp : s.part ≠ .run) : w.sound.voices = s.sound.voices :=
      (congrArg Sound.voices (announced.same .sound)).trans (follows.voices hp)
    obtain ⟨a, settled, -⟩ := State.settleQuiesce_withAcks
      (hq.unfinished (whole .part (by decide)) (whole .acks (by decide)) voices (whole .adoption (by decide)))
    have drive : w.drive = u.drive := announced.same .drive
    have events (x : State) (hx : u.AttendsAs x) : w.EventsAs ((x.event .radioSilent 0#8 (BitVec.ofNat 16 r.profile.silenceTimeout)).raise .silence) := by
      obtain ⟨-, e, q, at'⟩ := told x hx
      exact ⟨(readings.same .events).trans e, (readings.same .eventSeq).trans q, (readings.same .attention).trans at'⟩
    have level' : u.protectionLevel = w.protectionLevel :=
      (State.protectionLevel_of_slots (congrArg Sequencer.slots (announced.same .sequencer))
        (congrArg Sequencer.profile (announced.same .sequencer)) (announced.same .radio)).symm
    refine ⟨w.withAcks a, congrArg _ settled, (announced.same .radio).trans radio, ?_, ?_, fun hc => ?_, fun hc => ?_,
      fun hs k => events _ (raises (hs.imp_right And.right) k), fun hs k => events _ (quietly (hs.imp_right And.right) k), ?_⟩
    · show w.drive.level = w.protectionLevel
      rw [drive, level, level']
    · show w.drive.silenceCause = _
      rw [drive, cause]
    · show w.drive.target = _ ∧ w.drive.state ≠ _ ∧ w.drive.state ≠ _
      rw [drive]
      exact cleared hc
    · show w.drive.target = _
      rw [drive]
      exact kept hc
    · exact State.sameExcept_trans (State.sameExcept_mono whole (by decide))
        (State.sameExcept_mono (w.sameExcept_withAcks a) (by decide))
  · show execElapsedTick s = _
    unfold execElapsedTick
    rw [if_pos h]
    rfl
  · rw [s.frameHeard_arms h ht]
    refine ⟨(State.keeps_writeRadioReadings _).same .radio, ?_⟩
    exact State.sameExcept_trans (State.sameExcept_mono (s.sameExcept_withRadio _) (by decide))
      (State.sameExcept_trans (State.sameExcept_mono (State.sameExcept_withRadio _ _) (by decide))
        (State.sameExcept_mono (State.keeps_writeRadioReadings _).frame (by decide)))
  · have stays : { r with
      silence := .listening
      silenceTimer := timeout } = { r with silenceTimer := timeout } := by rw [← h]
    exact (s.frameHeard_listening h).trans (congrArg s.withRadio stays)
  · intro t heard
    have ht : t = _ := s.frameHeard_restores h
    have set := s.keeps_withRadio s.restored
    have attends : (s.withRadio s.restored).AttendsAs s := .of_keeps set
    have announced := (State.keeps_event (s.withRadio s.restored) .radioRestored 1#8 (BitVec.ofNat 16 r.elapsed)).mono
      (m := [.events, .eventSeq, .attention]) |>.trans (State.keeps_raise _ .silence).mono
    have told := (attends.event .radioRestored 1#8 (BitVec.ofNat 16 r.elapsed)).raise .silence
    have drive : (s.withRadio s.restored).drive = s.drive := rfl
    have radio : (s.withRadio s.restored).radio = heard := rfl
    have functions : (s.withRadio s.restored).functions = s.functions := rfl
    have inbound : (s.withRadio s.restored).inbound = s.inbound := rfl
    show t.radio = heard ∧ t.EventsAs ((((s.withRadio s.restored).event .radioRestored 1#8 (BitVec.ofNat 16 r.elapsed)).raise
          .silence).recomputeProtection) ∧ _
    have hx : t = ((((s.withRadio s.restored).event .radioRestored 1#8 (BitVec.ofNat 16 r.elapsed)).raise
          .silence).recomputeProtection).writeRadioReadings := ht
    generalize s.withRadio s.restored = v at *
    generalize ((v.event .radioRestored 1#8 (BitVec.ofNat 16 r.elapsed)).raise .silence) = x at *
    have xdrive : x.drive = s.drive := (announced.same .drive).trans drive
    have xradio : x.radio = heard := (announced.same .radio).trans radio
    have keeps := x.keeps_recomputeProtection
    have stores := x.recomputeProtection_stores
    have quiet (hm : s.drive.profile.momentum ≠ .off) := (x.recomputeProtection_shows (by rwa [xdrive])).1
    have cause : x.levelled.drive.silenceCause = (x.radio.silenceLevel != .none) := rfl
    have levels : x.levelled.drive.level = x.protectionLevel := rfl
    have target : x.levelled.drive.target = x.drive.target := rfl
    generalize x.recomputeProtection = y at *
    have readings := y.keeps_writeRadioReadings
    rw [← hx] at readings
    have whole := (keeps.mono (m := Component.ofSilence)).trans readings.mono
    have level' : x.protectionLevel = t.protectionLevel :=
      (State.protectionLevel_of_slots (congrArg Sequencer.slots (whole.same .sequencer))
        (congrArg Sequencer.profile (whole.same .sequencer)) ((readings.same .radio).trans (keeps.same .radio))).symm
    have tdrive : t.drive = y.drive := readings.same .drive
    refine ⟨((readings.same .radio).trans (keeps.same .radio)).trans xradio,
      ⟨readings.same .events, readings.same .eventSeq, readings.same .attention⟩, fun hm => ?_, ?_, ?_, ?_,
      (whole.same .functions).trans ((announced.same .functions).trans functions),
      (whole.same .inbound).trans ((announced.same .inbound).trans inbound)⟩
    · obtain ⟨-, e, q, a⟩ := told
      have shown := quiet hm
      exact ⟨(readings.same .events).trans ((shown.same .events).trans e),
        (readings.same .eventSeq).trans ((shown.same .eventSeq).trans q),
        (readings.same .attention).trans ((shown.same .attention).trans a)⟩
    · rw [tdrive, stores.same .silenceCause, cause, xradio]
      rfl
    · rw [tdrive, stores.same .level, levels, level']
    · rw [tdrive, stores.same .target, target, xdrive]

end Sys2Proof.Machine

/-! ## The writing of function flags, and the routing of accepted commands -/

namespace Sys2Proof.Machine

-- One proof at a time: proofs that wait for one another would each hold a thread.
set_option Elab.async false

/-! ### Starts and stops, by the engine and the part state alone -/

/-- The engine after a START, with the result (R124, R125). -/
def Sound.start (e : Sound) (part : PartState) (n : Nat) (gain : Option Nat) : Sound × CueResult :=
  if part ≠ .run then (e, .none)
  else if e.bank ≠ .ready then ({ e with noBank := e.noBank + 1#16 }, .noBank)
  else match e.cue n with
    | none => ({ e with noCue := e.noCue + 1#16 }, .noCue)
    | some r =>
      match e.holder n with
      | some v => if r.kind = kindHeld then (e, .ok) else (e.startVoice v n r (gain.getD r.gain), .ok)
      | none =>
        match e.freeVoice with
        | some v => (e.startVoice v n r (gain.getD r.gain), .ok)
        | none =>
          match e.victim r.priority with
          | some v => ({ e.startVoice v n r (gain.getD r.gain) with steals := e.steals + 1#16 }, .ok)
          | none => ({ e with noVoice := e.noVoice + 1#16 }, .noVoice)

/-- The engine once its voices have changed (R132). -/
def Sound.settled (e : Sound) (timer : Timer) (voices : Vector Voice 6) : Sound :=
  let x := { e with voices := voices, order := e.order.filter fun v => voices[v].busy }
  if e.anyBusy && !x.anyBusy then { x with ampTimer := timer } else x

/-- The engine after a STOP, with the result (R126). -/
def Sound.stop (e : Sound) (active : Bool) (timer : Timer) (n : Nat) : Sound × CueResult :=
  if !active then (e, .none)
  else if e.bank ≠ .ready then ({ e with noBank := e.noBank + 1#16 }, .noBank)
  else match e.cue n with
    | none => ({ e with noCue := e.noCue + 1#16 }, .noCue)
    | some r =>
      match e.holder n with
      | none => (e, .ok)
      | some v => (e.settled timer (vecModify e.voices v fun x => x.stop r), .ok)

/-- A START, by its engine's: a refusal for want of a voice raises its event. -/
theorem State.startCue_eq (s : State) (n : Nat) (gain : Option Nat) (source : CueSource) :
    (s.startCue n gain source).2 = (s.sound.start s.part n gain).2 ∧
      (s.startCue n gain source).1 =
        if (s.sound.start s.part n gain).2 = .noVoice then
          (s.withSound (s.sound.start s.part n gain).1).event .cueRefused (BitVec.ofNat 8 n) (BitVec.ofNat 16 source.code)
        else s.withSound (s.sound.start s.part n gain).1 := by
  rcases s.startCue_cases n gain source with ⟨p, e⟩ | ⟨p, b, e⟩ | ⟨p, b, q, e⟩ | ⟨r, p, b, q, voice⟩
  · rw [e, show s.sound.start s.part n gain = (s.sound, .none) from if_pos p]
    exact ⟨rfl, rfl⟩
  · simp [e, Sound.start, p, b]
  · simp [e, Sound.start, p, b, q]
  · rcases voice with ⟨v, hold, k, e⟩ | ⟨v, hold, k, e⟩ | ⟨v, hold, f, e⟩ | ⟨v, hold, f, w, e⟩ | ⟨hold, f, w, e⟩
    · rw [e, show s.sound.start s.part n gain = (s.sound, .ok) by simp [Sound.start, p, b, q, hold, k]]
      exact ⟨rfl, rfl⟩
    · simp [e, Sound.start, p, b, q, hold, k]
    · simp [e, Sound.start, p, b, q, hold, f]
    · simp [e, Sound.start, p, b, q, hold, f, w]
    · simp [e, Sound.start, p, b, q, hold, f, w, State.refuseNoVoice]

/-- A STOP, by its engine's. -/
theorem State.stopCue_eq (s : State) (n : Nat) :
    s.stopCue n = (s.withSound (s.sound.stop s.part.active (s.startTimer ampHoldInterval) n).1,
      (s.sound.stop s.part.active (s.startTimer ampHoldInterval) n).2) := by
  rcases s.stopCue_cases n with ⟨p, e⟩ | ⟨p, b, e⟩ | ⟨p, b, q, e⟩ | ⟨r, p, b, q, ⟨hold, e⟩ | ⟨v, hold, e⟩⟩
  · simp only [e, Sound.stop, p]
    rfl
  · simp [e, Sound.stop, p, b]
  · simp [e, Sound.stop, p, b, q]
  · simp only [e, Sound.stop, p, b, q, hold]
    rfl
  · simp only [e, Sound.stop, p, b, q, hold]
    rfl

/-! ### The sound engine depends on little -/

/-- `t` plays as `s` does: the sound engine, and what events and raises depend on, are the same (R124 to R126). -/
def State.PlaysAs (t s : State) : Prop := t.sound = s.sound ∧ t.AttendsAs s

namespace State.PlaysAs
variable {s t u : State}

theorem refl (s : State) : s.PlaysAs s := ⟨rfl, .refl s⟩

theorem trans (h : t.PlaysAs s) (k : u.PlaysAs t) : u.PlaysAs s := ⟨k.1.trans h.1, h.2.trans k.2⟩

theorem withSound (h : t.PlaysAs s) (e : Sound) : (t.withSound e).PlaysAs (s.withSound e) := ⟨rfl, h.2⟩

theorem event (h : t.PlaysAs s) (k : EventKind) (subject : Byte) (detail : Half) :
    (t.event k subject detail).PlaysAs (s.event k subject detail) :=
  ⟨((t.keeps_event k subject detail).same .sound).trans (h.1.trans ((s.keeps_event k subject detail).same .sound).symm),
    h.2.event k subject detail⟩

theorem of_shows {l : List Component} (h : s.Shows t l)
    (hl : .part ∉ l ∧ .time ∉ l ∧ .events ∉ l ∧ .eventSeq ∉ l ∧ .attention ∉ l := by decide)
    (hs : .sound ∉ l := by decide) : t.PlaysAs s := ⟨h.same .sound hs, .of_shows h hl⟩

/-- A START does the same. -/
theorem startCue (h : t.PlaysAs s) (n : Nat) (gain : Option Nat) (source : CueSource) :
    (t.startCue n gain source).1.PlaysAs (s.startCue n gain source).1 := by
  have part : t.part = s.part := h.2.1.1
  rw [(t.startCue_eq n gain source).2, (s.startCue_eq n gain source).2, h.1, part]
  split
  · exact (h.withSound _).event _ _ _
  · exact h.withSound _

/-- A STOP does the same. -/
theorem stopCue (h : t.PlaysAs s) (n : Nat) : (t.stopCue n).1.PlaysAs (s.stopCue n).1 := by
  obtain ⟨sound, ⟨part, time, -⟩, -⟩ := id h
  rw [t.stopCue_eq, s.stopCue_eq, sound, part, State.startTimer, time]
  exact h.withSound _

theorem functionEdge (h : t.PlaysAs s) (cue : Nat) (on : Bool) :
    (t.functionEdge cue on).PlaysAs (s.functionEdge cue on) := by
  unfold State.functionEdge
  rw [h.1]
  split
  · split
    · exact h
    · exact h.startCue _ _ _
  · split
    · exact h.stopCue _
    · exact h

end State.PlaysAs

section
variable (s : State)

/-- A changed flag acts on the sound engine by its function's entry (R128). -/
theorem State.soundEdge_eq (n : Fin 32) (on : Bool) : s.soundEdge n on = s.functionEdge s.functions.map[n].cue on := by
  have held (c : Nat) : s.sound.isHeldCue c = true ↔
      s.sound.bank = .ready ∧ (s.sound.cue c).map (·.kind) = some 1 := by
    cases hc : s.sound.cue c <;> simp [Sound.isHeldCue, hc, kindHeld]
  unfold State.soundEdge State.functionEdge
  simp only [held]

/-! ### Activity and the enabled value (R90, R105, R110) -/

/-- The lamps' activity as it has been worked out anew from `s`: a lamp at its activation edge restarts its counter
(R105, R110). -/
def State.Activated (s t : State) : Prop :=
  ∀ k : Fin 8, t.lamps.lamps[k].active = s.lampWanted k ∧
    (s.lampWanted k = true → s.lamps.lamps[k].active = false →
      t.lamps.lamps[k].phase = .a ∧ t.lamps.lamps[k].count = 0) ∧
    (s.lampWanted k = false ∨ s.lamps.lamps[k].active = true →
      t.lamps.lamps[k].phase = s.lamps.lamps[k].phase ∧ t.lamps.lamps[k].count = s.lamps.lamps[k].count)

/-- The lamp records before the levels are formed again. -/
def State.activity (s : State) : Vector Lamp 8 :=
  let wanted := vecTab 8 s.lampWanted
  vecTab 8 fun k =>
    let l := { s.lamps.lamps[k] with active := wanted[k] }
    if s.lampEdges.contains k then l.restart else l

theorem State.activity_get (k : Fin 8) :
    s.activity[k].active = s.lampWanted k ∧
    (s.lampWanted k = true → s.lamps.lamps[k].active = false → s.activity[k].phase = .a ∧ s.activity[k].count = 0) ∧
    (s.lampWanted k = false ∨ s.lamps.lamps[k].active = true →
      s.activity[k].phase = s.lamps.lamps[k].phase ∧ s.activity[k].count = s.lamps.lamps[k].count) := by
  have edge : s.lampEdges.contains k = true ↔ s.lampWanted k = true ∧ s.lamps.lamps[k].active = false := by
    simp [State.lampEdges]
  have e : s.activity[k] = if s.lampEdges.contains k then
      ({ s.lamps.lamps[k] with active := s.lampWanted k } : Lamp).restart
      else { s.lamps.lamps[k] with active := s.lampWanted k } := by
    unfold State.activity
    simp only [vecTab_get]
  rw [e]
  split
  · refine ⟨rfl, fun _ _ => ⟨rfl, rfl⟩, fun h => ?_⟩
    obtain ⟨w, a⟩ := edge.mp ‹_›
    simp_all
  · exact ⟨rfl, fun w a => absurd (edge.mpr ⟨w, a⟩) ‹_›, fun _ => ⟨rfl, rfl⟩⟩

/-- A working-out of activity: the lamps' records, and of their unit what stands. -/
theorem State.workOutActivity_eq :
    s.Activated s.workOutActivity ∧ s.workOutActivity.lamps.profile = s.lamps.profile ∧
      s.workOutActivity.lamps.directive = s.lamps.directive ∧ s.Shows s.workOutActivity Component.ofLamps := by
  let u := s.withLamps { s.lamps with lamps := s.activity }
  let v := if s.lampEdges.isEmpty && s.lampDrops.isEmpty then u else u.formLamps
  have e : s.workOutActivity = if s.lampEdges.isEmpty then v else v.writeLampReadings := rfl
  have formed : u.lamps.SameCounters v.lamps ∧ v.lamps.directive = s.lamps.directive ∧ s.Shows v [.lamps] := by
    have set : s.Shows u [.lamps] := .of_frame (s.sameExcept_withLamps _)
    unfold v
    split
    · exact ⟨⟨rfl, rfl, rfl, rfl, rfl, fun _ => ⟨rfl, rfl, rfl⟩⟩, rfl, set⟩
    · exact ⟨u.formLamps_counters, by rw [u.formLamps_eq]; rfl, set.trans (.of_frame u.sameExcept_formLamps)⟩
  have lamps : s.workOutActivity.lamps = v.lamps := by
    rw [e]
    split
    · rfl
    · exact (State.keeps_writeLampReadings _).same .lamps
  obtain ⟨⟨profile, -, -, -, -, counters⟩, directive, shown⟩ := formed
  rw [lamps]
  refine ⟨fun k => ?_, profile, directive, ?_⟩
  · obtain ⟨active, phase, count⟩ := counters k
    rw [lamps, active, phase, count]
    exact s.activity_get k
  · rw [e]
    exact shown.mono.trans (.ite (fun _ => .refl _ _) fun _ => (State.shows_writeGroup _ _ _ _).mono)

theorem State.lampWanted_congr {s t : State} (hf : t.functions = s.functions) (hd : t.lamps.directive = s.lamps.directive) :
    t.lampWanted = s.lampWanted := by
  funext k
  unfold State.lampWanted
  rw [hf, hd]

theorem State.smokeWanted_congr {s t : State} (hf : t.functions = s.functions) (hd : t.smoke.directive = s.smoke.directive) :
    t.smokeWanted = s.smokeWanted := by
  unfold State.smokeWanted
  rw [hf, hd]

/-- The parts of the smoke unit that a change of the enabled value leaves. -/
theorem State.smokeEnableActs_kept : s.smokeEnableActs.smoke.enabled = s.smoke.enabled ∧
    s.smokeEnableActs.smoke.directive = s.smoke.directive ∧ s.Shows s.smokeEnableActs [.smoke] := by
  unfold State.smokeEnableActs
  split
  · split
    · split
      · exact ⟨rfl, rfl, .of_frame (s.sameExcept_withSmoke _)⟩
      · exact ⟨rfl, rfl, .of_frame (s.sameExcept_withSmoke _)⟩
    all_goals exact ⟨rfl, rfl, .refl _ _⟩
  · split
    iterate 3 exact ⟨rfl, rfl, .of_frame (s.sameExcept_withSmoke _)⟩
    all_goals exact ⟨rfl, rfl, .refl _ _⟩

theorem State.smokeMoved_kept (old : SmokeState) : (s.smokeMoved old).smoke.enabled = s.smoke.enabled ∧
    (s.smokeMoved old).smoke.directive = s.smoke.directive := by
  unfold State.smokeMoved
  dsimp only
  split
  · exact ⟨rfl, rfl⟩
  · have smoke : s.rereadFan.writeSmokeReadings.smoke = s.rereadFan.smoke := (State.keeps_writeSmokeReadings _).same .smoke
    rw [smoke]
    exact ⟨rfl, rfl⟩

/-- The enabled value worked out again is the one the flags and the directive give (R90). -/
theorem State.reevaluateSmoke_eq :
    s.reevaluateSmoke.smoke.enabled = s.smokeWanted ∧ s.reevaluateSmoke.smoke.directive = s.smoke.directive ∧
      s.Shows s.reevaluateSmoke Component.ofSmoke := by
  unfold State.reevaluateSmoke
  split
  · exact ⟨(‹s.smokeWanted = _›).symm, rfl, .refl _ _⟩
  · obtain ⟨enabled, directive, shown⟩ := (s.withSmoke { s.smoke with enabled := s.smokeWanted }).smokeEnableActs_kept
    have set : s.Shows (s.withSmoke { s.smoke with enabled := s.smokeWanted }) [.smoke] := .of_frame (s.sameExcept_withSmoke _)
    obtain ⟨enabled', directive'⟩ :=
      (s.withSmoke { s.smoke with enabled := s.smokeWanted }).smokeEnableActs.smokeMoved_kept s.smoke.state
    exact ⟨enabled'.trans enabled, directive'.trans directive, (set.trans shown).mono.trans (State.shows_smokeMoved _ _)⟩

/-! ### A write of flags (R152) -/

/-- The functions whose state a write changes. -/
def State.Changes (s : State) (write : Fin 32 → Option Bool) (n : Fin 32) : Prop :=
  write n = some (!s.functions.flags[n].on)

/-- The state with the flags written. -/
def State.flagged (s : State) (write : Fin 32 → Option Bool) (source : Source) : State :=
  s.withFunctions { s.functions with flags := writtenFlags s.functions.flags write source }

theorem State.flagged_get (write : Fin 32 → Option Bool) (source : Source) (n : Fin 32) :
    (s.flagged write source).functions.flags[n] = (match write n with
      | some on => ⟨on, source⟩
      | none => s.functions.flags[n]) :=
  vecTab_get _ _ _

theorem State.changedFlags_mem (write : Fin 32 → Option Bool) (source : Source) (n : Fin 32) :
    n ∈ changedFlags s.functions.flags (s.flagged write source).functions.flags ↔ s.Changes write n := by
  rw [changedFlags, List.mem_filter, State.flagged_get, State.Changes]
  cases hw : write n with
  | none => simp
  | some on => cases on <;> cases hf : s.functions.flags[n].on <;> simp [-Fin.getElem_fin]

/-- The state as a change of flags has been handed to the lamps and the smoke unit. -/
def State.handed (s : State) (write : Fin 32 → Option Bool) (source : Source) : State :=
  (s.flagged write source).workOutActivity.reevaluateSmoke

theorem State.writeFunctions_unchanged (write : Fin 32 → Option Bool) (source : Source) (h : ∀ n, ¬ s.Changes write n) :
    s.writeFunctions write source = s.flagged write source := by
  refine if_pos (List.isEmpty_iff.mpr (List.eq_nil_iff_forall_not_mem.mpr fun n hn => h n ?_))
  exact (s.changedFlags_mem write source n).mp hn

theorem State.writeFunctions_changed (write : Fin 32 → Option Bool) (source : Source) (h : ∃ n, s.Changes write n) :
    s.writeFunctions write source =
      (changedFlags s.functions.flags (s.flagged write source).functions.flags).foldl
        (fun u n => u.soundEdge n u.functions.flags[n].on) (s.handed write source) := by
  obtain ⟨n, hn⟩ := h
  refine if_neg fun he => ?_
  have mem := (s.changedFlags_mem write source n).mpr hn
  rw [show changedFlags s.functions.flags (s.flagged write source).functions.flags = [] from List.isEmpty_iff.mp he] at mem
  exact absurd mem (List.not_mem_nil)

/-- The hand-off to the sound engine is that of the edges, in number order (R128, R152). -/
theorem State.writeFunctions_plays (write : Fin 32 → Option Bool) (source : Source) (h : ∃ n, s.Changes write n) :
    (s.writeFunctions write source).PlaysAs (s.functionEdges write) := by
  have start : (s.handed write source).PlaysAs s ∧
      (s.handed write source).functions = (s.flagged write source).functions := by
    obtain ⟨-, -, -, shown⟩ := (s.flagged write source).workOutActivity_eq
    obtain ⟨-, -, shown'⟩ := (s.flagged write source).workOutActivity.reevaluateSmoke_eq
    have set : s.Shows (s.flagged write source) [.functions] := .of_frame (s.sameExcept_withFunctions _)
    exact ⟨((State.PlaysAs.of_shows set).trans (.of_shows shown)).trans (.of_shows shown'),
      (shown'.same .functions).trans (shown.same .functions)⟩
  rw [s.writeFunctions_changed write source h]
  unfold State.functionEdges changedFlags
  rw [List.foldl_filter]
  have map : (s.flagged write source).functions.map = s.functions.map := rfl
  refine (List.foldl_rel (r := fun u v : State => u.PlaysAs v ∧ u.functions = (s.flagged write source).functions) start
    fun n _ u v hu => ?_).1
  obtain ⟨plays, functions⟩ := hu
  have written := s.flagged_get write source n
  have edge (on : Bool) : (u.soundEdge n on).PlaysAs (v.functionEdge s.functions.map[n].cue on) ∧
      (u.soundEdge n on).functions = (s.flagged write source).functions := by
    refine ⟨?_, ((u.keeps_soundEdge n on).same .functions).trans functions⟩
    rw [u.soundEdge_eq, functions, map]
    exact plays.functionEdge _ _
  rw [functions, written]
  cases hw : write n with
  | none => simpa using ⟨plays, functions⟩
  | some on =>
    by_cases same : on = s.functions.flags[n].on
    · simpa [-Fin.getElem_fin, same] using ⟨plays, functions⟩
    · simpa [-Fin.getElem_fin, same, Ne.symm same] using edge on

/-- A write of function flags (R152). -/
theorem State.writeFunctions_eq (write : Fin 32 → Option Bool) (source : Source) :
    let t := s.writeFunctions write source
    t.functions = (s.flagged write source).functions ∧
    ((∃ n, s.Changes write n) →
      (s.flagged write source).Activated t ∧ t.lampWanted = (s.flagged write source).lampWanted ∧
        t.smoke.enabled = t.smokeWanted) := by
  intro t
  by_cases h : ∃ n, s.Changes write n
  · have ht : t = _ := s.writeFunctions_changed write source h
    obtain ⟨activated, -, directive, shown⟩ := (s.flagged write source).workOutActivity_eq
    obtain ⟨enabled, directive', shown'⟩ := (s.flagged write source).workOutActivity.reevaluateSmoke_eq
    have fold (l : List (Fin 32)) (u : State) :
        u.Keeps (l.foldl (fun u n => u.soundEdge n u.functions.flags[n].on) u) Component.ofCue :=
      .foldl (fun s n => s.keeps_soundEdge n _) _ _
    have edges := fold (changedFlags s.functions.flags (s.flagged write source).functions.flags) (s.handed write source)
    rw [← ht] at edges
    have lamps : t.lamps = (s.flagged write source).workOutActivity.lamps := (edges.same .lamps).trans (shown'.same .lamps)
    have smoke : t.smoke = (s.handed write source).smoke := edges.same .smoke
    have functions : t.functions = (s.flagged write source).functions :=
      (edges.same .functions).trans ((shown'.same .functions).trans (shown.same .functions))
    refine ⟨functions, fun _ => ⟨?_, State.lampWanted_congr functions (by rw [lamps, directive]), ?_⟩⟩
    · unfold State.Activated
      rw [lamps]
      exact activated
    · rw [smoke, show (s.handed write source).smoke.enabled = _ from enabled]
      refine (State.smokeWanted_congr (functions.trans (shown.same .functions).symm) ?_).symm
      rw [smoke]
      exact directive'
  · have ht : t = _ := s.writeFunctions_unchanged write source (not_exists.mp h)
    rw [ht]
    exact ⟨rfl, fun k => absurd k h⟩

end

end Sys2Proof.Machine

/-! ## The routing of accepted commands -/

namespace Sys2Proof.Machine

-- One proof at a time: proofs that wait for one another would each hold a thread.
set_option Elab.async false

section
variable (s : State)

/-- An accepted command by its routing (R146). -/
theorem State.route_eq (sent : Heard) (apply : State → State) {order : Nat} (ho : order < 2) :
    s.route .ignore sent apply order = s ∧
    s.route .apply sent apply order = apply s ∧
    s.route .forward sent apply order = s.forward sent ∧
    s.route .both sent apply order = (if order = 0 then (apply s).forward sent else apply (s.forward sent)) := by
  have one (x : State → State) (k : Nat) : arrange [x] k = [x] := by simp [arrange, Nat.mod_one]
  refine ⟨rfl, ?_, ?_, ?_⟩
  · simp [State.route, Routing.applies, Routing.forwards, one]
  · simp [State.route, Routing.applies, Routing.forwards, one]
  · interval_cases order <;> simp [State.route, Routing.applies, Routing.forwards, arrange]

/-- A forward keeps the profile of the receiver. -/
theorem State.forward_profile (h : Heard) : (s.forward h).radio.profile = s.radio.profile := by
  cases room : s.inboundRoom with
  | some i => rw [s.forward_fill h room]; simp
  | none => 
    rw [s.forward_drop h room]
    exact (congrArg Radio.profile (((State.keeps_raise _ _).same .radio).trans ((State.keeps_event _ _ _ _).same .radio))).trans rfl

theorem State.passed_profile (f : Frame) (via : Via) : (s.passed f via).radio.profile = s.radio.profile := by
  obtain ⟨_, _, _, _, e⟩ := s.judging.listened_counts via
  show (s.judging.listened via).radio.profile = _
  rw [e]
  rfl

theorem switchOfCode_of_le {n : Nat} (h : n ≤ 1) : switchOfCode n = some (decide (n = 1)) :=
  match n, h with
  | 0, _ => rfl
  | 1, _ => rfl

variable {s} {f : Frame} {via : Via} {order : Nat} {kind : Nat → Bool} {act : State → Heard → State} {c : Instr}

/-- A row that takes a frame whose command passes its checks. -/
theorem TakesFrame.exec_passes (h : TakesFrame order c kind act) (hp : s.Passes f via) (hk : kind f.command = true) :
    exec c s = .next (act (s.passed f via) (f.heard via)) := by
  rw [h.exec_eq, State.takeFrame_passes hp hk]

end

/-- Settles O35: a row takes a frame that passes by its routing, and a write of flags hands its edges on. -/
theorem acceptedCommandsAreRouted : Obligations.AcceptedCommandsAreRouted := by
  refine ⟨fun s f via order ho hp => ?_, fun s write source => ?_⟩
  · intro u h p byte routed
    have profile : u.radio.profile = p := s.passed_profile f via
    have key (routing : Routing) (sent : Heard) (k : Nat) (hk : k < 2) (a a' : State → State)
        (same : ∀ w : State, w.radio.profile = p → a w = a' w) :
        .next (u.route routing sent a k) = routed routing sent k a' := by
      obtain ⟨ignore, apply, forward, both⟩ := u.route_eq sent a hk
      cases routing
      · rw [ignore]
      · rw [apply, same u profile]
      · rw [forward]
      · rw [both, same u profile, same _ ((u.forward_profile sent).trans profile)]
    clear_value routed
    refine ⟨fun hc hl dir hd => ?_, fun hc => ?_, fun hc hl hn hb => ?_, fun hc hl hb => ?_, fun hc hl hn => ?_, fun hc hl => ?_,
      fun hlow hhigh => ?_⟩
    · rw [TakesFrame.speed.exec_passes hp (by simp [hc])]
      refine Eq.trans ?_ (key p.speed { h with payload := h.payload.set 0 (BitVec.ofNat 8 (min (byte 0) 120)) } order ho
        (fun w => w.applySpeed h (min (byte 0) 120) dir) _ fun w hw => ?_)
      · have accepted : ¬ h.payload.length < 2 := by omega
        have code : Direction.ofCode (u8At h.payload 1) = some dir := hd
        show Host.Outcome.next (u.takeSpeed h order) = _
        unfold State.takeSpeed
        simp only [if_neg accepted, code, profile]
        rfl
      · unfold State.applySpeed
        rw [hw]
        rfl
    · rw [TakesFrame.halt.exec_passes hp (by simp [hc])]
      show Host.Outcome.next (u.route u.radio.profile.halt h (fun s => s.halt .radio) order) = _
      rw [profile]
      exact key p.halt h order ho _ _ fun _ _ => rfl
    · rw [TakesFrame.function.exec_passes hp (by simp [hc])]
      refine Eq.trans ?_ (key p.function h order ho
        (fun w => w.writeFunctions (fun n => if n.val = byte 0 then some (byte 1 = 1) else none) .radio) _ fun _ _ => rfl)
      have accepted : ¬ (h.payload.length < 2 ∨ 31 < u8At h.payload 0) := by
        rintro (k | k)
        · omega
        · exact absurd hn (by show ¬ u8At h.payload 0 ≤ 31; omega)
      have code : switchOfCode (u8At h.payload 1) = some (decide (byte 1 = 1)) := switchOfCode_of_le hb
      show Host.Outcome.next (u.takeFunction h order) = _
      unfold State.takeFunction
      simp only [if_neg accepted, code, profile]
      rfl
    · rw [TakesFrame.functionGroup.exec_passes hp (by simp [hc])]
      refine Eq.trans ?_ (key p.functionGroup h order ho
        (fun w => w.writeFunctions (groupWrite (byte 0) (h.payload.getD 1 0#8)) .radio) _ fun _ _ => rfl)
      have accepted : ¬ (h.payload.length < 2 ∨ ¬ (byte 0 = 0 ∨ byte 0 = 8 ∨ byte 0 = 16 ∨ byte 0 = 24)) := by
        rintro (k | k)
        · omega
        · exact k hb
      show Host.Outcome.next (u.takeFunctionGroup h order) = _
      unfold State.takeFunctionGroup
      dsimp only
      rw [if_neg accepted, profile]
    · rw [TakesFrame.cue.exec_passes hp (by simp [hc])]
      refine Eq.trans ?_ (key p.cue h order ho (fun w => (w.cueRequest (byte 0) (byte 1) none .radio).1) _ fun w _ => ?_)
      · have accepted : ¬ (h.payload.length < 2 ∨ 63 < u8At h.payload 0) := by
          rintro (k | k)
          · omega
          · exact absurd hn (by show ¬ u8At h.payload 0 ≤ 63; omega)
        show Host.Outcome.next (u.takeCue h order) = _
        unfold State.takeCue
        dsimp only
        rw [if_neg accepted, profile]
      · unfold State.cueRequest
        split
        · rfl
        · split <;> rfl
    · rw [(TakesFrame.volume (order := 0)).exec_passes hp (by simp [hc])]
      refine Eq.trans ?_ (key p.volume h 0 (by decide) (fun w => w.withSound { w.sound with volume := byte 0 }) _ fun _ _ => rfl)
      show Host.Outcome.next (u.takeVolume h) = _
      unfold State.takeVolume
      rw [if_neg (by omega), profile]
    · rw [(TakesFrame.user (order := 0)).exec_passes hp (by simp [hlow, hhigh])]
      show Host.Outcome.next (u.route u.radio.profile.user h (fun s => s) 0) = _
      rw [profile]
      exact key p.user h 0 (by decide) _ _ fun _ _ => rfl
  · intro t changes
    obtain ⟨functions, handed⟩ := s.writeFunctions_eq write source
    refine ⟨fun n => ?_, fun h => ?_, fun h => ?_, (s.keeps_writeFunctions write source).frame⟩
    · show (s.writeFunctions write source).functions.flags[n] = _
      rw [functions, s.flagged_get write source n] <;> rfl
    · show s.SameExcept (s.writeFunctions write source) _
      rw [s.writeFunctions_unchanged write source h]
      exact s.sameExcept_withFunctions _
    · obtain ⟨activated, wanted, enabled⟩ := handed h
      obtain ⟨sound, -, events⟩ := s.writeFunctions_plays write source h
      refine ⟨fun k => ?_, enabled, sound, events⟩
      rw [(activated k).1, ← wanted]

end Sys2Proof.Machine

/-! ## The scan of the cue slots -/

namespace Sys2Proof.Machine

-- One proof at a time: proofs that wait for one another would each hold a thread.
set_option Elab.async false

/-! ### What a START and a STOP answer -/

/-- The result of a START (R124). -/
theorem Sound.start_result (e : Sound) (n : Nat) (gain : Option Nat) :
    ((e.start .run n gain).2 = .noBank ↔ e.bank ≠ .ready) ∧
    ((e.start .run n gain).2 = .noCue ↔ e.bank = .ready ∧ e.cue n = none) ∧
    (e.start .run n gain).2 ≠ .none ∧ (e.start .run n gain).2 ≠ .badAction := by
  unfold Sound.start
  rw [if_neg (by simp)]
  by_cases hb : e.bank = .ready
  · rw [if_neg (by simpa using hb)]
    cases hc : e.cue n with
    | none => simp [hb]
    | some r =>
      dsimp only
      split
      · split <;> simp [hb]
      · split
        · simp [hb]
        · split <;> simp [hb]
  · rw [if_pos hb]
    simp [hb]

/-- The result of a STOP (R126). -/
theorem Sound.stop_result (e : Sound) (timer : Timer) (n : Nat) :
    ((e.stop true timer n).2 = .noBank ↔ e.bank ≠ .ready) ∧
    ((e.stop true timer n).2 = .noCue ↔ e.bank = .ready ∧ e.cue n = none) ∧
    (e.stop true timer n).2 ≠ .none ∧ (e.stop true timer n).2 ≠ .badAction := by
  unfold Sound.stop
  rw [if_neg (by simp)]
  by_cases hb : e.bank = .ready
  · rw [if_neg (by simpa using hb)]
    cases hc : e.cue n with
    | none => simp [hb]
    | some r =>
      dsimp only
      split <;> simp [hb]
  · rw [if_pos hb]
    simp [hb]

/-- The engine with another scan timer. -/
def Sound.timed (e : Sound) (timer : Timer) : Sound := { e with scanTimer := timer }

/-- No START looks at the scan timer. -/
theorem Sound.start_timed (e : Sound) (timer : Timer) (part : PartState) (n : Nat) (gain : Option Nat) :
    (e.timed timer).start part n gain = ((e.start part n gain).1.timed timer, (e.start part n gain).2) := by
  have cue : (e.timed timer).cue n = e.cue n := rfl
  have holder : (e.timed timer).holder n = e.holder n := rfl
  have free : (e.timed timer).freeVoice = e.freeVoice := rfl
  have victim (p : Nat) : (e.timed timer).victim p = e.victim p := rfl
  unfold Sound.start
  rw [cue, holder, free]
  by_cases hp : part = .run
  · by_cases hb : e.bank = .ready
    · have hb' : ¬ (e.timed timer).bank ≠ .ready := fun k => k hb
      rw [if_neg (by simpa using hp), if_neg hb', if_neg (by simpa using hp), if_neg (by simpa using hb)]
      cases e.cue n with
      | none => rfl
      | some r =>
        dsimp only
        rw [victim]
        cases e.holder n with
        | some v =>
          dsimp only
          split <;> rfl
        | none =>
          cases e.freeVoice with
          | some v => rfl
          | none => cases e.victim r.priority <;> rfl
    · have hb' : (e.timed timer).bank ≠ .ready := hb
      rw [if_neg (by simpa using hp), if_pos hb', if_neg (by simpa using hp), if_pos hb]
      rfl
  · rw [if_pos hp, if_pos hp]

/-- No STOP looks at the scan timer. -/
theorem Sound.stop_timed (e : Sound) (timer : Timer) (active : Bool) (t : Timer) (n : Nat) :
    (e.timed timer).stop active t n = ((e.stop active t n).1.timed timer, (e.stop active t n).2) := by
  have cue : (e.timed timer).cue n = e.cue n := rfl
  have holder : (e.timed timer).holder n = e.holder n := rfl
  have settled (v : Vector Voice 6) : (e.timed timer).settled t v = (e.settled t v).timed timer := by
    have busy : (e.timed timer).anyBusy = e.anyBusy := rfl
    unfold Sound.settled
    rw [busy]
    dsimp only
    split <;> split
    · rfl
    · rename_i h h'
      exact absurd h h'
    · rename_i h h'
      exact absurd h' h
    · rfl
  unfold Sound.stop
  rw [cue, holder]
  cases active with
  | false => rfl
  | true =>
    by_cases hb : e.bank = .ready
    · have hb' : ¬ (e.timed timer).bank ≠ .ready := fun k => k hb
      rw [if_neg (by simp), if_neg hb', if_neg (by simp), if_neg (by simpa using hb)]
      cases e.cue n with
      | none => rfl
      | some r =>
        cases e.holder n with
        | none => rfl
        | some v =>
          dsimp only
          rw [settled]
          rfl
    · have hb' : (e.timed timer).bank ≠ .ready := hb
      rw [if_neg (by simp), if_pos hb', if_neg (by simp), if_pos hb]
      rfl

/-- A START or a STOP leaves the bank and its tables. -/
theorem Sound.start_bank (e : Sound) (part : PartState) (n : Nat) (gain : Option Nat) :
    (e.start part n gain).1.bank = e.bank ∧ (e.start part n gain).1.cues = e.cues := by
  unfold Sound.start
  split
  · exact ⟨rfl, rfl⟩
  · split
    · exact ⟨rfl, rfl⟩
    · split
      · exact ⟨rfl, rfl⟩
      · split
        · split <;> exact ⟨rfl, rfl⟩
        · split
          · exact ⟨rfl, rfl⟩
          · split <;> exact ⟨rfl, rfl⟩

theorem Sound.stop_bank (e : Sound) (active : Bool) (t : Timer) (n : Nat) :
    (e.stop active t n).1.bank = e.bank ∧ (e.stop active t n).1.cues = e.cues := by
  unfold Sound.stop Sound.settled
  split
  · exact ⟨rfl, rfl⟩
  · split
    · exact ⟨rfl, rfl⟩
    · split
      · exact ⟨rfl, rfl⟩
      · split
        · exact ⟨rfl, rfl⟩
        · dsimp only
          split <;> exact ⟨rfl, rfl⟩

/-! ### The call of a slot -/

/-- What a slot's request asks of the sound engine (R127). -/
def CueSlot.call (x : CueSlot) (u : State) : State × CueResult :=
  if x.action = 1#8 then u.startCue x.cue.toNat (if x.gain = 0#8 then none else some x.gain.toNat) .slot
  else if x.action = 2#8 then u.stopCue x.cue.toNat
  else (u.withSound { u.sound with badAction := u.sound.badAction + 1#16 }, .badAction)

theorem CueSlot.call_eq (x : CueSlot) (u : State) :
    u.cueRequest x.cue.toNat x.action.toNat (if x.gain = 0#8 then none else some x.gain.toNat) .slot = x.call u := by
  have one : x.action.toNat = 1 ↔ x.action = 1#8 := by bv_omega
  have two : x.action.toNat = 2 ↔ x.action = 2#8 := by bv_omega
  simp only [State.cueRequest, CueSlot.call, one, two]

/-- `t` scans as `v` does: the sound engine but for its scan timer, and what the event list depends on, are the same. -/
def State.ScansAs (timer : Timer) (t v : State) : Prop :=
  t.part = v.part ∧ t.time = v.time ∧ t.events = v.events ∧ t.eventSeq = v.eventSeq ∧ t.sound = v.sound.timed timer

theorem State.event_lists {t v : State} (hp : t.part = v.part) (ht : t.time = v.time) (he : t.events = v.events)
    (hq : t.eventSeq = v.eventSeq) (k : EventKind) (subject : Byte) (detail : Half) :
    (t.event k subject detail).events = (v.event k subject detail).events ∧
      (t.event k subject detail).eventSeq = (v.event k subject detail).eventSeq := by
  have rep : t.findRepeat k subject = v.findRepeat k subject := by simp only [State.findRepeat, he]
  have room : t.eventRoom k = v.eventRoom k := by
    simp only [State.eventRoom, State.freeEvent, State.nextEventSeq, he, hq]
    rfl
  have up : t.uptime = v.uptime := by simp only [State.uptime, ht]
  have seq : t.nextEventSeq = v.nextEventSeq := by simp only [State.nextEventSeq, hq]
  have again : t.repeatedRecord = v.repeatedRecord := by unfold State.repeatedRecord; rw [up]
  have filled : t.filledRecord = v.filledRecord := by unfold State.filledRecord; rw [up, seq]
  unfold State.event
  rw [hp, rep, room, again, filled, seq, he]
  split
  · exact ⟨he, hq⟩
  · split
    · simp [hq]
    · split
      · simp
      · simp [he, hq]

namespace State.ScansAs
variable {t v : State} {timer : Timer}

theorem event (h : t.ScansAs timer v) (k : EventKind) (subject : Byte) (detail : Half) :
    (t.event k subject detail).ScansAs timer (v.event k subject detail) := by
  obtain ⟨part, time, events, seq, sound⟩ := h
  have mine := t.keeps_event k subject detail
  have other := v.keeps_event k subject detail
  obtain ⟨lists, counter⟩ := State.event_lists part time events seq k subject detail
  exact ⟨(mine.same .part).trans (part.trans (other.same .part).symm), (mine.same .time).trans (time.trans (other.same .time).symm),
    lists, counter, (mine.same .sound).trans (sound.trans (congrArg (Sound.timed · timer) (other.same .sound)).symm)⟩

theorem withSound (h : t.ScansAs timer v) {e f : Sound} (hs : e = f.timed timer) :
    (t.withSound e).ScansAs timer (v.withSound f) := by
  obtain ⟨part, time, events, seq, -⟩ := h
  exact ⟨part, time, events, seq, hs⟩

/-- The call of a slot does the same, with the same result. -/
theorem call (h : t.ScansAs timer v) (x : CueSlot) :
    (x.call t).1.ScansAs timer (x.call v).1 ∧ (x.call t).2 = (x.call v).2 := by
  obtain ⟨part, time, -, -, sound⟩ := id h
  unfold CueSlot.call
  generalize (if x.gain = 0#8 then none else some x.gain.toNat) = gain
  split
  · obtain ⟨mineResult, mine⟩ := t.startCue_eq x.cue.toNat gain .slot
    obtain ⟨otherResult, other⟩ := v.startCue_eq x.cue.toNat gain .slot
    rw [mineResult, mine, otherResult, other, part, sound, Sound.start_timed]
    refine ⟨?_, rfl⟩
    split
    · exact (h.withSound rfl).event _ _ _
    · exact h.withSound rfl
  · split
    · rw [t.stopCue_eq, v.stopCue_eq, part, State.startTimer, time, sound, Sound.stop_timed]
      exact ⟨h.withSound rfl, rfl⟩
    · exact ⟨h.withSound (by rw [sound]; rfl), rfl⟩

end State.ScansAs

/-- The result of a slot's call in RUN (R127). -/
theorem CueSlot.call_result (x : CueSlot) (u : State) (hp : u.part = .run) :
    let wrong := x.action ≠ 1#8 ∧ x.action ≠ 2#8
    ((x.call u).2 = .badAction ↔ wrong) ∧ ((x.call u).2 = .noBank ↔ ¬ wrong ∧ u.sound.bank ≠ .ready) ∧
      ((x.call u).2 = .noCue ↔ ¬ wrong ∧ u.sound.bank = .ready ∧
        (x.cue = 0#8 ∨ u.sound.cues.length < x.cue.toNat)) ∧ (x.call u).2 ≠ .none := by
  intro wrong
  have unknown : u.sound.cue x.cue.toNat = none ↔ x.cue = 0#8 ∨ u.sound.cues.length < x.cue.toNat := by
    unfold Sound.cue
    have zero : x.cue.toNat = 0 ↔ x.cue = 0#8 := by bv_omega
    split
    · simp [zero.mp ‹_›]
    · rw [List.getElem?_eq_none_iff]
      have : x.cue ≠ 0#8 := fun e => ‹¬ _› (zero.mpr e)
      simp only [this, false_or]
      omega
  unfold CueSlot.call
  generalize (if x.gain = 0#8 then none else some x.gain.toNat) = gain
  split
  · have right : ¬ wrong := fun h => h.1 ‹_›
    obtain ⟨bank, cue, some', action⟩ := u.sound.start_result x.cue.toNat gain
    rw [(u.startCue_eq _ _ _).1, hp]
    exact ⟨⟨fun h => absurd h action, fun h => absurd h right⟩, by simp [right, bank], by simp only [right, not_false_eq_true, true_and, cue, unknown], some'⟩
  · split
    · have right : ¬ wrong := fun h => h.2 ‹_›
      obtain ⟨bank, cue, some', action⟩ := u.sound.stop_result (u.startTimer ampHoldInterval) x.cue.toNat
      rw [u.stopCue_eq, hp]
      refine ⟨⟨fun h => absurd h action, fun h => absurd h right⟩, bank.trans (by simp [right]), ?_, some'⟩
      simp only [right, not_false_eq_true, true_and, ← unknown]
      exact cue
    · have bad : wrong := ⟨‹_›, ‹_›⟩
      simp [bad]

/-- A call leaves the bank and its tables. -/
theorem CueSlot.call_bank (x : CueSlot) (u : State) :
    (x.call u).1.sound.bank = u.sound.bank ∧ (x.call u).1.sound.cues = u.sound.cues ∧ (x.call u).1.part = u.part := by
  unfold CueSlot.call
  generalize (if x.gain = 0#8 then none else some x.gain.toNat) = gain
  split
  · obtain ⟨bank, cues⟩ := u.sound.start_bank u.part x.cue.toNat gain
    rw [(u.startCue_eq _ _ _).2]
    split
    · have event := State.keeps_event (u.withSound (u.sound.start u.part x.cue.toNat gain).1) .cueRefused (BitVec.ofNat 8 x.cue.toNat)
        (BitVec.ofNat 16 CueSource.slot.code)
      exact ⟨(congrArg Sound.bank (event.same .sound)).trans bank, (congrArg Sound.cues (event.same .sound)).trans cues,
        event.same .part⟩
    · exact ⟨bank, cues, rfl⟩
  · split
    · obtain ⟨bank, cues⟩ := u.sound.stop_bank u.part.active (u.startTimer ampHoldInterval) x.cue.toNat
      rw [u.stopCue_eq]
      exact ⟨bank, cues, rfl⟩
    · exact ⟨rfl, rfl, rfl⟩

end Sys2Proof.Machine

/-! ## The scan of the eight slots -/

namespace Sys2Proof.Machine

-- One proof at a time: proofs that wait for one another would each hold a thread.
set_option Elab.async false

/-! ### The host's EMPTY at a slot -/

theorem accessClass_cueState (a : Nat) (n : Fin 8) : accessClass a = .cueState n ↔ a = 0x0500 + 8 * n.val := by
  have hn := n.isLt
  constructor
  · intro h
    rcases accessClass_cases a with ⟨-, e⟩ | ⟨-, e⟩ | ⟨-, e⟩ | ⟨-, -, e⟩ | ⟨m, ha, e⟩ | ⟨_, _, -, -, -, e⟩ | ⟨_, -, e⟩ |
      ⟨_, -, e⟩ | ⟨-, e⟩ | ⟨_, -, e⟩ | ⟨_, -, -, e⟩ | e <;> rw [e] at h <;> simp at h
    rw [← h]
    exact ha
  · rintro rfl
    have j : (0x0500 + 8 * n.val - 0x0500) / 8 = n.val := by omega
    have z : (0x0500 + 8 * n.val - 0x0500) % 8 = 0 := by omega
    unfold accessClass
    rw [if_neg (by omega), if_neg (by omega), if_neg (by omega), if_neg (by omega), if_pos (by omega)]
    dsimp only
    rw [j, if_pos z]
    exact congrArg AccessClass.cueState (Fin.ext (Nat.mod_eq_of_lt hn))

section
variable (s : State)

/-- A data byte of a WRITE outside STARTING (R157). -/
theorem State.writeDataByte_eq (v : Byte) (hw : s.port.phase = .writing) (hp : s.part ≠ .starting) :
    s.writeDataByte v = (s.hostWriteAt s.port.address.toNat v).withPort
      { (s.hostWriteAt s.port.address.toNat v).port with address := s.port.address + 1#13 } := by
  unfold State.writeDataByte
  rw [if_pos hw]
  dsimp only
  rw [if_neg hp]

theorem State.hostWriteAt_cueState (n : Fin 8) (v : Byte) :
    s.hostWriteAt (0x0500 + 8 * n.val) v = s.withCueSlots (vecModify s.cueSlots n fun c => c.writeState v) := by
  unfold State.hostWriteAt
  rw [(accessClass_cueState _ n).mpr rfl]

/-- The host's EMPTY taken at the state byte of slot `n`. -/
theorem State.writeDataByte_cueState (n : Fin 8) (v : Byte) (hw : s.port.phase = .writing) (hp : s.part ≠ .starting)
    (ha : s.portClass = .cueState n) :
    s.writeDataByte v = (s.withCueSlots (vecModify s.cueSlots n fun c => c.writeState v)).withPort
      { s.port with address := s.port.address + 1#13 } := by
  rw [s.writeDataByte_eq v hw hp, (accessClass_cueState _ n).mp ha, s.hostWriteAt_cueState]
  rfl

/-! ### One slot -/

/-- Whether the host's EMPTY reaches slot `n` within the scan. -/
def State.Hits (s : State) (emptied : Bool) (n : Fin 8) : Prop :=
  emptied = true ∧ s.portClass = .cueState n ∧ s.port.phase = .writing

/-- The slot as its request is taken, the host's EMPTY reaching it or not (R165). -/
def State.slotTaken (s : State) (emptied : Bool) (n : Fin 8) : State :=
  let u := s.withCueSlots (s.cueSlots.set n { s.cueSlots[n] with state := .taken })
  if emptied ∧ u.portClass = .cueState n then u.writeDataByte 0#8 else u

/-- The slot with its result, attention raised (R127). -/
def State.slotEnded (s : State) (n : Fin 8) (r : CueResult) : State :=
  (s.withCueSlots (vecModify s.cueSlots n fun x => { x with
    state := if r = .ok then .done else .refused
    result := r })).raise .cue

theorem State.scanSlot_posted (emptied : Bool) (n : Fin 8) (h : s.cueSlots[n].state = .posted) :
    State.scanSlot emptied s n =
      (s.cueSlots[n].call (s.slotTaken emptied n)).1.slotEnded n (s.cueSlots[n].call (s.slotTaken emptied n)).2 := by
  unfold State.scanSlot
  rw [if_pos h]
  dsimp only
  rw [CueSlot.call_eq]
  rfl

theorem State.scanSlot_other (emptied : Bool) (n : Fin 8) (h : s.cueSlots[n].state ≠ .posted) :
    State.scanSlot emptied s n = s := if_neg h

theorem State.slotTaken_eq (emptied : Bool) (n : Fin 8) (hp : s.part = .run) :
    s.SameExcept (s.slotTaken emptied n) [.cueSlots, .port] ∧
      (s.Hits emptied n → (s.slotTaken emptied n).port = { s.port with address := s.port.address + 1#13 }) ∧
      (¬ s.Hits emptied n → (s.slotTaken emptied n).port = s.port) ∧
      (∀ m : Fin 8, m ≠ n → (s.slotTaken emptied n).cueSlots[m] = s.cueSlots[m]) ∧
      ∃ x : CueSlotState, (s.slotTaken emptied n).cueSlots[n] = { s.cueSlots[n] with state := x } := by
  let u := s.withCueSlots (s.cueSlots.set n { s.cueSlots[n] with state := .taken })
  have set : s.SameExcept u [.cueSlots, .port] := State.sameExcept_mono (s.sameExcept_withCueSlots _) (by decide)
  have mine : u.cueSlots[n] = { s.cueSlots[n] with state := .taken } := Vector.getElem_set_self n.isLt
  have others (m : Fin 8) (hm : m ≠ n) : u.cueSlots[m] = s.cueSlots[m] :=
    Vector.getElem_set_ne n.isLt m.isLt (fun e => hm (Fin.ext e.symm))
  have cases : ¬ s.Hits emptied n ∧ s.slotTaken emptied n = u ∨
      s.Hits emptied n ∧ s.slotTaken emptied n = (u.withCueSlots (vecModify u.cueSlots n fun c => c.writeState 0#8)).withPort
        { s.port with address := s.port.address + 1#13 } := by
    by_cases h : emptied = true ∧ s.portClass = .cueState n
    · have e : s.slotTaken emptied n = u.writeDataByte 0#8 := if_pos h
      by_cases hw : s.port.phase = .writing
      · exact .inr ⟨⟨h.1, h.2, hw⟩, e.trans (u.writeDataByte_cueState n 0#8 hw (by rw [show u.part = .run from hp]; nofun) h.2)⟩
      · exact .inl ⟨fun k => hw k.2.2, e.trans (if_neg hw)⟩
    · exact .inl ⟨fun k => h ⟨k.1, k.2.1⟩, if_neg h⟩
  rcases cases with ⟨h, e⟩ | ⟨h, e⟩
  · rw [e]
    exact ⟨set, fun k => absurd k h, fun _ => rfl, others, .taken, mine⟩
  · rw [e]
    have modified (m : Fin 8) := vecModify_get u.cueSlots n m fun c => c.writeState 0#8
    refine ⟨?_, fun _ => rfl, fun k => absurd h k, fun m hm => ?_, .empty, ?_⟩
    · exact State.sameExcept_trans set (State.sameExcept_trans
        (State.sameExcept_mono (u.sameExcept_withCueSlots _) (by decide))
        (State.sameExcept_mono (State.sameExcept_withPort _ _) (by decide)))
    · exact (modified m).trans ((if_neg hm).trans (others m hm))
    · refine (modified n).trans ((if_pos rfl).trans ?_)
      rw [mine]
      rfl

/-- One slot of a scan in RUN: a POSTED request is called on what the slots before it have left, and any other slot is
left alone (R127). -/
theorem State.scanSlot_eq (emptied : Bool) (n : Fin 8) (timer : Timer) (v : State) (hp : s.part = .run)
    (scans : s.ScansAs timer v) (h : s.cueSlots[n].state = .posted) :
    let t := State.scanSlot emptied s n
    t.ScansAs timer (s.cueSlots[n].call v).1 ∧
      t.cueSlots[n] = { s.cueSlots[n] with
        state := if (s.cueSlots[n].call v).2 = .ok then .done else .refused
        result := (s.cueSlots[n].call v).2 } ∧
      (∀ m : Fin 8, m ≠ n → t.cueSlots[m] = s.cueSlots[m]) ∧ t.attention.pending[(3 : Fin 12)] = true ∧
      (s.Hits emptied n → t.port = { s.port with address := s.port.address + 1#13 }) ∧
      (¬ s.Hits emptied n → t.port = s.port) ∧
      s.SameExcept t [.sound, .cueSlots, .events, .eventSeq, .attention, .port] := by
  intro t
  have ht : t = _ := s.scanSlot_posted emptied n h
  obtain ⟨taken, hit, missed, others, x, mine⟩ := s.slotTaken_eq emptied n hp
  generalize s.slotTaken emptied n = u at *
  have scans' : u.ScansAs timer v := by
    obtain ⟨part, time, events, seq, sound⟩ := scans
    exact ⟨(taken .part (by decide)).trans part, (taken .time (by decide)).trans time,
      (taken .events (by decide)).trans events, (taken .eventSeq (by decide)).trans seq, (taken .sound (by decide)).trans sound⟩
  obtain ⟨called, result⟩ := scans'.call s.cueSlots[n]
  have keeps : u.Keeps (s.cueSlots[n].call u).1 Component.ofCue := by
    rw [← CueSlot.call_eq]
    exact u.keeps_cueRequest _ _ _ _
  rw [result] at ht
  generalize (s.cueSlots[n].call u).1 = w at *
  generalize (s.cueSlots[n].call v).2 = r at *
  have ends : w.Keeps t [.cueSlots, .attention] := by
    rw [ht]
    exact (w.keeps_withCueSlots _).mono.trans (State.keeps_raise _ _).mono
  have slots : t.cueSlots = vecModify w.cueSlots n fun x => { x with
      state := if r = .ok then .done else .refused
      result := r } := by
    rw [ht]
    exact (State.keeps_raise _ _).same .cueSlots
  have wslots : w.cueSlots = u.cueSlots := keeps.same .cueSlots
  have part : w.part = .run := (keeps.same .part).trans ((taken .part (by decide)).trans hp)
  have get (m : Fin 8) := vecModify_get u.cueSlots n m fun x => { x with
      state := if r = CueResult.ok then CueSlotState.done else CueSlotState.refused
      result := r }
  have port : t.port = u.port := (ends.same .port).trans (keeps.same .port)
  rw [slots, wslots]
  refine ⟨?_, ?_, fun m hm => ?_, ?_, fun hh => port.trans (hit hh), fun hh => port.trans (missed hh), ?_⟩
  · obtain ⟨cpart, time, events, seq, sound⟩ := called
    have kept : t.events = w.events ∧ t.eventSeq = w.eventSeq := ⟨ends.same .events, ends.same .eventSeq⟩
    exact ⟨(ends.same .part).trans cpart, (ends.same .time).trans time, kept.1.trans events, kept.2.trans seq,
      (ends.same .sound).trans sound⟩
  · refine (get n).trans ((if_pos rfl).trans ?_)
    rw [mine]
  · exact (get m).trans ((if_neg hm).trans (others m hm))
  · rw [ht]
    unfold State.slotEnded
    have active : (w.withCueSlots (vecModify w.cueSlots n fun x => { x with
      state := if r = CueResult.ok then CueSlotState.done else CueSlotState.refused
      result := r })).part.active = true := by
      show w.part.active = true
      rw [part]
      rfl
    rw [State.raise_active _ _ active]
    show (w.attention.pending.set (3 : Fin 12) true)[(3 : Fin 12)] = true
    exact Vector.getElem_set_self _
  · exact State.sameExcept_trans (State.sameExcept_mono taken (by decide))
      (State.sameExcept_trans (State.sameExcept_mono keeps.frame (by decide)) (State.sameExcept_mono ends.frame (by decide)))

end

end Sys2Proof.Machine

/-! ## A scan as a whole -/

namespace Sys2Proof.Machine

-- One proof at a time: proofs that wait for one another would each hold a thread.
set_option Elab.async false

/-- The slot with the result of its request (R127). -/
def CueSlot.answered (x : CueSlot) (r : CueResult) : CueSlot :=
  { x with
    state := if r = .ok then .done else .refused
    result := r }

section
variable (s : State)

/-- What the requests of `l` that a scan of `s` takes leave of the sound engine and the event list, in that order
(R127). -/
def State.slotsCalled (s : State) (l : List (Fin 8)) : State :=
  l.foldl (fun u n => if s.part = .run ∧ s.cueSlots[n].state = .posted then (s.cueSlots[n].call u).1 else u) s

theorem State.slotsCalled_idle (l : List (Fin 8)) (h : s.part ≠ .run) : s.slotsCalled l = s := by
  unfold State.slotsCalled
  induction l with
  | nil => rfl
  | cons n l ih => rw [List.foldl_cons, if_neg (fun k => h k.1), ih]

theorem State.slotsCalled_append (l : List (Fin 8)) (n : Fin 8) :
    s.slotsCalled (l ++ [n]) =
      if s.part = .run ∧ s.cueSlots[n].state = .posted then (s.cueSlots[n].call (s.slotsCalled l)).1 else s.slotsCalled l := by
  unfold State.slotsCalled
  rw [List.foldl_append]
  rfl

theorem State.slotsCalled_take (n : Fin 8) :
    s.slotsCalled ((List.finRange 8).take (n.val + 1)) =
      if s.part = .run ∧ s.cueSlots[n].state = .posted then (s.cueSlots[n].call (s.slotsCalled ((List.finRange 8).take n.val))).1
      else s.slotsCalled ((List.finRange 8).take n.val) := by
  rw [List.take_add_one, List.getElem?_eq_getElem (by simp), List.getElem_finRange]
  exact s.slotsCalled_append _ n

theorem State.slotsCalled_bank (l : List (Fin 8)) : (s.slotsCalled l).sound.bank = s.sound.bank ∧
    (s.slotsCalled l).sound.cues = s.sound.cues ∧ (s.slotsCalled l).part = s.part := by
  induction l using List.reverseRecOn with
  | nil => exact ⟨rfl, rfl, rfl⟩
  | append_singleton l n ih =>
    rw [s.slotsCalled_append]
    split
    · obtain ⟨bank, cues, part⟩ := s.cueSlots[n].call_bank (s.slotsCalled l)
      exact ⟨bank.trans ih.1, cues.trans ih.2.1, part.trans ih.2.2⟩
    · exact ih

/-- The state `u` that a scan of `s` in RUN has come to before slot `k`. -/
structure State.Scanned (s : State) (emptied : Bool) (timer : Timer) (k : Nat) (u : State) : Prop where
  scans : u.ScansAs timer (s.slotsCalled ((List.finRange 8).take k))
  done : ∀ n : Fin 8, n.val < k → s.cueSlots[n].state = .posted →
    u.cueSlots[n] = s.cueSlots[n].answered (s.cueSlots[n].call (s.slotsCalled ((List.finRange 8).take n.val))).2 ∧
      u.attention.pending[(3 : Fin 12)] = true
  left : ∀ n : Fin 8, k ≤ n.val ∨ s.cueSlots[n].state ≠ .posted → u.cueSlots[n] = s.cueSlots[n]
  hit : ∀ n : Fin 8, n.val < k → s.cueSlots[n].state = .posted → s.Hits emptied n →
    u.port = { s.port with address := s.port.address + 1#13 }
  missed : (∀ n : Fin 8, n.val < k → s.cueSlots[n].state = .posted → ¬ s.Hits emptied n) → u.port = s.port
  frame : s.SameExcept u [.sound, .cueSlots, .events, .eventSeq, .attention, .port, .draws]

/-- The scan goes on by one slot. -/
theorem State.Scanned.next {s u : State} {emptied : Bool} {timer : Timer} {n : Fin 8} (hp : s.part = .run)
    (h : s.Scanned emptied timer n.val u) : s.Scanned emptied timer (n.val + 1) (State.scanSlot emptied u n) := by
  obtain ⟨scans, done, left, hit, missed, frame⟩ := h
  have mine := left n (.inl le_rfl)
  have upto {m : Fin 8} (hm : m.val < n.val + 1) : m.val < n.val ∨ m = n := by
    rcases Nat.lt_succ_iff_lt_or_eq.mp hm with h | h
    · exact .inl h
    · exact .inr (Fin.ext h)
  by_cases posted : s.cueSlots[n].state = .posted
  · have run : u.part = .run := (frame .part (by decide)).trans hp
    obtain ⟨scans', mine', others, pending, hits, misses, frame'⟩ := u.scanSlot_eq emptied n timer _ run scans (by rw [mine]; exact posted)
    rw [mine] at scans' mine'
    -- The port stands where it stood, unless the EMPTY has reached an earlier slot; then it stands behind that one.
    have port (m : Fin 8) (hm : m.val < n.val) (pm : s.cueSlots[m].state = .posted) (sm : s.Hits emptied m) :
        ¬ u.Hits emptied n ∧ ¬ s.Hits emptied n := by
      have address := (accessClass_cueState _ m).mp sm.2.1
      have same : u.port = _ := hit m hm pm sm
      refine ⟨fun k => ?_, fun k => ?_⟩
      · have := (accessClass_cueState _ n).mp k.2.1
        rw [same] at this
        have hm8 := m.isLt
        have wraps : (s.port.address + 1#13).toNat = s.port.address.toNat + 1 := by
          rw [BitVec.toNat_add, address]
          simp only [BitVec.toNat_ofNat]
          omega
        rw [wraps, address] at this
        omega
      · have := (accessClass_cueState _ n).mp k.2.1
        omega
    have same : u.Hits emptied n ↔ s.Hits emptied n := by
      by_cases earlier : ∃ m : Fin 8, m.val < n.val ∧ s.cueSlots[m].state = .posted ∧ s.Hits emptied m
      · obtain ⟨m, hm, pm, sm⟩ := earlier
        obtain ⟨a, b⟩ := port m hm pm sm
        exact ⟨fun k => absurd k a, fun k => absurd k b⟩
      · have := missed fun m hm pm sm => earlier ⟨m, hm, pm, sm⟩
        unfold State.Hits State.portClass
        rw [this]
    refine ⟨?_, fun m hm pm => ?_, fun m hm => ?_, fun m hm pm sm => ?_, fun none => ?_, ?_⟩
    · rw [s.slotsCalled_take, if_pos ⟨hp, posted⟩]
      exact scans'
    · rcases upto hm with h | rfl
      · have : m ≠ n := fun e => by rw [e] at h; exact absurd h (lt_irrefl _)
        rw [others m this]
        exact ⟨(done m h pm).1, pending⟩
      · exact ⟨mine', pending⟩
    · have : m ≠ n := by
        rintro rfl
        rcases hm with hm | hm
        · exact absurd hm (by omega)
        · exact hm posted
      rw [others m this]
      exact left m (hm.imp (by omega) id)
    · rcases upto hm with h | rfl
      · rw [misses (port m h pm sm).1]
        exact hit m h pm sm
      · rw [hits (same.mpr sm), missed fun j hj pj sj => (port j hj pj sj).2 sm]
    · rw [misses (same.not.mpr (none n (by omega) posted))]
      exact missed fun m hm => none m (by omega)
    · exact State.sameExcept_trans frame (State.sameExcept_mono frame' (by decide))
  · rw [u.scanSlot_other emptied n (by rw [mine]; exact posted)]
    refine ⟨?_, fun m hm pm => ?_, fun m hm => ?_, fun m hm pm => ?_, fun none => missed fun m hm => none m (by omega), frame⟩
    · rw [s.slotsCalled_take, if_neg (fun k => posted k.2)]
      exact scans
    · exact done m ((upto hm).resolve_right fun e => posted (e ▸ pm)) pm
    · exact left m (hm.imp (by omega) id)
    · exact hit m ((upto hm).resolve_right fun e => posted (e ▸ pm)) pm

/-- A scan of the eight slots in RUN. -/
theorem State.scanned_all {s u : State} {emptied : Bool} {timer : Timer} (hp : s.part = .run)
    (hs : u.sound = s.sound.timed timer) (frame : s.SameExcept u [.sound, .draws]) :
    s.Scanned emptied timer 8 ((List.finRange 8).foldl (State.scanSlot emptied) u) := by
  have upto (k : Nat) (hk : k ≤ 8) : s.Scanned emptied timer k (((List.finRange 8).take k).foldl (State.scanSlot emptied) u) := by
    induction k with
    | zero =>
      refine ⟨⟨frame .part (by decide), frame .time (by decide), frame .events (by decide), frame .eventSeq (by decide), hs⟩, nofun, fun n _ => ?_,
        nofun, fun _ => frame .port (by decide), State.sameExcept_mono frame (by decide)⟩
      exact congrArg (·[n]) (frame .cueSlots (by decide))
    | succ k ih =>
      have next := State.Scanned.next (n := ⟨k, hk⟩) hp (ih (by omega))
      rw [List.take_add_one, List.getElem?_eq_getElem (by simpa using hk), List.getElem_finRange, List.foldl_append]
      exact next
  exact upto 8 le_rfl

/-- A CUE_SLOT_SCAN, by the slots that it scans in RUN. -/
theorem exec_cueSlotScan (h : s.sound.scanTimer.isRunning = true) :
    ∃ u, exec .cueSlotScan s = .next u.writeSoundReadings ∧
      (s.part ≠ .run → u = s.withSound (s.sound.timed (s.startTimer cueScanInterval))) ∧
      (s.part = .run → ∃ emptied : Bool, (emptied = true → s.pending.head? = some (.cueSlotStateWrite 0#8)) ∧
        s.Scanned emptied (s.startTimer cueScanInterval) 8 u) := by
  let w := s.withSound (s.sound.timed (s.startTimer cueScanInterval))
  have set : s.SameExcept w [.sound, .draws] := State.sameExcept_mono (s.sameExcept_withSound _) (by decide)
  have e : exec .cueSlotScan s = .next (if w.part = .run then w.scanSlots else w).writeSoundReadings := by
    show execCueSlotScan s = _
    unfold execCueSlotScan
    rw [if_pos h]
    rfl
  refine ⟨_, e, fun hp => if_neg hp, fun hp => ?_⟩
  rw [if_pos (show w.part = .run from hp)]
  unfold State.scanSlots
  by_cases hq : w.pending.head? = some (.cueSlotStateWrite 0#8)
  · rw [if_pos hq]
    exact ⟨_, fun _ => hq, State.scanned_all hp rfl
      (State.sameExcept_trans set (State.sameExcept_mono (w.sameExcept_withDraws _) (by decide)))⟩
  · rw [if_neg hq]
    exact ⟨false, nofun, State.scanned_all hp rfl set⟩

/-- A group written into the store that `u` shares with `s`. -/
theorem State.GroupWritten.of_store {s u t : State} {base : Nat} {fields : List Byte} (h : u.GroupWritten t base fields)
    (hs : ∀ a, u.storeAt a = s.storeAt a) : s.GroupWritten t base fields := by
  obtain ⟨count, bytes, outside⟩ := h
  exact ⟨by rw [count, hs], bytes, fun a ha => (outside a ha).trans (hs a)⟩

/-- The host's EMPTY at the state byte of slot `n` frees it. -/
theorem State.empties {t : State} {n : Fin 8} (hp : t.part = .run) (hw : t.port.phase = .writing)
    (ha : t.port.address.toNat = 0x0500 + 8 * n.val) :
    ∃ u, exec (.cueSlotStateWrite 0#8) t = .next u ∧ u.cueSlots[n].state = .empty := by
  have class' : t.portClass = .cueState n := (accessClass_cueState _ n).mpr ha
  have e : exec (.cueSlotStateWrite 0#8) t = .next (t.writeDataByte 0#8) := by
    show execCueSlotStateWrite 0#8 t = _
    unfold execCueSlotStateWrite
    rw [class']
  refine ⟨_, e, ?_⟩
  rw [t.writeDataByte_cueState n 0#8 hw (by rw [hp]; nofun) class']
  show (vecModify t.cueSlots n fun c => c.writeState 0#8)[n].state = _
  rw [vecModify_get, if_pos rfl]
  rfl

/-- A row for a slot's state byte does nothing where the port stands one byte behind a state byte. -/
theorem State.emptied_already {t : State} {n : Fin 8} {a : BitVec 13} (ha : a.toNat = 0x0500 + 8 * n.val)
    (ht : t.port.address = a + 1#13) : exec (.cueSlotStateWrite 0#8) t = .next t := by
  have hn := n.isLt
  have wraps : (a + 1#13).toNat = a.toNat + 1 := by
    rw [BitVec.toNat_add, ha]
    simp only [BitVec.toNat_ofNat]
    omega
  show execCueSlotStateWrite 0#8 t = _
  unfold execCueSlotStateWrite
  split
  · have := (accessClass_cueState _ _).mp ‹t.portClass = _›
    rw [ht, wraps, ha] at this
    omega
  · rfl

end

/-- Settles O32: in RUN the scan meets the slots one after the other, each calling the sound engine on what those before
it have left; outside RUN it restarts its timer and writes the readings. -/
theorem cueSlotScanTakesPostedSlots : Obligations.CueSlotScanTakesPostedSlots := by
  intro s running posted meets call before
  obtain ⟨u, e, stands, scanned⟩ := exec_cueSlotScan s running
  have readings := u.keeps_writeSoundReadings
  obtain ⟨shows', written⟩ := u.writeSoundReadings_shows
  have ended : before 8 = s.slotsCalled ((List.finRange 8).take 8) := rfl
  have earlier (n : Nat) : before n = s.slotsCalled ((List.finRange 8).take n) := rfl
  have called (v : State) (n : Fin 8) : call v n = s.cueSlots[n].call v := rfl
  have tsound : u.writeSoundReadings.sound = u.sound := readings.same .sound
  have tport : u.writeSoundReadings.port = u.port := readings.same .port
  have tslots : u.writeSoundReadings.cueSlots = u.cueSlots := readings.same .cueSlots
  have tpart : u.writeSoundReadings.part = u.part := readings.same .part
  rw [← tsound] at written
  clear_value call before
  by_cases hp : s.part = .run
  · obtain ⟨emptied, head, scans, done, left, hit, missed, frame⟩ := scanned hp
    obtain ⟨-, -, events, seq, sound⟩ := scans
    obtain ⟨bank, cues, -⟩ := s.slotsCalled_bank ((List.finRange 8).take 8)
    have meets' (n : Fin 8) (sm : s.Hits emptied n) (pm : s.cueSlots[n].state = .posted) : meets n :=
      ⟨⟨hp, pm⟩, head sm.1, sm.2.2, (accessClass_cueState _ n).mp sm.2.1⟩
    have whole : s.SameExcept u.writeSoundReadings [.sound, .cueSlots, .store, .events, .eventSeq, .attention, .port, .draws] :=
      State.sameExcept_trans (State.sameExcept_mono frame (by decide)) (State.sameExcept_mono readings.frame (by decide))
    refine ⟨u.writeSoundReadings, e, ?_, ?_, ?_, fun n hn => ?_, fun n hn => ?_, fun n hn => ?_, fun none => ?_, ?_, ?_, shows',
      written.of_store (frame .store (by decide)), fun h => absurd hp h, whole⟩
    · rw [tsound, ended, sound]
      rfl
    · rw [ended]
      exact (readings.same .events).trans events
    · rw [ended]
      exact (readings.same .eventSeq).trans seq
    · rw [tslots]
      exact left n (.inr fun k => hn ⟨hp, k⟩)
    · obtain ⟨slot, pending⟩ := done n n.isLt hn.2
      obtain ⟨bank', cues', part'⟩ := s.slotsCalled_bank ((List.finRange 8).take n.val)
      obtain ⟨bad, noBank, noCue, answers⟩ := s.cueSlots[n].call_result _ (part'.trans hp)
      rw [bank', cues'] at noCue
      rw [bank'] at noBank
      intro x y wrong unknown
      have hy : y = x.answered (call (before n.val) n).2 := by
        show u.writeSoundReadings.cueSlots[n] = _
        rw [tslots, slot, called, earlier]
      have result : y.result = (x.call (s.slotsCalled ((List.finRange 8).take n.val))).2 := by rw [hy, called, earlier]; rfl
      rw [result]
      refine ⟨by rw [hy]; rfl, by rw [hy]; rfl, by rw [hy]; rfl, ?_, by rw [called, earlier], bad, noBank, noCue, answers, ?_⟩
      · rw [hy, ← called, ← earlier]
        rfl
      · rw [show u.writeSoundReadings.attention = u.attention from readings.same .attention]
        exact pending
    · obtain ⟨⟨-, pm⟩, hq, hw, ha⟩ := hn
      by_cases he : emptied = true
      · have port := hit n n.isLt pm ⟨he, (accessClass_cueState _ n).mpr ha, hw⟩
        refine .inl ⟨tport.trans port, State.emptied_already ha ?_⟩
        rw [tport, port]
      · have port : u.port = s.port := missed fun m _ _ sm => he sm.1
        refine .inr ⟨tport.trans port, State.empties ((readings.same .part).trans ((frame .part (by decide)).trans hp)) ?_ ?_⟩
        · rw [tport, port]
          exact hw
        · rw [tport, port]
          exact ha
    · exact tport.trans (missed fun m _ pm sm => none m (meets' m sm pm))
    · rw [tsound, sound]
      exact bank
    · rw [tsound, sound]
      exact cues
  · have hu := stands hp
    have idle : s.slotsCalled ((List.finRange 8).take 8) = s := s.slotsCalled_idle _ hp
    have frame : s.SameExcept u [.sound] := by rw [hu]; exact s.sameExcept_withSound _
    have sound : u.sound = s.sound.timed (s.startTimer cueScanInterval) := by rw [hu]; rfl
    have short : s.SameExcept u.writeSoundReadings [.sound, .store] :=
      State.sameExcept_trans (State.sameExcept_mono frame (by decide)) (State.sameExcept_mono readings.frame (by decide))
    refine ⟨u.writeSoundReadings, e, ?_, ?_, ?_, fun n _ => congrArg (·[n]) (short .cueSlots (by decide)), fun n hn => absurd hn.1 hp,
      fun n hn => absurd hn.1.1 hp, fun _ => short .port (by decide), ?_, ?_, shows',
      written.of_store (frame .store (by decide)), fun _ => short, State.sameExcept_mono short (by decide)⟩
    · rw [tsound, ended, idle, sound]
      rfl
    · rw [ended, idle]
      exact short .events (by decide)
    · rw [ended, idle]
      exact short .eventSeq (by decide)
    · rw [tsound, sound]
      rfl
    · rw [tsound, sound]
      rfl

end Sys2Proof.Machine

/-! ## Transactions, captures, and what the host reads -/

namespace Sys2Proof.Machine

-- One proof at a time: proofs that wait for one another would each hold a thread.
set_option Elab.async false

section
variable (s : State)

/-! ### The byte at an address (12.2) -/

theorem ofNat_of_eq {m : Nat} [NeZero m] (n : Fin m) {k : Nat} (h : k = n.val) : Fin.ofNat m k = n := by
  subst h
  exact Fin.ext (Nat.mod_eq_of_lt n.isLt)

theorem State.storeByte_control {a : Nat} (h : a < 0x10) : s.storeByte a = s.controlByte a := if_pos h

theorem State.storeByte_slot (n : Fin 8) {j : Nat} (hj : j < 8) :
    s.storeByte (0x0500 + 8 * n.val + j) = s.cueSlots[n].bytes.getD j 0#8 := by
  generalize ha : 0x0500 + 8 * n.val + j = a
  have hn := n.isLt
  have e : s.storeByte a = s.cueSlots[Fin.ofNat 8 ((a - 0x0500) / 8)].bytes.getD ((a - 0x0500) % 8) 0#8 := by
    unfold State.storeByte
    rw [if_neg (by omega), if_pos (by omega)]
  exact e.trans (congrArg₂ (fun (i : Fin 8) (j : Nat) => s.cueSlots[i].bytes.getD j 0#8) (ofNat_of_eq n (by omega)) (by omega))

theorem State.storeByte_event (n : Fin 24) {j : Nat} (hj : j < 16) :
    s.storeByte (0x0C00 + 16 * n.val + j) = s.events[n].bytes.getD j 0#8 := by
  generalize ha : 0x0C00 + 16 * n.val + j = a
  have hn := n.isLt
  have e : s.storeByte a = s.events[Fin.ofNat 24 ((a - 0x0C00) / 16)].bytes.getD ((a - 0x0C00) % 16) 0#8 := by
    unfold State.storeByte
    rw [if_neg (by omega), if_neg (by omega), if_pos (by omega)]
  exact e.trans (congrArg₂ (fun (i : Fin 24) (j : Nat) => s.events[i].bytes.getD j 0#8) (ofNat_of_eq n (by omega)) (by omega))

theorem State.storeByte_inbound (n : Fin 8) {j : Nat} (hj : j < 24) :
    s.storeByte (0x0E00 + 24 * n.val + j) = s.inbound[n].bytes.getD j 0#8 := by
  generalize ha : 0x0E00 + 24 * n.val + j = a
  have hn := n.isLt
  have e : s.storeByte a = s.inbound[Fin.ofNat 8 ((a - 0x0E00) / 24)].bytes.getD ((a - 0x0E00) % 24) 0#8 := by
    unfold State.storeByte
    rw [if_neg (by omega), if_neg (by omega), if_neg (by omega), if_pos (by omega)]
  exact e.trans (congrArg₂ (fun (i : Fin 8) (j : Nat) => s.inbound[i].bytes.getD j 0#8) (ofNat_of_eq n (by omega)) (by omega))

/-- Two bytes as the host reads them. -/
theorem State.hostNum16_of {a n : Nat} (h₀ : s.storeByte a = BitVec.ofNat 8 n) (h₁ : s.storeByte (a + 1) = BitVec.ofNat 8 (n / 256)) :
    s.hostNum16 a = n % 65536 := by
  rw [State.hostNum16, State.hostNum, State.hostNum, h₀, h₁]
  simp only [BitVec.toNat_ofNat]
  omega

/-- Four bytes as the host reads them. -/
theorem State.hostNum32_of {a n : Nat} (h₀ : s.storeByte a = BitVec.ofNat 8 n) (h₁ : s.storeByte (a + 1) = BitVec.ofNat 8 (n / 256))
    (h₂ : s.storeByte (a + 2) = BitVec.ofNat 8 (n / 65536)) (h₃ : s.storeByte (a + 3) = BitVec.ofNat 8 (n / 65536 / 256)) :
    s.hostNum32 a = n % 4294967296 := by
  rw [State.hostNum32, s.hostNum16_of h₀ h₁, s.hostNum16_of h₂ h₃]
  omega

/-! ### The control words (12.3) -/

/-- A byte of a word, as a number's. -/
theorem extract_ofNat {w : Nat} (n p : Nat) (hp : p + 8 ≤ w) :
    (BitVec.ofNat w n).extractLsb' p 8 = BitVec.ofNat 8 (n / 2 ^ p) := by
  apply BitVec.eq_of_getLsbD_eq
  intro i hi
  rw [BitVec.getLsbD_extractLsb', BitVec.getLsbD_ofNat, BitVec.getLsbD_ofNat, Nat.testBit_div_two_pow]
  simp [hi, show p + i < w by omega, Nat.add_comm]

theorem State.controlsRead : s.ControlsRead := by
  have control (a : Nat) (h : a < 0x10) := s.storeByte_control h
  have few : s.attention.pending.toList.length ≤ 16 := by simp
  have lt := Nat.lt_of_lt_of_le (maskOf_lt s.attention.pending.toList) (Nat.pow_le_pow_right (by omega) few)
  have pending : s.hostNum16 0x08 = maskOf s.attention.pending.toList % 65536 :=
    s.hostNum16_of ((control 8 (by omega)).trans ((extract_ofNat _ 0 (by omega)).trans (by simp)))
      ((control 9 (by omega)).trans (extract_ofNat _ 8 (by omega)))
  refine ⟨?_, ?_, ?_, ?_, fun n _ => ?_, ?_, ?_, control 0x0C (by omega), ?_, ?_⟩
  · rw [State.hostNum16, State.hostNum, State.hostNum, control 0 (by omega), control 1 (by omega)]
    show (0x10#8).toNat + 256 * (0x4A#8).toNat = 0x4A10
    simp
  · rw [State.hostNum, control 2 (by omega)]
    rfl
  · rw [State.hostNum, control 3 (by omega)]
    show (BitVec.ofNat 8 s.part.code).toNat = _
    cases s.part <;> rfl
  · exact s.hostNum32_of ((control 4 (by omega)).trans ((extract_ofNat _ 0 (by omega)).trans (by simp)))
      ((control 5 (by omega)).trans (extract_ofNat _ 8 (by omega))) ((control 6 (by omega)).trans (extract_ofNat _ 16 (by omega)))
      ((control 7 (by omega)).trans ((extract_ofNat _ 24 (by omega)).trans (congrArg (BitVec.ofNat 8) (Nat.div_div_eq_div_mul s.time 65536 256).symm)))
  · rw [pending, Nat.mod_eq_of_lt lt, testBit_maskOf]
  · rw [State.hostNum, control 0x0A (by omega)]
    rfl
  · rw [State.hostNum, control 0x0B (by omega)]
    rfl
  · rw [State.hostNum, control 0x0D (by omega)]
    show (BitVec.ofNat 8 s.commandResult.code).toNat = _
    cases s.commandResult <;> rfl
  · rw [State.hostNum16, State.hostNum, State.hostNum, control 0x0E (by omega), control 0x0F (by omega)]
    rfl

/-! ### Slots and records (12.5) -/

theorem State.cueSlotsRead : s.CueSlotsRead := by
  intro n i c
  have slot (j : Nat) (hj : j < 8) := s.storeByte_slot n hj
  refine ⟨?_, slot 1 (by omega), slot 2 (by omega), slot 3 (by omega), ?_, fun j h₅ h₈ => ?_⟩
  · rw [State.hostNum, show i = i + 0 from rfl, slot 0 (by omega)]
    show (BitVec.ofNat 8 c.state.code).toNat = _
    cases c.state <;> rfl
  · rw [State.hostNum, slot 4 (by omega)]
    show (BitVec.ofNat 8 c.result.code).toNat = _
    cases c.result <;> rfl
  · rw [State.hostNum, slot j h₈, List.getD_eq_default _ _ (by simp [CueSlot.bytes]; omega)]
    rfl

/-- The table gives each kind its code and its severity (section 11.2). -/
theorem eventKindTable_eq {c : Nat} {x : EventKind × Nat} (h : eventKindTable[c]? = some x) :
    x.1.code = c + 1 ∧ x.1.severity.code = x.2 := by
  have all : ∀ i : Fin 18, (eventKindTable[i.val]?).all fun x => x.1.code == i.val + 1 && x.1.severity.code == x.2 := by decide
  have lt : c < 18 := (List.getElem?_eq_some_iff.mp h).1
  have := all ⟨c, lt⟩
  simpa [h] using this

theorem EventKind.byte_num (k : EventKind) :
    (BitVec.ofNat 8 (k.code + 64 * k.severity.code)).toNat = k.code + 64 * k.severity.code := by
  cases k <;> rfl

theorem State.eventListReads : s.EventListReads := by
  intro n i e
  have byte (j : Nat) (hj : j < 16) := s.storeByte_event n hj
  refine ⟨?_, fun hk => ?_, fun c x hx hk => ?_, byte 2 (by omega), ?_, ?_, ?_, ?_, ?_⟩
  · rw [State.hostNum, show i = i + 0 from rfl, byte 0 (by omega)]
    show (flagByte e.filled).toNat = _
    cases e.filled <;> rfl
  · rw [State.hostNum, byte 1 (by omega)]
    show (match e.kind with
      | none => 0#8
      | some k => BitVec.ofNat 8 (k.code + 64 * k.severity.code)).toNat = 0
    rw [hk]
    rfl
  · obtain ⟨code, severity⟩ := eventKindTable_eq hx
    rw [State.hostNum, byte 1 (by omega)]
    show (match e.kind with
      | none => 0#8
      | some k => BitVec.ofNat 8 (k.code + 64 * k.severity.code)).toNat = _
    rw [hk, ← code, ← severity]
    exact x.1.byte_num
  · rw [State.hostNum, byte 3 (by omega)]
    exact BitVec.toNat_ofNat _ _
  · exact half_num (s.hostNum16_of (byte 4 (by omega)) (byte 5 (by omega)))
  · exact half_num (s.hostNum16_of (byte 6 (by omega)) (byte 7 (by omega)))
  · rw [s.hostNum32_of (byte 8 (by omega)) (byte 9 (by omega)) (byte 10 (by omega)) (byte 11 (by omega))]
    exact Nat.mod_eq_of_lt e.first.isLt
  · rw [s.hostNum32_of (byte 12 (by omega)) (byte 13 (by omega)) (byte 14 (by omega)) (byte 15 (by omega))]
    exact Nat.mod_eq_of_lt e.last.isLt

theorem State.inboundListReads : s.InboundListReads := by
  intro n i r
  have byte (j : Nat) (hj : j < 24) := s.storeByte_inbound n hj
  refine ⟨?_, byte 1 (by omega), byte 2 (by omega), byte 3 (by omega), byte 4 (by omega), ?_, ?_, fun j hj => ?_, fun j h₁ h₂ => ?_⟩
  · rw [State.hostNum, show i = i + 0 from rfl, byte 0 (by omega)]
    show (flagByte r.filled).toNat = _
    cases r.filled <;> rfl
  · rw [State.hostNum, byte 5 (by omega)]
    show (BitVec.ofNat 8 r.via.code).toNat = _
    cases r.via <;> rfl
  · rw [State.hostNum, byte 6 (by omega)]
    exact BitVec.toNat_ofNat _ _
  · rw [Nat.add_assoc, byte (7 + j) (by omega)]
    show ([flagByte r.filled, r.seq, r.sender, r.counter, r.command, BitVec.ofNat 8 r.via.code,
      BitVec.ofNat 8 r.payload.length] ++ r.payload.take 11).getD (7 + j) 0#8 = _
    rw [List.getD_append_right _ _ _ _ (by simp)]
    rw [List.getD_eq_getElem?_getD, List.getD_eq_getElem?_getD, List.getElem?_take]
    simp [hj]
  · rw [State.hostNum, byte j h₂, List.getD_eq_default _ _ (by simp [InboundRecord.bytes]; omega)]
    rfl

theorem State.storeReads : s.StoreReads := by
  refine ⟨s.controlsRead, s.cueSlotsRead, s.eventListReads, s.inboundListReads, fun a h₁ h₂ h₃ h₄ => ?_⟩
  unfold State.storeByte
  rw [if_neg (by omega), if_neg (by omega), if_neg (by omega), if_neg (by omega)]

/-! ### The captures (R157, R159) -/

/-- What SDO carries in a READ: the byte `n` places on (R157, R176). -/
theorem State.sdo_reading (h : s.port.phase = .reading) (n : Nat) :
    s.sdo true n = .data (s.servedByte (s.port.address + BitVec.ofNat 13 n)) := by
  unfold State.sdo
  rw [if_neg (by simp), h]
  rfl

theorem State.sdo_ignoring (h : s.port.phase = .ignoring) (n : Nat) : s.sdo true n = .low := by
  unfold State.sdo
  rw [if_neg (by simp), h]

theorem address_add (a : BitVec 13) (n : Nat) : a + BitVec.ofNat 13 n = BitVec.ofNat 13 (a.toNat + n) := by
  rw [BitVec.ofNat_add, BitVec.ofNat_toNat, BitVec.setWidth_eq]

/-- A READ gone on to an address stands there. -/
theorem State.readOn_address (b : BitVec 13) : (s.readOn (b - s.port.address).toNat).port = { s.port with address := b } := by
  unfold State.readOn
  rw [BitVec.ofNat_toNat, BitVec.setWidth_eq]
  rw [BitVec.add_comm, BitVec.sub_add_cancel]
  rfl

/-- The port behind the capture of UPTIME. -/
def State.uptimeCaptured (s : State) : State :=
  s.withPort { s.port with
    address := 5#13
    uptimeCapture := some s.uptime }

/-- The port behind the capture of ATTN_PENDING. -/
def State.pendingCaptured (s : State) : State :=
  s.withPort { s.port with
    address := 9#13
    pendingCapture := some s.attnPending }

theorem exec_uptimeReadCapture (h : s.port.phase = .reading) (ha : pendingComesFirst s.port.address = false) :
    exec .uptimeReadCapture s = .next s.uptimeCaptured := by
  have e : exec .uptimeReadCapture s = .next ((s.readOn (4#13 - s.port.address).toNat).withPort
      { (s.readOn (4#13 - s.port.address).toNat).port with
        address := (s.readOn (4#13 - s.port.address).toNat).port.address + 1#13
        uptimeCapture := some s.uptime }) := by
    show execUptimeReadCapture s = _
    unfold execUptimeReadCapture
    rw [if_pos ⟨h, ha⟩]
    rfl
  rw [e, s.readOn_address]
  rfl

theorem exec_attnPendingReadCapture (h : s.port.phase = .reading) (ha : pendingComesFirst s.port.address = true) :
    exec .attnPendingReadCapture s = .next s.pendingCaptured := by
  have e : exec .attnPendingReadCapture s = .next ((s.readOn (8#13 - s.port.address).toNat).withPort
      { (s.readOn (8#13 - s.port.address).toNat).port with
        address := (s.readOn (8#13 - s.port.address).toNat).port.address + 1#13
        pendingCapture := some s.attnPending }) := by
    show execAttnPendingReadCapture s = _
    unfold execAttnPendingReadCapture
    rw [if_pos ⟨h, ha⟩]
    rfl
  rw [e, s.readOn_address]
  rfl

/-- Without captures a READ finds the store's bytes. -/
theorem State.servedByte_plain (hu : s.port.uptimeCapture = none) (hp : s.port.pendingCapture = none) (a : BitVec 13) :
    s.servedByte a = s.storeByte a.toNat := by
  unfold State.servedByte
  rw [hu, hp]
  split
  case h_5 => rfl
  all_goals contradiction

/-- Behind its capture UPTIME is served from it. -/
theorem State.servedByte_uptime {u : Word} (h : s.port.uptimeCapture = some u) (n : Fin 3) :
    s.servedByte (5#13 + BitVec.ofNat 13 n.val) = u.extractLsb' (8 * (n.val + 1)) 8 := by
  unfold State.servedByte
  rw [h]
  fin_cases n <;> rfl

/-- Behind its capture ATTN_PENDING is served from it. -/
theorem State.servedByte_pending {p : Half} (h : s.port.pendingCapture = some p) :
    s.servedByte (9#13) = p.extractLsb' 8 8 := by
  unfold State.servedByte
  rw [h]
  cases s.port.uptimeCapture <;> rfl

end

/-- Settles O39: the port's rows by its phase, the captures by the address, and the bytes a READ finds by the layout. -/
theorem transactionsAndCaptures : Obligations.TransactionsAndCaptures := by
  intro s address i
  refine ⟨fun h => ⟨?_, ?_, fun h₁ h₂ => ?_⟩, fun h => ⟨fun v => ?_, ?_, fun n => s.sdo_ignoring h n⟩, rfl, fun h => ?_,
    s.servedByte_plain, s.storeReads, fun j hj => ?_, fun _ => rfl, rfl, fun n => ?_⟩
  · show execHostAddressComplete 0x2D#8 address s = _
    unfold execHostAddressComplete
    rw [if_pos h]
    rfl
  · show execHostAddressComplete 0x2C#8 address s = _
    unfold execHostAddressComplete
    rw [if_pos h]
    rfl
  · have unknown : HostMode.ofByte i = none := by
      unfold HostMode.ofByte
      rw [if_neg h₁, if_neg h₂]
    show execHostUnknownInstruction i s = _
    unfold execHostUnknownInstruction
    rw [if_pos ⟨h, unknown⟩]
    rfl
  · show execHostWrite v s = _
    unfold execHostWrite State.writeDataByte
    rw [if_neg (by rw [h]; nofun)]
  · show execHostAddressComplete i address s = _
    unfold execHostAddressComplete
    rw [if_neg (by rw [h]; nofun)]
  · intro a
    have first : pendingComesFirst s.port.address = true ↔ 4 < a ∧ a ≤ 8 := by simp [pendingComesFirst, a]
    refine ⟨fun n => ?_, fun ha => ?_, fun h₁ h₂ => ?_⟩
    · rw [s.sdo_reading h, address_add]
    · have no : pendingComesFirst s.port.address = false := by
        rw [Bool.eq_false_iff, ne_eq, first]
        omega
      refine ⟨⟨_, exec_uptimeReadCapture s h no, rfl, fun n => ?_, s.sameExcept_withPort _⟩, ?_⟩
      · exact (State.sdo_reading s.uptimeCaptured h n.val).trans (congrArg Sdo.data (State.servedByte_uptime _ rfl n))
      · show execAttnPendingReadCapture s = _
        unfold execAttnPendingReadCapture
        rw [if_neg (by simp [no])]
    · have yes := first.mpr ⟨h₁, h₂⟩
      refine ⟨⟨_, exec_attnPendingReadCapture s h yes, rfl, ?_, s.sameExcept_withPort _⟩, ?_⟩
      · exact (State.sdo_reading s.pendingCaptured h 0).trans (congrArg Sdo.data (State.servedByte_pending _ rfl))
      · show execUptimeReadCapture s = _
        unfold execUptimeReadCapture
        rw [if_neg (by simp [yes])]
  · show some (i.getMsbD j) = _
    rw [BitVec.getMsbD_eq_getLsbD]
    simp [hj]
  · have few := n.isLt
    rw [State.attnPending, BitVec.getLsbD_ofNat, testBit_maskOf, List.getD_eq_getElem _ _ (by simp)]
    simp
    omega

end Sys2Proof.Machine

/-! ## Host writes -/

namespace Sys2Proof.Machine

-- One proof at a time: proofs that wait for one another would each hold a thread.
set_option Elab.async false

/-! ### The access class of an address (12.2, 12.4) -/

/-- The sections stand apart, between the attention configuration and the cue slots. -/
theorem section_bounds (k : Fin 15) : 0x0100 ≤ sectionBase k ∧ sectionBase k + 4 + sectionLength k ≤ 0x0500 := by
  revert k
  decide

theorem sections_apart (j k : Fin 15) (h : j ≠ k) :
    sectionBase j + 4 + sectionLength j ≤ sectionBase k ∨ sectionBase k + 4 + sectionLength k ≤ sectionBase j := by
  revert j k
  decide

/-- An address of a section is found in it. -/
theorem sectionAt_of {a : Nat} {k : Fin 15} (h₁ : sectionBase k ≤ a) (h₂ : a < sectionBase k + 4 + sectionLength k) :
    sectionAt a = some (k, a - sectionBase k) := by
  have found : (List.finRange 15).find? (fun k => decide (sectionBase k ≤ a) && decide (a < sectionBase k + 4 + sectionLength k)) =
      some k := by
    refine find_finRange_eq_some (by simp [h₁, h₂]) fun j hj => ?_
    have := sections_apart j k (ne_of_lt hj)
    rw [Bool.eq_false_iff, ne_eq, Bool.and_eq_true, decide_eq_true_eq, decide_eq_true_eq]
    omega
  unfold sectionAt
  rw [found]
  rfl

/-- An address between the regions of the sections. -/
theorem accessClass_section {a : Nat} (h₁ : 0x39 ≤ a) (h₂ : a < 0x0500) :
    accessClass a = match sectionAt a with
      | some (k, 0) => .revision k
      | some (k, n + 1) => if n < 3 then .discarded else .body k
      | none => .discarded := by
  unfold accessClass
  rw [if_neg (by omega), if_neg (by omega), if_neg (by omega), if_neg (by omega), if_neg (by omega), if_neg (by omega),
    if_neg (by omega), if_neg (by omega)] <;> rfl

theorem accessClass_revision (k : Fin 15) : accessClass (sectionBase k) = .revision k := by
  have := section_bounds k
  rw [accessClass_section (by omega) (by omega), sectionAt_of le_rfl (by omega), Nat.sub_self]

theorem accessClass_body {a : Nat} {k : Fin 15} (h₁ : sectionBase k + 4 ≤ a) (h₂ : a < sectionBase k + 4 + sectionLength k) :
    accessClass a = .body k := by
  have := section_bounds k
  obtain ⟨n, hn⟩ : ∃ n, a - sectionBase k = n + 1 := ⟨a - sectionBase k - 1, by omega⟩
  rw [accessClass_section (by omega) (by omega), sectionAt_of (by omega) h₂, hn]
  exact if_neg (by omega)

theorem accessClass_config {a : Nat} (h₁ : 0x20 ≤ a) (h₂ : a < 0x39) : accessClass a = .attnConfig := by
  unfold accessClass
  rw [if_neg (by omega), if_neg (by omega), if_neg (by omega), if_pos ⟨h₁, h₂⟩]

theorem accessClass_cueField (n : Fin 8) {j : Nat} (h₁ : 1 ≤ j) (h₃ : j ≤ 3) :
    accessClass (0x0500 + 8 * n.val + j) = .cueField n j := by
  have hn := n.isLt
  generalize ha : 0x0500 + 8 * n.val + j = a
  have offset : (a - 0x0500) % 8 = j := by omega
  unfold accessClass
  rw [if_neg (by omega), if_neg (by omega), if_neg (by omega), if_neg (by omega), if_pos (by omega)]
  dsimp only
  rw [offset, if_neg (by omega), if_pos h₃]
  exact congrArg (AccessClass.cueField · j) (ofNat_of_eq n (by omega))

theorem accessClass_eventState (n : Fin 24) : accessClass (0x0C00 + 16 * n.val) = .eventState n := by
  have hn := n.isLt
  generalize ha : 0x0C00 + 16 * n.val = a
  unfold accessClass
  rw [if_neg (by omega), if_neg (by omega), if_neg (by omega), if_neg (by omega), if_neg (by omega), if_pos (by omega),
    if_pos (by omega)]
  exact congrArg AccessClass.eventState (ofNat_of_eq n (by omega))

theorem accessClass_inboundState (n : Fin 8) : accessClass (0x0E00 + 24 * n.val) = .inboundState n := by
  have hn := n.isLt
  generalize ha : 0x0E00 + 24 * n.val = a
  unfold accessClass
  rw [if_neg (by omega), if_neg (by omega), if_neg (by omega), if_neg (by omega), if_neg (by omega), if_neg (by omega),
    if_pos (by omega), if_pos (by omega)]
  exact congrArg AccessClass.inboundState (ofNat_of_eq n (by omega))

theorem accessClass_scratch {a : Nat} (h : 0x1000 ≤ a) : accessClass a = .scratch := by
  unfold accessClass
  rw [if_neg (by omega), if_neg (by omega), if_neg (by omega), if_neg (by omega), if_neg (by omega), if_neg (by omega),
    if_neg (by omega), if_pos h]

section
variable (s : State)

/-! ### The write by its class (R158) -/

/-- A host write that keeps its byte in the store (R158). -/
def AccessClass.Stores : AccessClass → Prop
  | .attnConfig | .revision _ | .body _ | .scratch => True
  | .attnTake | .nudge | .command | .cueState _ | .cueField _ _ | .eventState _ | .inboundState _ | .discarded => False

theorem State.storeAt_written {t : State} {a : Nat} {v : Byte} (h : ∀ n, t.storeAt n = (s.writeStore a [v]).storeAt n) :
    t.storeAt a = v ∧ s.StoreSameOutside t a 1 := by
  refine ⟨?_, fun n hn => ?_⟩
  · rw [h]
    simpa using s.storeAt_writeStore_inside a 0 [v] (by simp)
  · rw [h]
    exact s.storeAt_writeStore_outside a n [v] (by simpa using hn)

/-- A host write to a byte of the store. -/
theorem State.hostWriteAt_stores (a : Nat) (v : Byte) (h : (accessClass a).Stores) :
    (s.hostWriteAt a v).storeAt a = v ∧ s.StoreSameOutside (s.hostWriteAt a v) a 1 ∧
      s.SameExcept (s.hostWriteAt a v) [.store, .attention, .adoption, .draws] := by
  have write (u : State) : u.SameExcept (u.writeStore a [v]) [.store, .attention, .adoption, .draws] :=
    State.sameExcept_mono (u.sameExcept_writeStore a [v]) (by decide)
  have adopt (x : Adoption) : s.SameExcept (s.withAdoption x) [.store, .attention, .adoption, .draws] :=
    State.sameExcept_mono (s.sameExcept_withAdoption x) (by decide)
  unfold State.hostWriteAt
  generalize accessClass a = c at h
  cases c
  case attnConfig =>
    obtain ⟨at', outside⟩ := s.storeAt_written (t := (s.writeStore a [v]).evaluateAttn) (a := a) (v := v) fun _ => rfl
    exact ⟨at', outside, State.sameExcept_trans (write s)
      (State.sameExcept_mono (State.sameExcept_evaluateAttn _) (by decide))⟩
  case revision k =>
    obtain ⟨at', outside⟩ := s.storeAt_written (t := s.writeRevision k a v) (a := a) (v := v) fun _ => rfl
    exact ⟨at', outside, State.sameExcept_trans (adopt _) (write _)⟩
  case body k =>
    obtain ⟨u, e, store, frame⟩ : ∃ u, s.writeBody k a v = u.writeStore a [v] ∧ u.store = s.store ∧
        s.SameExcept u [.store, .attention, .adoption, .draws] := by
      unfold State.writeBody
      dsimp only
      split
      · split
        · exact ⟨_, rfl, rfl, State.sameExcept_trans (adopt _) (State.sameExcept_mono (State.sameExcept_withDraws _ _) (by decide))⟩
        · exact ⟨_, rfl, rfl, s.sameExcept_refl _⟩
      · exact ⟨_, rfl, rfl, s.sameExcept_refl _⟩
    have same (n : Nat) : (u.writeStore a [v]).storeAt n = (s.writeStore a [v]).storeAt n := by
      simp only [State.storeAt, State.writeStore, State.withStore, store]
    obtain ⟨at', outside⟩ := s.storeAt_written same
    dsimp only
    rw [e]
    exact ⟨at', outside, State.sameExcept_trans frame (write u)⟩
  case scratch =>
    obtain ⟨at', outside⟩ := s.storeAt_written (t := s.writeStore a [v]) (a := a) (v := v) fun _ => rfl
    exact ⟨at', outside, write s⟩
  all_goals exact h.elim

/-- A data byte of a WRITE: the byte taken by its class, and the address one on (R157). -/
theorem State.writeDataByte_keeps {v : Byte} {l : List Component} (hw : s.port.phase = .writing) (hp : s.part ≠ .starting)
    (h : s.SameExcept (s.hostWriteAt s.port.address.toNat v) l) (hl : .port ∉ l := by decide) :
    (s.writeDataByte v).port = { s.port with address := s.port.address + 1#13 } ∧
      s.SameExcept (s.writeDataByte v) (.port :: l) := by
  have port : (s.hostWriteAt s.port.address.toNat v).port = s.port := h .port hl
  rw [s.writeDataByte_eq v hw hp, port]
  exact ⟨rfl, State.sameExcept_trans (State.sameExcept_mono h fun c => List.mem_cons_of_mem _)
    (State.sameExcept_mono (State.sameExcept_withPort _ _) (by simp))⟩

theorem State.writeDataByte_starting (v : Byte) (hw : s.port.phase = .writing) (hp : s.part = .starting) :
    s.writeDataByte v = s.withPort { s.port with address := s.port.address + 1#13 } := by
  unfold State.writeDataByte
  rw [if_pos hw]
  dsimp only
  rw [if_pos hp]

/-- The addresses at which a host write of `v` is discarded (R158). -/
def Discards (a : Nat) (v : Byte) : Prop :=
  a < 0x0A ∨ 0x0D ≤ a ∧ a < 0x20 ∨
    0x39 ≤ a ∧ a < 0x0500 ∧ (∀ k : Fin 15, a < sectionBase k ∨ sectionBase k + 4 + sectionLength k ≤ a) ∨
    (∃ k : Fin 15, sectionBase k < a ∧ a < sectionBase k + 4) ∨
    0x0500 ≤ a ∧ a < 0x0540 ∧ 4 ≤ (a - 0x0500) % 8 ∨ 0x0540 ≤ a ∧ a < 0x0C00 ∨
    0x0C00 ≤ a ∧ a < 0x0D80 ∧ ((a - 0x0C00) % 16 ≠ 0 ∨ v ≠ 0#8) ∨ 0x0D80 ≤ a ∧ a < 0x0E00 ∨
    0x0E00 ≤ a ∧ a < 0x0EC0 ∧ ((a - 0x0E00) % 24 ≠ 0 ∨ v ≠ 0#8) ∨ 0x0EC0 ≤ a ∧ a < 0x1000

/-- A discarded write lies in no section's revision or body. -/
theorem Discards.not_section {a : Nat} {v : Byte} (h : Discards a v) (k : Fin 15) :
    a ≠ sectionBase k ∧ ¬ (sectionBase k + 4 ≤ a ∧ a < sectionBase k + 4 + sectionLength k) := by
  have bounds := section_bounds k
  unfold Discards at h
  rcases h with h | h | ⟨-, -, h⟩ | ⟨j, hj⟩ | h | h | h | h | h | h
  case inr.inr.inl =>
    have := h k
    omega
  case inr.inr.inr.inl =>
    have inside := section_bounds j
    by_cases e : j = k
    · subst e
      omega
    · have := sections_apart j k e
      omega
  all_goals omega

/-- The regions that a discarded write lies in. -/
theorem Discards.regions {a : Nat} {v : Byte} (h : Discards a v) :
    a < 0x0A ∨ 0x0D ≤ a ∧ a < 0x20 ∨ 0x39 ≤ a ∧ a < 0x0500 ∨ 0x0500 ≤ a ∧ a < 0x0540 ∧ 4 ≤ (a - 0x0500) % 8 ∨
      0x0540 ≤ a ∧ a < 0x0C00 ∨ 0x0C00 ≤ a ∧ a < 0x0D80 ∧ ((a - 0x0C00) % 16 ≠ 0 ∨ v ≠ 0#8) ∨ 0x0D80 ≤ a ∧ a < 0x0E00 ∨
      0x0E00 ≤ a ∧ a < 0x0EC0 ∧ ((a - 0x0E00) % 24 ≠ 0 ∨ v ≠ 0#8) ∨ 0x0EC0 ≤ a ∧ a < 0x1000 := by
  rcases h with h | h | ⟨h₁, h₂, -⟩ | ⟨k, hk⟩ | h
  · exact .inl h
  · exact .inr (.inl h)
  · exact .inr (.inr (.inl ⟨h₁, h₂⟩))
  · have := section_bounds k
    exact .inr (.inr (.inl (by omega)))
  · exact .inr (.inr (.inr h))

/-- A host write where it is discarded changes nothing. -/
theorem State.hostWriteAt_discarded (a : Nat) (v : Byte) (h : Discards a v) : s.hostWriteAt a v = s := by
  have apart := h.not_section
  have regions := h.regions
  unfold State.hostWriteAt
  rcases accessClass_cases a with ⟨ha, e⟩ | ⟨ha, e⟩ | ⟨ha, e⟩ | ⟨h₁, h₂, e⟩ | ⟨n, ha, e⟩ | ⟨n, j, h₁, h₃, ha, e⟩ | ⟨n, ha, e⟩ |
    ⟨n, ha, e⟩ | ⟨ha, e⟩ | ⟨k, ha, e⟩ | ⟨k, h₁, h₂, e⟩ | e <;> rw [e]
  case inr.inr.inr.inr.inr.inr.inl =>
    refine if_neg fun hv => ?_
    have hn := n.isLt
    simp only [hv, ne_eq, not_true_eq_false, or_false] at regions
    omega
  case inr.inr.inr.inr.inr.inr.inr.inl =>
    refine if_neg fun hv => ?_
    have hn := n.isLt
    simp only [hv, ne_eq, not_true_eq_false, or_false] at regions
    omega
  case inr.inr.inr.inr.inr.inr.inr.inr.inr.inl => exact absurd ha (apart k).1
  case inr.inr.inr.inr.inr.inr.inr.inr.inr.inr.inl => exact absurd ⟨h₁, h₂⟩ (apart k).2
  case inr.inr.inr.inr.inl | inr.inr.inr.inr.inr.inl =>
    have hn := n.isLt
    omega
  all_goals omega

theorem State.hostWriteAt_command (v : Byte) : s.hostWriteAt 0x0C v = if v = 0#8 then s else s.withCommand v := rfl

theorem State.hostWriteAt_cueField (n : Fin 8) {j : Nat} (h₁ : 1 ≤ j) (h₃ : j ≤ 3) (v : Byte) :
    s.hostWriteAt (0x0500 + 8 * n.val + j) v = s.withCueSlots (vecModify s.cueSlots n fun c => c.writeField j v) := by
  unfold State.hostWriteAt
  rw [accessClass_cueField n h₁ h₃]

end

/-- Settles O40: the address fixes the access class, whose write is stored, kept as a request, put into a slot's field or
discarded. -/
theorem hostWriteTakenOrDiscarded : Obligations.HostWriteTakenOrDiscarded := by
  refine ⟨by decide, fun s v hw => ?_⟩
  intro a moved row
  have class' (c : AccessClass) (h : accessClass a = c) : s.portClass = c := h
  refine ⟨fun h => ?_, fun h => ?_, fun h₁ h₂ => ?_, fun k h => ?_, fun n h => ?_, fun n h hv => ?_, fun n h => ?_, _, rfl, ?_,
    fun h => ?_, fun hp h => ?_, fun hp h => ?_, fun hp n j h h₁ h₃ => ?_⟩
  · show execAttnTake v s = execHostWrite v s
    unfold execAttnTake
    rw [if_pos (class' _ (by rw [h]; rfl))]
    rfl
  · show execNudge v s = execHostWrite v s
    unfold execNudge
    rw [if_pos (class' _ (by rw [h]; rfl))]
    rfl
  · show execAttnConfigWrite v s = execHostWrite v s
    unfold execAttnConfigWrite
    rw [if_pos (class' _ (accessClass_config h₁ h₂))]
    rfl
  · show execRevisionWrite v s = execHostWrite v s
    unfold execRevisionWrite
    rw [class' (.revision k) (by rw [h]; exact accessClass_revision k)]
    rfl
  · show execCueSlotStateWrite v s = execHostWrite v s
    unfold execCueSlotStateWrite
    rw [class' _ ((accessClass_cueState a n).mpr h)]
    rfl
  · show execEventRecordFree s = execHostWrite v s
    unfold execEventRecordFree
    rw [class' (.eventState n) (by rw [h]; exact accessClass_eventState n), hv]
    rfl
  · show execInboundRecordFree v s = execHostWrite v s
    unfold execInboundRecordFree
    rw [class' (.inboundState n) (by rw [h]; exact accessClass_inboundState n)]
    rfl
  · by_cases hp : s.part = .starting
    · rw [s.writeDataByte_starting v hw hp]
      rfl
    · exact (s.writeDataByte_keeps hw hp (s.keeps_hostWriteAt _ _).frame).1
  · by_cases hp : s.part = .starting
    · exact s.writeDataByte_starting v hw hp
    · rw [s.writeDataByte_eq v hw hp, s.hostWriteAt_discarded a v (h.resolve_left hp)]
      rfl
  · have stored : (accessClass a).Stores := by
      rcases h with h | ⟨h₁, h₂⟩ | ⟨k, h | ⟨h₁, h₂⟩⟩
      · rw [accessClass_scratch h]; trivial
      · rw [accessClass_config h₁ h₂]; trivial
      · rw [h, accessClass_revision]; trivial
      · rw [accessClass_body h₁ h₂]; trivial
    obtain ⟨at', outside, frame⟩ := s.hostWriteAt_stores a v stored
    obtain ⟨-, whole⟩ := s.writeDataByte_keeps hw hp frame
    have e := s.writeDataByte_eq v hw hp
    refine ⟨?_, fun n hn => ?_, whole .events (by decide), whole .drive (by decide), State.sameExcept_mono whole (by decide)⟩
    · rw [e]
      exact at'
    · rw [e]
      exact outside n hn
  · rw [s.writeDataByte_eq v hw hp, show s.port.address.toNat = 0x0C from h, s.hostWriteAt_command]
    split <;> rfl
  · have e := s.writeDataByte_eq v hw hp
    rw [show s.port.address.toNat = 0x0500 + 8 * n.val + j from h, s.hostWriteAt_cueField n h₁ h₃] at e
    have get (m : Fin 8) := vecModify_get s.cueSlots n m fun c => c.writeField j v
    rw [e]
    refine ⟨?_, fun m hm => (get m).trans (if_neg hm), State.sameExcept_trans (State.sameExcept_mono (s.sameExcept_withCueSlots _) (by decide))
      (State.sameExcept_mono (State.sameExcept_withPort _ _) (by decide))⟩
    refine (get n).trans ((if_pos rfl).trans ?_)
    interval_cases j <;> rfl

/-! ### The rows of the handshakes -/

section
variable (s : State)

/-- A pending flag set and ATTN evaluated again (R170). -/
theorem State.setPending_get (n m : Fin 12) (b : Bool) :
    (s.setPending n b).attention.pending[m] = if m = n then b else s.attention.pending[m] := by
  show (s.attention.pending.set n b)[m] = _
  split
  · rename_i h
    subst h
    exact Vector.getElem_set_self _
  · exact Vector.getElem_set_ne n.isLt m.isLt fun e => ‹¬ m = n› (Fin.ext e.symm)

/-- ATTN's level by the configuration in the store (R171). -/
theorem State.attnLevel_iff : s.attnLevel = true ↔ ∃ n : Fin 12, s.attention.pending[n] = true ∧
    s.storeAt (0x20 + n.val) = 0#8 ∧ min (s.storeAt (0x2C + n.val)).toNat 7 ≤ min (s.storeAt 0x38).toNat 7 := by
  simp only [State.attnLevel, List.any_eq_true, List.mem_finRange, true_and, Bool.and_eq_true]
  refine exists_congr fun n => and_congr_right fun _ => ?_
  have priority : attnConfigBase + 12 + n.val = 0x2C + n.val := congrArg (· + n.val) (by rfl)
  rw [State.attnListens, Bool.and_eq_true, beq_iff_eq, decide_eq_true_iff, priority]
  exact Iff.rfl

/-- A byte of the attention configuration (R171). -/
theorem State.hostWriteAt_config {a : Nat} (h₁ : 0x20 ≤ a) (h₂ : a < 0x39) (v : Byte) :
    s.hostWriteAt a v = (s.writeStore a [v]).evaluateAttn := by
  unfold State.hostWriteAt
  rw [accessClass_config h₁ h₂]

theorem State.hostWriteAt_revision (k : Fin 15) (v : Byte) :
    s.hostWriteAt (sectionBase k) v = s.writeRevision k (sectionBase k) v := by
  unfold State.hostWriteAt
  rw [accessClass_revision k]

theorem State.hostWriteAt_eventState (n : Fin 24) :
    s.hostWriteAt (0x0C00 + 16 * n.val) 0#8 = s.freeEventRecord n := by
  unfold State.hostWriteAt
  rw [accessClass_eventState n]
  rfl

theorem State.hostWriteAt_inboundState (n : Fin 8) (v : Byte) :
    s.hostWriteAt (0x0E00 + 24 * n.val) v = if v = 0#8 then s.freeInboundRecord n else s := by
  unfold State.hostWriteAt
  rw [accessClass_inboundState n]

/-- The pending flags after a host write to ATTN_TAKE (R170). -/
theorem State.takeAttn_eq (v : Byte) :
    (∀ n : Fin 12, (s.takeAttn v).attention.pending[n] = if n.val = v.toNat then false else s.attention.pending[n]) ∧
      (v.toNat < 12 → (s.takeAttn v).attention.asserted = (s.takeAttn v).attnLevel) ∧
      (12 ≤ v.toNat → s.takeAttn v = s) ∧ s.SameExcept (s.takeAttn v) [.attention] := by
  unfold State.takeAttn
  split
  · rename_i h
    refine ⟨fun n => ?_, fun _ => rfl, fun k => absurd h (by omega), State.sameExcept_trans (s.sameExcept_withAttention _) (State.sameExcept_evaluateAttn _)⟩
    rw [s.setPending_get ⟨v.toNat, h⟩ n false]
    simp only [Fin.ext_iff]
  · rename_i h
    refine ⟨fun n => ?_, fun k => absurd k h, fun _ => rfl, s.sameExcept_refl _⟩
    rw [if_neg (by have := n.isLt; omega)]

/-- What a host write to NUDGE leaves of the adoption unit (R162). -/
theorem State.offerNudge_eq (v : Byte) :
    (∀ k : Fin 15, k.val = v.toNat → k ∉ s.adoption.nudges → s.adoption.nudges.length < 4 →
      (s.offerNudge v).adoption = { s.adoption with nudges := s.adoption.nudges ++ [k] }) ∧
    (15 ≤ v.toNat ∨ 4 ≤ s.adoption.nudges.length ∨ (∃ k ∈ s.adoption.nudges, k.val = v.toNat) → s.offerNudge v = s) ∧
    s.SameExcept (s.offerNudge v) [.adoption] := by
  unfold State.offerNudge
  split
  · rename_i h
    refine ⟨fun k hk hn hl => ?_, fun refused => ?_, ?_⟩
    · have e : (⟨v.toNat, h⟩ : Fin 15) = k := Fin.ext hk.symm
      dsimp only
      rw [e, if_neg (by simp [hn]; omega)]
      rfl
    · refine if_pos ?_
      rcases refused with k | k | ⟨k, hk, e⟩
      · omega
      · exact .inr k
      · exact .inl (List.contains_iff_mem.mpr ((show k = ⟨v.toNat, h⟩ from Fin.ext e) ▸ hk))
    · dsimp only
      split
      · exact s.sameExcept_refl _
      · exact s.sameExcept_withAdoption _
  · rename_i h
    exact ⟨fun k hk => absurd (hk ▸ k.isLt) h, fun _ => rfl, s.sameExcept_refl _⟩

end

/-- Settles O41: each row's own byte, by its access class. -/
theorem handshakeWritesActOnTheirBytes : Obligations.HandshakeWritesActOnTheirBytes := by
  intro s v hw hp a moved
  obtain ⟨-, rows⟩ := hostWriteTakenOrDiscarded
  obtain ⟨attnTake, nudge, config, revision, cueState, eventState, inboundState, -⟩ := rows s v hw
  have e := s.writeDataByte_eq v hw hp
  have written : exec (.hostWrite v) s = .next (s.writeDataByte v) := rfl
  have keeps {l : List Component} (h : s.SameExcept (s.hostWriteAt a v) l) (hl : .port ∉ l) := s.writeDataByte_keeps hw hp h hl
  refine ⟨fun h₁ h₂ => ⟨_, (config h₁ h₂).trans written, ?_⟩, fun h => ⟨_, (attnTake h).trans written, ?_⟩,
    fun h => ⟨_, (nudge h).trans written, ?_⟩, fun k h => ⟨_, (revision k h).trans written, ?_⟩,
    fun n h => ⟨_, (cueState n h).trans written, ?_⟩, fun n h => ?_, fun n h => ⟨_, (inboundState n h).trans written, ?_⟩⟩
  · have stored : (accessClass a).Stores := by rw [accessClass_config h₁ h₂]; trivial
    obtain ⟨at', outside, -⟩ := s.hostWriteAt_stores a v stored
    have frame : s.SameExcept (s.hostWriteAt a v) [.store, .attention] := by
      rw [s.hostWriteAt_config h₁ h₂]
      exact (s.keeps_writeConfig a [v]).frame
    obtain ⟨port, whole⟩ := keeps frame (by decide)
    have level : (s.writeDataByte v).attention = { s.attention with asserted := (s.writeDataByte v).attnLevel } := by
      rw [e, show s.port.address.toNat = a from rfl, s.hostWriteAt_config h₁ h₂]
      rfl
    refine ⟨?_, fun n hn => ?_, level, ?_, port, State.sameExcept_mono whole (by decide)⟩
    · rw [e]
      exact at'
    · rw [e]
      exact outside n hn
    · rw [State.attnLevel_iff, level]
  · obtain ⟨pending, asserted, ignored, frame⟩ := s.takeAttn_eq v
    have same : s.hostWriteAt a v = s.takeAttn v := by rw [h]; rfl
    rw [← same] at frame
    obtain ⟨port, whole⟩ := keeps frame (by decide)
    have attention : (s.writeDataByte v).attention = (s.takeAttn v).attention := by
      rw [e, show s.port.address.toNat = a from rfl, same]
      rfl
    refine ⟨fun n => ?_, fun hv => ?_, fun hv => ?_, port, State.sameExcept_mono whole (by decide)⟩
    · rw [attention]
      exact pending n
    · rw [attention, asserted hv, e, show s.port.address.toNat = a from rfl, same]
      rfl
    · rw [attention, ignored hv]
  · obtain ⟨taken, ignored, frame⟩ := s.offerNudge_eq v
    have same : s.hostWriteAt a v = s.offerNudge v := by rw [h]; rfl
    rw [← same] at frame
    obtain ⟨port, whole⟩ := keeps frame (by decide)
    have adoption : (s.writeDataByte v).adoption = (s.offerNudge v).adoption := by
      rw [e, show s.port.address.toNat = a from rfl, same]
      rfl
    refine ⟨fun k hk hn hl => adoption.trans (taken k hk hn hl), fun hr => adoption.trans (congrArg State.adoption (ignored hr)),
      port, State.sameExcept_mono whole (by decide)⟩
  · have stored : (accessClass a).Stores := by rw [h, accessClass_revision]; trivial
    obtain ⟨at', outside, -⟩ := s.hostWriteAt_stores a v stored
    have same : s.hostWriteAt a v = s.writeRevision k a v := by rw [h]; exact s.hostWriteAt_revision k v
    have frame : s.SameExcept (s.hostWriteAt a v) [.store, .adoption] := by
      rw [same]
      exact State.sameExcept_trans (State.sameExcept_mono (s.sameExcept_withAdoption _) (by decide))
        (State.sameExcept_mono (State.sameExcept_writeStore _ _ _) (by decide))
    obtain ⟨port, whole⟩ := keeps frame (by decide)
    refine ⟨?_, fun n hn => ?_, ?_, port, State.sameExcept_mono whole (by decide)⟩
    · rw [e]
      exact at'
    · rw [e]
      exact outside n hn
    · rw [e, show s.port.address.toNat = a from rfl, same]
      show { s.adoption with marks := if s.storeAt a = v then s.adoption.marks else s.adoption.marks.set k true } = _
      split <;> rfl
  · have same : s.hostWriteAt a v = s.withCueSlots (vecModify s.cueSlots n fun c => c.writeState v) := by
      rw [h]
      exact s.hostWriteAt_cueState n v
    have frame : s.SameExcept (s.hostWriteAt a v) [.cueSlots] := by rw [same]; exact s.sameExcept_withCueSlots _
    obtain ⟨port, whole⟩ := keeps frame (by decide)
    have get (m : Fin 8) := vecModify_get s.cueSlots n m fun c => c.writeState v
    have slots : (s.writeDataByte v).cueSlots = vecModify s.cueSlots n fun c => c.writeState v := by
      rw [e, show s.port.address.toNat = a from rfl, same]
      rfl
    rw [slots]
    exact ⟨(get n).trans (if_pos rfl), fun m hm => (get m).trans (if_neg hm), port, State.sameExcept_mono whole (by decide)⟩
  · have class' : s.portClass = .eventState n := by
      show accessClass a = _
      rw [h]
      exact accessClass_eventState n
    have row : exec .eventRecordFree s = .next (s.writeDataByte 0#8) := by
      show execEventRecordFree s = _
      unfold execEventRecordFree
      rw [class']
    have same : s.hostWriteAt a 0#8 = s.freeEventRecord n := by rw [h]; exact s.hostWriteAt_eventState n
    have frame : s.SameExcept (s.hostWriteAt a 0#8) [.events] := by rw [same]; exact s.sameExcept_withEvents _
    obtain ⟨port, whole⟩ := s.writeDataByte_keeps hw hp frame
    have get (m : Fin 24) := vecModify_get s.events n m fun e => { e with filled := false }
    have events : (s.writeDataByte 0#8).events = vecModify s.events n fun e => { e with filled := false } := by
      rw [s.writeDataByte_eq 0#8 hw hp, show s.port.address.toNat = a from rfl, same]
      rfl
    refine ⟨_, row, ?_⟩
    rw [events]
    exact ⟨(get n).trans (if_pos rfl), fun m hm => (get m).trans (if_neg hm), port, State.sameExcept_mono whole (by decide)⟩
  · have same : s.hostWriteAt a v = if v = 0#8 then s.freeInboundRecord n else s := by
      rw [h]
      exact s.hostWriteAt_inboundState n v
    have inbound : (s.hostWriteAt a v).inbound =
        if v = 0#8 then vecModify s.inbound n fun r => { r with filled := false } else s.inbound := by
      rw [same]
      split <;> rfl
    have frame : s.SameExcept (s.hostWriteAt a v) [.inbound] := by
      rw [same]
      split
      · exact s.sameExcept_withInbound _
      · exact s.sameExcept_refl _
    obtain ⟨port, whole⟩ := keeps frame (by decide)
    have get (m : Fin 8) := vecModify_get s.inbound n m fun r => { r with filled := false }
    have tinbound : (s.writeDataByte v).inbound = (s.hostWriteAt a v).inbound := by
      rw [e]
      rfl
    rw [tinbound, inbound]
    refine ⟨?_, fun m hm => ?_, port, State.sameExcept_mono whole (by decide)⟩
    · split
      · exact (get n).trans (if_pos rfl)
      · rfl
    · split
      · exact (get m).trans (if_neg hm)
      · rfl

end Sys2Proof.Machine

/-! ## The resets and the entry to RUN (section 10.6) -/

namespace Sys2Proof.Machine

-- One proof at a time: proofs that wait for one another would each hold a thread.
set_option Elab.async false

variable (s : State)

/-- A COMMAND row whose part state takes it (R166). -/
theorem State.takeCommand_taken {code : Nat → Bool} {taken : PartState → Bool} (act : State → State)
    (hc : code s.command.toNat = true) (hp : taken s.part = true) :
    s.takeCommand code taken act = act ((s.withCommandResult .accepted).withCommand 0#8) := by
  unfold State.takeCommand
  rw [if_pos hc, if_pos hp]

/-! ### The store after a reset -/

/-- The store of a soft reset: the readings groups zeroed, the rest kept (R169). -/
theorem resetStore_read (m : Memory) (a : Nat) :
    (resetStore m).read 0#8 a = if 0x0800 ≤ a ∧ a < 0x0A70 then 0#8 else m.read 0#8 a := by
  unfold Memory.read resetStore
  split
  · rename_i h
    have gone (b : Byte) : (decide ((a, b).1 < readingsBase) || decide (retainedGroup ≤ (a, b).1)) = false := by
      show (decide (a < 0x0800) || decide (0x0A70 ≤ a)) = false
      simp only [Bool.or_eq_false_iff, decide_eq_false_iff_not]
      omega
    rw [Memory.lookup_filter_of_false m _ a gone]
    rfl
  · rename_i h
    have kept (b : Byte) : (decide ((a, b).1 < readingsBase) || decide (retainedGroup ≤ (a, b).1)) = true := by
      show (decide (a < 0x0800) || decide (0x0A70 ≤ a)) = true
      simp only [Bool.or_eq_true, decide_eq_true_iff]
      omega
    rw [Memory.lookup_filter_of_true m _ a kept]

/-- A byte out of a list of zeros is 0. -/
theorem getD_of_zeros {l : List Byte} (h : ∀ b ∈ l, b = 0#8) (i : Nat) : l.getD i 0#8 = 0#8 := by
  rw [List.getD_eq_getElem?_getD]
  cases e : l[i]? with
  | none => rfl
  | some b => exact h b (List.mem_of_getElem? e)

theorem cueSlot_byte_reset (n : Fin 8) (i : Nat) : ((Vector.replicate 8 CueSlot.empty)[n]).bytes.getD i 0#8 = 0#8 := by
  rw [show (Vector.replicate 8 CueSlot.empty)[n] = CueSlot.empty from Vector.getElem_replicate ..]
  exact getD_of_zeros (by decide) i

theorem event_byte_reset (n : Fin 24) (i : Nat) : ((Vector.replicate 24 EventRecord.zero)[n]).bytes.getD i 0#8 = 0#8 := by
  rw [show (Vector.replicate 24 EventRecord.zero)[n] = EventRecord.zero from Vector.getElem_replicate ..]
  exact getD_of_zeros (by decide) i

theorem inbound_byte_reset (n : Fin 8) (i : Nat) :
    ((Vector.replicate 8 InboundRecord.zero)[n]).bytes.getD i 0#8 = 0#8 := by
  rw [show (Vector.replicate 8 InboundRecord.zero)[n] = InboundRecord.zero from Vector.getElem_replicate ..]
  exact getD_of_zeros (by decide) i

/-- The control words of a machine at its reset values, from PART_STATE on (R168). -/
theorem controlByte_reset {u : State} (hp : u.part = .starting) (ht : u.time = 0)
    (ha : u.attention = State.reset.attention) (hc : u.command = 0#8) (hr : u.commandResult = .none) {n : Nat}
    (h₁ : 3 ≤ n) (h₂ : n < 0x10) : u.controlByte n = 0#8 := by
  have uptime : u.uptime = 0#32 := by simp [State.uptime, ht]
  have pending : u.attnPending = 0#16 := by
    unfold State.attnPending
    rw [ha]
    decide
  interval_cases n <;> simp only [State.controlByte, uptime, pending, hp, hc, hr] <;> rfl

/-- The store of a machine at its reset values: 0 behind the constants (R168). -/
theorem storeByte_reset {u : State} (hp : u.part = .starting) (ht : u.time = 0)
    (ha : u.attention = State.reset.attention) (hc : u.command = 0#8) (hr : u.commandResult = .none)
    (hcue : u.cueSlots = Vector.replicate 8 .empty) (he : u.events = Vector.replicate 24 .zero)
    (hi : u.inbound = Vector.replicate 8 .zero) (hs : u.store = []) {n : Nat} (h : 3 ≤ n) : u.storeByte n = 0#8 := by
  unfold State.storeByte
  split
  · exact controlByte_reset hp ht ha hc hr h ‹_›
  rw [hcue, he, hi]
  split
  · exact cueSlot_byte_reset _ _
  split
  · exact event_byte_reset _ _
  split
  · exact inbound_byte_reset _ _
  · unfold State.storeAt
    rw [hs]
    rfl

/-! ### RESET (R166, R169) -/

theorem exec_commandReset (h : s.command = 4#8) (hp : s.part = .run ∨ s.part = .quiescing ∨ s.part = .quiet) :
    exec .commandReset s = .next ((s.withCommandResult .accepted).withCommand 0#8).takeReset := by
  refine congrArg Host.Outcome.next (s.takeCommand_taken State.takeReset (by rw [h]; rfl) ?_)
  rcases hp with hp | hp | hp <;> rw [hp] <;> rfl

/-- Settles O45: the mark in QUIESCING; in QUIET the reset values, field by field. -/
theorem resetMarksOrResets : Obligations.ResetMarksOrResets := by
  intro s hc
  refine ⟨fun hp => ?_, fun hp => ?_⟩
  · rw [exec_commandReset s hc (.inr (.inl hp))]
    unfold State.takeReset
    rw [show ((s.withCommandResult .accepted).withCommand 0#8).part = .quiescing from hp]
    rfl
  · have e : exec .commandReset s = .next ((s.withCommandResult .accepted).withCommand 0#8).softReset := by
      rw [exec_commandReset s hc (.inr (.inr hp))]
      unfold State.takeReset
      rw [show ((s.withCommandResult .accepted).withCommand 0#8).part = .quiet from hp]
    exact ⟨_, e, rfl, rfl, rfl, rfl, rfl, rfl, resetStore_read s.store, fun n => Vector.getElem_replicate ..,
      fun n => Vector.getElem_replicate .., rfl, fun n => Vector.getElem_replicate ..,
      fun n => Vector.getElem_replicate .., rfl, fun k => Vector.getElem_replicate .., rfl, rfl, rfl, rfl, rfl, rfl, rfl,
      rfl, rfl, rfl, rfl, rfl, rfl, rfl, rfl, rfl⟩

/-! ### The entry to RUN (R168, R169) -/

/-- The state as RESET_DONE and PART_STATE are raised (R168, R169). -/
def State.resetDone (subject : Byte) : State := ((s.withPart .run).event .resetDone subject 0#16).raise .partState

/-- Out of an empty list RESET_DONE fills the first record. -/
theorem State.event_first {t : State} (k : EventKind) (subject : Byte) (detail : Half) (ha : t.part.active = true)
    (he : ∀ n : Fin 24, t.events[n] = .zero) : t.event k subject detail =
      ((t.withEvents (t.events.set 0 (t.filledRecord k subject detail))).withEventSeq t.nextEventSeq).raise .event := by
  have empty (n : Fin 24) : t.events[n].filled = false := by rw [he]; rfl
  have zeros : t.events = Vector.replicate 24 .zero := Vector.ext fun i hi => by
    rw [Vector.getElem_replicate]
    exact he ⟨i, hi⟩
  have none : t.findRepeat k subject = none := t.findRepeat_of_none k subject fun n h => by
    simp only [empty n, Bool.false_eq_true, false_and] at h
  have room : t.eventRoom k = some 0 := by
    unfold State.eventRoom
    rw [if_pos ⟨.inr (by rw [zeros]; decide), by rw [zeros]; simp [EventRecord.zero]⟩]
    exact t.freeEvent_of_lowest 0 (empty 0) fun j h => absurd h (by simp)
  exact t.event_fill detail ha none room

/-- What the entry to RUN raises, out of an empty list. -/
theorem State.resetDone_eq (subject : Byte) (he : ∀ n : Fin 24, s.events[n] = .zero) (hq : s.eventSeq = 0#16) :
    let t := s.resetDone subject
    t.part = .run ∧ t.events[(0 : Fin 24)] = ⟨true, some .resetDone, subject, 1, 1#16, 0#16, s.uptime, s.uptime⟩ ∧
      (∀ n : Fin 24, n ≠ 0 → t.events[n] = .zero) ∧ t.eventSeq = 1#16 ∧
      (∀ n : Fin 12, t.attention.pending[n] = (s.attention.pending[n] || n == 0 || n == 11)) ∧
      t.attention.asserted = t.attnLevel ∧ s.SameExcept t [.part, .events, .eventSeq, .attention] := by
  have filled := (s.withPart .run).event_first .resetDone subject 0#16 rfl he
  have e : s.resetDone subject = ((((s.withPart .run).withEvents
      (s.events.set 0 ((s.withPart .run).filledRecord .resetDone subject 0#16))).withEventSeq
        (s.withPart .run).nextEventSeq).setPending 0 true).setPending 11 true := by
    unfold State.resetDone
    rw [filled, State.raise_active _ .event rfl]
    exact State.raise_active _ .partState rfl
  have seq : (s.withPart .run).nextEventSeq = 1#16 := by
    show s.eventSeq + 1#16 = 1#16
    rw [hq]
    rfl
  refine ⟨by rw [e]; rfl, ?_, fun n hn => ?_, by rw [e]; exact seq, fun n => ?_, by rw [e]; rfl, ?_⟩
  · rw [e, ← seq]
    exact Vector.getElem_set_self ..
  · rw [e]
    exact (Vector.getElem_set_ne (by decide) n.isLt fun h => hn (Fin.ext h.symm)).trans (he n)
  · rw [e, State.setPending_get, State.setPending_get]
    by_cases h₁ : n = 11 <;> by_cases h₀ : n = 0 <;>
      simp [h₀, h₁, beq_eq_false_iff_ne.mpr]
  · exact State.sameExcept_trans (State.sameExcept_mono (s.sameExcept_withPart _) (by decide))
      (State.sameExcept_trans (State.sameExcept_mono (State.sameExcept_event _ _ _ _) (by decide))
        (State.sameExcept_mono (State.sameExcept_raise _ _) (by decide)))

/-- The slots of the first pass after a reset: the free-running ones that the default profile enables (R47, R48). -/
theorem passSet_reset (timer : Timer) : ({ Sequencer.reset with scanTimer := timer } : Sequencer).passSet =
    [0, 1, 2, 3, 4, 7, 8, 9, 10, 11] := by
  show Sequencer.reset.passSet = _
  decide

/-- The sequencer after the entry to RUN: the scan timer runs, and the ZERO slot of the first pass converts. -/
theorem State.startScanning_reset (h : s.sequencer = .reset) : s.startScanning = s.withSequencer { Sequencer.reset with
    scanTimer := .running (millis s.time + 5000), pass := some [1, 2, 3, 4, 7, 8, 9, 10, 11],
    inFlight := some ⟨0, none⟩ } := by
  have begins := (s.withSequencer { Sequencer.reset with scanTimer := .running (millis s.time + 5000) }).startPass_begins 0
    0 [1, 2, 3, 4, 7, 8, 9, 10, 11] (passSet_reset _) rfl rfl
  unfold State.startScanning
  rw [h]
  exact begins

/-- The blocks' timers at the entry to RUN (R43, R75, R87, R99, R107, R127, R155). -/
def State.blocksStarted : State :=
  let readings := Timer.running (millis s.time + 10000)
  { s with
    drive := { s.drive with readingsTimer := readings }, power := { s.power with readingsTimer := readings }
    cadence := { s.cadence with readingsTimer := readings }, radio := { s.radio with readingsTimer := readings }
    smoke := { s.smoke with budgetTimer := .running (millis s.time + 100000) }
    lamps := { s.lamps with tickTimer := .running (millis s.time + 10000) }
    sound := { s.sound with scanTimer := .running (millis s.time + 20000) } }

theorem State.startBlockTimers_eq : s.startBlockTimers = s.blocksStarted := by
  dsimp only [State.startBlockTimers, State.withDrive, State.withPower, State.withCadence, State.withSmoke,
    State.withLamps, State.withSound, State.withRadio]
  rfl

/-- What the entry to RUN starts (R47, R162, R168, R169). -/
def State.allStarted : State :=
  { s.blocksStarted with
    sequencer := { Sequencer.reset with
      scanTimer := .running (millis s.time + 5000), pass := some [1, 2, 3, 4, 7, 8, 9, 10, 11],
      inFlight := some ⟨0, none⟩ }
    adoption := { s.adoption with
      sweep := some 0, sweepDeferred := false, sweepTimer := .running (millis s.time + 10000) } }

theorem State.starts_eq (h : s.sequencer = .reset) :
    s.startBlockTimers.startScanning.startSweeping = s.allStarted := by
  have scans := s.blocksStarted.startScanning_reset h
  rw [s.startBlockTimers_eq, scans]
  rfl

/-- The slots of the first pass behind ZERO, and which they are. -/
theorem firstPass_slots : ([1, 2, 3, 4, 7, 8, 9, 10, 11] : List SlotIx).Pairwise (· < ·) ∧
    ∀ k : SlotIx, k ∈ ([1, 2, 3, 4, 7, 8, 9, 10, 11] : List SlotIx) ↔ k ≠ 0 ∧ k ≠ 5 ∧ k ≠ 6 := by decide

/-- The entry to RUN. -/
theorem State.enterRun_eq (subject : Byte) (he : ∀ n : Fin 24, s.events[n] = .zero) (hq : s.eventSeq = 0#16)
    (hs : s.sequencer = .reset) :
    let readings := Timer.running (millis s.time + 10000)
    let t := s.enterRun subject
    t.part = .run ∧
      t.events[(0 : Fin 24)] = ⟨true, some .resetDone, subject, 1, 1#16, 0#16, s.uptime, s.uptime⟩ ∧
      (∀ n : Fin 24, n ≠ 0 → t.events[n] = .zero) ∧ t.eventSeq = 1#16 ∧
      (∀ n : Fin 12, t.attention.pending[n] = (s.attention.pending[n] || n == 0 || n == 11)) ∧
      t.attention.asserted = t.attnLevel ∧
      t.drive = { s.drive with readingsTimer := readings } ∧ t.power = { s.power with readingsTimer := readings } ∧
      t.cadence = { s.cadence with readingsTimer := readings } ∧
      t.radio = { s.radio with readingsTimer := readings } ∧
      t.smoke = { s.smoke with budgetTimer := .running (millis s.time + 100000) } ∧
      t.lamps = { s.lamps with tickTimer := .running (millis s.time + 10000) } ∧
      t.sound = { s.sound with scanTimer := .running (millis s.time + 20000) } ∧
      t.sequencer.scanTimer = .running (millis s.time + 5000) ∧ t.sequencer.inFlight = some ⟨0, none⟩ ∧
      (∀ ks, t.sequencer.pass = some ks →
        ks.Pairwise (· < ·) ∧ ∀ k : SlotIx, k ∈ ks ↔ k ≠ 0 ∧ k ≠ 5 ∧ k ≠ 6) ∧
      t.sequencer.pass.isSome = true ∧
      t.adoption = { s.adoption with
        sweep := some 0, sweepDeferred := false, sweepTimer := .running (millis s.time + 10000) } ∧
      s.SameExcept t [.part, .events, .eventSeq, .attention, .drive, .power, .cadence, .radio, .smoke, .lamps,
        .sound, .sequencer, .adoption] := by
  intro readings t
  obtain ⟨part, first, others, seq, pending, level, frame⟩ := s.resetDone_eq subject he hq
  have starts : t = (s.resetDone subject).startBlockTimers.startScanning.startSweeping := rfl
  clear_value t
  generalize s.resetDone subject = u at *
  have sequencer : u.sequencer = s.sequencer := frame .sequencer (by decide)
  rw [u.starts_eq (sequencer.trans hs)] at starts
  have time : u.time = s.time := frame .time (by decide)
  have whole : s.SameExcept t [.part, .events, .eventSeq, .attention, .drive, .power, .cadence, .radio, .smoke, .lamps,
      .sound, .sequencer, .adoption] := by
    subst starts
    intro c hc
    have same := frame c
    cases c <;> simp at hc <;> exact same (by decide)
  have drive : u.drive = s.drive := frame .drive (by decide)
  have power : u.power = s.power := frame .power (by decide)
  have cadence : u.cadence = s.cadence := frame .cadence (by decide)
  have radio : u.radio = s.radio := frame .radio (by decide)
  have smoke : u.smoke = s.smoke := frame .smoke (by decide)
  have lamps : u.lamps = s.lamps := frame .lamps (by decide)
  have sound : u.sound = s.sound := frame .sound (by decide)
  have adoption : u.adoption = s.adoption := frame .adoption (by decide)
  have reading : Timer.running (millis u.time + 10000) = readings := by rw [time]
  rw [← drive, ← power, ← cadence, ← radio, ← smoke, ← lamps, ← sound, ← adoption, ← time]
  clear_value readings
  subst starts reading
  exact ⟨part, first, others, seq, pending, level, rfl, rfl, rfl, rfl, rfl, rfl, rfl, rfl, rfl,
    fun ks h => Option.some.inj h ▸ firstPass_slots, rfl, rfl, whole⟩

/-! ### The power-on reset (R168) -/

/-- Settles O47: the reset values of a power-on reset, byte by byte and field by field; the entry to RUN. -/
theorem resetsAndEntryToRun : Obligations.ResetsAndEntryToRun := by
  intro s
  refine ⟨⟨_, rfl, rfl, rfl, rfl, rfl, fun n hn => storeByte_reset rfl rfl rfl rfl rfl rfl rfl rfl rfl hn, rfl, rfl, rfl,
    rfl, rfl, rfl, rfl, rfl, rfl, rfl, rfl, rfl, rfl, rfl, rfl, rfl, rfl, fun c => ?_, rfl, rfl, fun k => ?_, rfl, rfl,
    rfl, rfl, rfl, rfl, rfl⟩, fun c subject hc he hq hs => ?_⟩
  · cases c <;> rfl
  · exact congrArg Lamp.pwm (Vector.getElem_replicate ..)
  · have e : exec c s = .next (s.enterRun subject) := by
      rcases hc with ⟨rfl, hp, rfl⟩ | ⟨rfl, hp, rfl⟩
      · exact congrArg Host.Outcome.next (if_pos hp)
      · exact congrArg Host.Outcome.next (if_pos hp)
    exact ⟨_, e, s.enterRun_eq subject he hq hs⟩

end Sys2Proof.Machine

/-! ## RESUME -/

namespace Sys2Proof.Machine

-- One proof at a time: proofs that wait for one another would each hold a thread.
set_option Elab.async false

section
variable (s : State)

/-! ### A drive that settles under T = 0 -/

/-- In mode OFF settling leaves R at the T that the consequences of R = 0 leave (R12). -/
theorem State.settleDrive_jumps (h : s.drive.profile.momentum = .off) :
    s.settleDrive.drive.ramp = s.followTarget.settleWindow.reachedZero.effectiveTarget := by
  have profile : s.followTarget.settleWindow.reachedZero.drive.profile = s.drive.profile :=
    ((State.driveSame_reachedZero _).same .profile).trans
      (((State.driveSame_settleWindow _).same .profile).trans (s.driveSame_followTarget.same .profile))
  calc s.settleDrive.drive.ramp
    _ = s.followTarget.settleWindow.reachedZero.followTarget.drive.ramp := (State.driveSame_settleWindow _).same .ramp
    _ = s.followTarget.settleWindow.reachedZero.followedRamp := State.followTarget_ramp _
    _ = s.followTarget.settleWindow.reachedZero.effectiveTarget := by rw [State.followedRamp, if_pos (by rw [profile, h])]

/-- R of a drive that settles with no speed asked for. -/
theorem State.settleDrive_ramp_of_grounded (h : s.drive.Grounded) :
    s.settleDrive.drive.ramp = if s.drive.profile.momentum = .off then 0 else s.drive.ramp := by
  split
  · rename_i off
    have grounded : s.followTarget.settleWindow.reachedZero.drive.Grounded :=
      ((h.of_same s.driveSame_followTarget).of_same (State.driveSame_settleWindow _)).of_same (State.driveSame_reachedZero _)
    rw [s.settleDrive_jumps off, State.effectiveTarget_of_grounded _ grounded]
  · exact s.settleDrive_ramp ‹_›

/-- A drive that follows T = 0. -/
theorem State.followedRamp_of_grounded (h : s.drive.Grounded) :
    s.followedRamp = if s.drive.profile.momentum = .off then 0 else s.drive.ramp := by
  rw [State.followedRamp, s.effectiveTarget_of_grounded h]

/-! ### The drive -/

/-- A TRIPPED drive that RESUME releases (R42). -/
def State.untripped : State :=
  let u := s.withDrive { s.drive with target := ⟨0, s.drive.target.direction, .none⟩, retryTimer := .stopped }
  (u.setDirection s.drive.target.direction).enterDriveState .idle

/-- The drive as RESUME leaves it, before it is settled (R42). -/
def State.driveResumed : State :=
  match s.drive.state with
  | .tripped => s.untripped
  | .halted | .locked => s.released s.drive.target.direction .none
  | .idle | .running | .reversing => s.directed 0 s.drive.target.direction .none

theorem State.driveResume_eq : s.driveResume = s.driveResumed.settleDrive := by
  obtain ⟨-, -, released, directed⟩ := s.writeTarget_eq 0 s.drive.target.direction .none
  unfold State.driveResume State.driveResumed
  cases h : s.drive.state with
  | tripped => rfl
  | halted => exact released (.inl h) rfl
  | locked => exact released (.inr h) rfl
  | idle => exact directed (.inl h)
  | running => exact directed (.inr (.inl h))
  | reversing => exact directed (.inr (.inr h))

/-- A TRIPPED drive is released with its count kept. -/
theorem State.untripped_eq (hs : s.drive.state = .tripped) :
    s.untripped.drive.state = .idle ∧ s.untripped.drive.direction = s.drive.target.direction ∧
      s.untripped.drive.target = ⟨0, s.drive.target.direction, .none⟩ ∧
      s.untripped.drive.tripCount = s.drive.tripCount ∧ s.untripped.drive.retryTimer = .stopped ∧
      s.untripped.AttendsAs (s.raise .drive) ∧ s.Follows s.untripped ∧
      s.SameExcept s.untripped [.drive, .smoke, .lamps, .store, .attention] := by
  unfold State.untripped
  dsimp only
  have held := s.keeps_withDrive { s.drive with target := ⟨0, s.drive.target.direction, .none⟩, retryTimer := .stopped }
  generalize hu : s.withDrive { s.drive with target := ⟨0, s.drive.target.direction, .none⟩, retryTimer := .stopped } = u at *
  have turned := u.driveSame_setDirection s.drive.target.direction
  have direction := u.setDirection_direction s.drive.target.direction
  have keeps := u.keeps_setDirection s.drive.target.direction
  have shown := u.shows_setDirection s.drive.target.direction
  have follows := u.follows_setDirection s.drive.target.direction
  generalize u.setDirection s.drive.target.direction = v at *
  have was : v.drive.state = .tripped := (turned.same .state).trans (by rw [← hu]; exact hs)
  have entered := v.driveSame_enterDriveState .idle none
  refine ⟨v.enterDriveState_state .idle none, (entered.same .direction).trans direction, (entered.same .target).trans ((turned.same .target).trans ?_),
    (entered.same .tripCount).trans ((turned.same .tripCount).trans ?_),
    (entered.same .retryTimer).trans ((turned.same .retryTimer).trans ?_), ?_, ?_, ?_⟩
  · rw [← hu]; rfl
  · rw [← hu]; rfl
  · rw [← hu]; rfl
  · exact (((State.AttendsAs.of_keeps held).trans (.of_shows shown)).raise .drive).trans
      (State.enterDriveState_attends (by rw [was]; nofun) (.inl (by rw [was]; rfl)) none)
  · exact (State.Follows.of_keeps held).trans (follows.trans (v.follows_enterDriveState .idle none))
  · exact (held.mono.trans (keeps.mono.trans (v.keeps_enterDriveState .idle none))).frame

/-- A stopped drive is released IDLE, and DRIVE is raised (R42, R44). -/
theorem State.driveResumed_stopped (hs : s.drive.state.stopped = true) :
    s.driveResumed.drive.state = .idle ∧ s.driveResumed.drive.direction = s.drive.target.direction ∧
      s.driveResumed.drive.target = ⟨0, s.drive.target.direction, .none⟩ ∧
      s.driveResumed.drive.tripCount = (if s.drive.state = .locked then 0 else s.drive.tripCount) ∧
      (s.drive.state = .tripped → s.driveResumed.drive.retryTimer = .stopped) ∧
      s.driveResumed.AttendsAs (s.raise .drive) ∧ s.Follows s.driveResumed ∧
      s.SameExcept s.driveResumed [.drive, .smoke, .lamps, .store, .attention] := by
  by_cases h : s.drive.state = .tripped
  · obtain ⟨state, direction, target, trips, retry, attends, follows, frame⟩ := s.untripped_eq h
    have e : s.driveResumed = s.untripped := by unfold State.driveResumed; rw [h]
    rw [e, if_neg (by rw [h]; nofun)]
    exact ⟨state, direction, target, trips, fun _ => retry, attends, follows, frame⟩
  · have held : s.drive.state = .halted ∨ s.drive.state = .locked := by
      cases k : s.drive.state <;> simp_all [DriveState.stopped]
    have e : s.driveResumed = s.released s.drive.target.direction .none := by
      unfold State.driveResumed
      rcases held with k | k <;> rw [k]
    obtain ⟨state, direction, target, trips, -, attends, frame⟩ := s.released_eq s.drive.target.direction .none held
    have follows := s.follows_released s.drive.target.direction .none
    rw [e]
    exact ⟨state, direction, target, trips, fun k => absurd k h, attends, follows, frame⟩

/-- A drive that is not stopped is directed to rest, and raises nothing (R42). -/
theorem State.driveResumed_moving (hs : s.drive.state.stopped = false) :
    s.driveResumed = s.directed 0 s.drive.target.direction .none := by
  unfold State.driveResumed
  cases h : s.drive.state with
  | halted | tripped | locked => rw [h] at hs; cases hs
  | idle | running | reversing => rfl

/-- The drive after RESUME (R42). -/
theorem State.driveResume_drive :
    let t := s.driveResume
    t.drive.target = ⟨0, s.drive.target.direction, .none⟩ ∧
      (s.drive.state.stopped = true → t.drive.state = .idle ∧ t.drive.direction = s.drive.target.direction ∧
        t.drive.tripCount = (if s.drive.state = .locked then 0 else s.drive.tripCount)) ∧
      (s.drive.state = .tripped → t.drive.retryTimer = .stopped) ∧
      (s.drive.state = .running ∨ s.drive.state = .reversing → s.drive.ramp ≠ 0 → s.drive.profile.momentum ≠ .off →
        t.drive.state = (if s.drive.target.direction = s.drive.direction then .running else .reversing) ∧
          t.drive.direction = s.drive.direction ∧ t.drive.ramp = s.drive.ramp) ∧
      (s.drive.state = .running ∨ s.drive.state = .reversing → s.drive.ramp = 0 ∨ s.drive.profile.momentum = .off →
        t.drive.state = .idle ∧ t.drive.direction = s.drive.target.direction ∧ t.drive.ramp = 0) := by
  intro t
  have ht : t = s.driveResumed.settleDrive := s.driveResume_eq
  have settled := s.driveResumed.driveSame_settleDrive
  by_cases hs : s.drive.state.stopped = true
  · obtain ⟨state, direction, target, trips, retry, -⟩ := s.driveResumed_stopped hs
    have rests := s.driveResumed.driveSame_settleDrive_of_resting (by rw [state]; decide)
    have stands (h : s.drive.state = .running ∨ s.drive.state = .reversing) : False := by
      rcases h with h | h <;> rw [h] at hs <;> cases hs
    rw [ht]
    exact ⟨(settled.same .target).trans target, fun _ => ⟨(rests.same .state).trans state,
      (rests.same .direction).trans direction, (rests.same .tripCount).trans trips⟩,
      fun h => (rests.same .retryTimer).trans (retry h), fun h => (stands h).elim, fun h => (stands h).elim⟩
  · have moving := Bool.eq_false_iff.mpr hs
    obtain ⟨target, -, still, moves, -⟩ := s.directed_eq 0 s.drive.target.direction .none
    have same := s.driveSame_directed 0 s.drive.target.direction .none
    rw [← s.driveResumed_moving moving] at target still moves same
    have grounded : s.driveResumed.drive.Grounded := .inr (by rw [target])
    have ramp := s.driveResumed.settleDrive_ramp_of_grounded grounded
    have followed := s.driveResumed.followedRamp_of_grounded grounded
    rw [same.same .profile, same.same .ramp] at ramp followed
    obtain ⟨stays, reached⟩ := s.driveResumed.settleDrive_state
    rw [target] at reached
    rw [ht]
    refine ⟨(settled.same .target).trans target, fun h => absurd h hs, fun h => absurd (by rw [h]; rfl) hs,
      fun h hr hoff => ?_, fun h hr => ?_⟩
    · rw [if_neg hoff] at ramp followed
      obtain ⟨direction, state⟩ := moves h hr
      obtain ⟨state', direction'⟩ := stays (.inl (by rwa [followed]))
      exact ⟨state'.trans state, direction'.trans direction, ramp⟩
    · have zero : (if s.drive.profile.momentum = .off then 0 else s.drive.ramp) = 0 := by
        split
        · rfl
        · exact hr.resolve_right ‹_›
      obtain ⟨turns, keeps, ended⟩ := reached (followed.trans zero)
      have walks : s.driveResumed.drive.state = .running ∧ s.driveResumed.drive.direction = s.drive.target.direction ∨
          s.driveResumed.drive.state = .reversing := by
        by_cases hz : s.drive.ramp = 0
        · rcases h with h | h
          · obtain ⟨direction, state⟩ := still h hz
            exact .inl ⟨state, direction⟩
          · have e : s.driveResumed = if s.drive.target.direction = s.drive.direction
                then (s.aimed 0 s.drive.target.direction .none).enterDriveState .running
                else s.aimed 0 s.drive.target.direction .none :=
              (s.driveResumed_moving moving).trans (s.directed_reversing 0 s.drive.target.direction .none h)
            rw [e]
            by_cases hd : s.drive.target.direction = s.drive.direction
            · have entered := (s.aimed 0 s.drive.target.direction .none).driveSame_enterDriveState .running none
              rw [if_pos hd]
              exact .inl ⟨State.enterDriveState_state _ _ _, (entered.same .direction).trans hd.symm⟩
            · rw [if_neg hd]
              exact .inr h
        · obtain ⟨direction, state⟩ := moves h hz
          split at state
          · exact .inl ⟨state, direction.trans (‹_ = _› : s.drive.target.direction = s.drive.direction).symm⟩
          · exact .inr state
      rcases walks with ⟨state, direction⟩ | state
      · exact ⟨ended (.inr state), (keeps (by rw [state]; nofun)).trans direction, ramp.trans zero⟩
      · exact ⟨ended (.inl state), turns state, ramp.trans zero⟩

/-- What the drive's part in RESUME raises and touches beside it (R42, R44). -/
theorem State.driveResume_raises :
    (s.drive.state.stopped = true → s.driveResume.AttendsAs (s.raise .drive)) ∧
      (s.drive.state.stopped = false → s.driveResume.AttendsAs s) ∧ s.Follows s.driveResume ∧
      s.SameExcept s.driveResume [.drive, .cadence, .smoke, .lamps, .store, .attention] := by
  rw [s.driveResume_eq]
  by_cases hs : s.drive.state.stopped = true
  · obtain ⟨-, -, target, -, -, attends, follows, frame⟩ := s.driveResumed_stopped hs
    have shown := s.driveResumed.shows_settleDrive_of_grounded (.inr (by rw [target]))
    exact ⟨fun _ => attends.trans (.of_shows shown), fun h => absurd hs (by rw [h]; nofun),
      follows.trans (State.follows_settleDrive _),
      State.sameExcept_trans (State.sameExcept_mono frame (by decide)) (State.sameExcept_mono shown.1 (by decide))⟩
  · obtain ⟨target, -, -, -, shown⟩ := s.directed_eq 0 s.drive.target.direction .none
    have follows := s.follows_directed 0 s.drive.target.direction .none
    rw [← s.driveResumed_moving (Bool.eq_false_iff.mpr hs)] at target shown follows
    have still := s.driveResumed.shows_settleDrive_of_grounded (.inr (by rw [target]))
    exact ⟨fun h => absurd h hs, fun _ => (State.AttendsAs.of_shows shown).trans (.of_shows still),
      follows.trans (State.follows_settleDrive _),
      State.sameExcept_trans (State.sameExcept_mono shown.1 (by decide)) (State.sameExcept_mono still.1 (by decide))⟩

/-! ### The other blocks -/

/-- The blocks beside the drive at RESUME. -/
def State.blocksResumed : State := (((s.radioResume.rereadFan).formLamps).soundResume).startSweeping

theorem State.fanDuty_congr {s t : State} (hp : t.part = s.part) (hs : t.smoke = s.smoke) : t.fanDuty = s.fanDuty := by
  unfold State.fanDuty
  rw [hp, hs]

/-- The receiver, the fan, the lamps, the sound engine and the sweep at RESUME (R97, R101, R113, R118, R154, R162). -/
theorem State.blocksResumed_eq (hp : s.part = .run) :
    let t := s.blocksResumed
    (s.radio.silence = .listening → t.radio = { s.radio with
      silenceTimer := .running (millis s.time + hundredMillis s.radio.profile.silenceTimeout) }) ∧
    (s.radio.silence ≠ .listening → t.radio = s.radio) ∧
    (s.sound.bank = .absent → s.sound.directive.mount = true → t.sound = { s.sound with
      bank := .mounting, fault := .none, progress := 0, header := none, cues := [], clips := [] }) ∧
    (s.sound.bank ≠ .absent ∨ s.sound.directive.mount = false → t.sound = s.sound) ∧
    t.smoke.fan = t.fanDuty ∧
    (∀ k : Fin 8, t.lamps.lamps[k].duty = t.lamps.lamps[k].level * s.lamps.factor / 256) ∧
    t.adoption = { s.adoption with
      sweep := some 0, sweepDeferred := false, sweepTimer := .running (millis s.time + 10000) } ∧
    s.SameExcept t [.radio, .smoke, .lamps, .sound, .store, .adoption] := by
  intro t
  have radio := s.keeps_radioResume
  have heard : (s.radio.silence = .listening → s.radioResume.radio = { s.radio with
      silenceTimer := .running (millis s.time + hundredMillis s.radio.profile.silenceTimeout) }) ∧
      (s.radio.silence ≠ .listening → s.radioResume.radio = s.radio) := by
    unfold State.radioResume
    split
    · exact ⟨fun h => by unfold State.listen; rw [← h]; rfl, fun h => absurd ‹_› h⟩
    all_goals exact ⟨fun h => by simp_all, fun _ => rfl⟩
  have ht : t = ((s.radioResume.rereadFan).formLamps.soundResume).startSweeping := rfl
  clear_value t
  generalize s.radioResume = a at *
  have fan : a.rereadFan.smoke.fan = a.rereadFan.fanDuty := rfl
  have reread := a.keeps_rereadFan
  generalize a.rereadFan = b at *
  have formed := b.sameExcept_formLamps
  obtain ⟨-, -, -, -, factor, -⟩ := b.formLamps_counters
  have part : b.part = .run := (reread.same .part).trans ((radio.same .part).trans hp)
  have duty (k : Fin 8) : b.formLamps.lamps.lamps[k].duty = b.formLamps.lamps.lamps[k].level * b.lamps.factor / 256 := by
    rw [b.formLamps_get]
    show b.lampDuty _ = _
    unfold State.lampDuty
    rw [part]
    rfl
  generalize b.formLamps = c at *
  have engine := c.keeps_soundResume
  have sound : c.sound = s.sound := (formed .sound (by decide)).trans ((reread.same .sound).trans (radio.same .sound))
  have mounts : (c.sound.bank = .absent → c.sound.directive.mount = true → c.soundResume.sound = { c.sound with
      bank := .mounting, fault := .none, progress := 0, header := none, cues := [], clips := [] }) ∧
      (c.sound.bank ≠ .absent ∨ c.sound.directive.mount = false → c.soundResume.sound = c.sound) := by
    unfold State.soundResume
    refine ⟨fun h k => ?_, fun h => ?_⟩
    · rw [if_pos ⟨h, k⟩]
      rfl
    · rw [if_neg (by rintro ⟨h', k⟩; rcases h with h | h; exacts [h h', by rw [h] at k; cases k])]
  rw [sound] at mounts
  generalize c.soundResume = d at *
  have smoke : d.smoke = b.smoke := (engine.same .smoke).trans (formed .smoke (by decide))
  have lamps : d.lamps = c.lamps := engine.same .lamps
  have factors : b.lamps.factor = s.lamps.factor := by rw [reread.same .lamps, radio.same .lamps]
  have parts : d.part = b.part := (engine.same .part).trans (formed .part (by decide))
  have whole : s.SameExcept d [.radio, .smoke, .lamps, .sound, .store, .adoption] :=
    State.sameExcept_trans (radio.mono.trans reread.mono).frame (State.sameExcept_trans (State.sameExcept_mono formed (by decide))
      (State.sameExcept_mono engine.frame (by decide)))
  have heard' : d.radio = a.radio := (engine.same .radio).trans ((formed .radio (by decide)).trans (reread.same .radio))
  have adoption : d.adoption = s.adoption := (engine.same .adoption).trans ((formed .adoption (by decide)).trans
    ((reread.same .adoption).trans (radio.same .adoption)))
  have time : d.time = s.time := whole .time (by decide)
  subst ht
  refine ⟨fun h => heard'.trans (heard.1 h), fun h => heard'.trans (heard.2 h), mounts.1, mounts.2, ?_, fun k => ?_, ?_,
    State.sameExcept_trans whole (State.sameExcept_mono (State.sameExcept_withAdoption _ _) (by decide))⟩
  · show d.smoke.fan = d.fanDuty
    rw [State.fanDuty_congr parts smoke, smoke, fan]
  · show d.lamps.lamps[k].duty = d.lamps.lamps[k].level * _ / 256
    rw [lamps, duty, factors]
  · rw [← adoption, ← time]
    rfl

/-! ### The command -/

/-- The part state, its timers and PART_STATE at RESUME (R166). -/
def State.resuming : State :=
  ((((s.withPart .run).withDeadline .stopped).withResetMark false).withAcks .none).raise .partState

theorem exec_commandResume (h : s.command = 3#8) (hp : s.part = .quiescing ∨ s.part = .quiet) :
    exec .commandResume s =
      .next ((s.withCommandResult .accepted).withCommand 0#8).resuming.driveResume.blocksResumed := by
  refine congrArg Host.Outcome.next (s.takeCommand_taken State.resume (by rw [h]; rfl) ?_)
  rcases hp with hp | hp <;> rw [hp] <;> rfl

/-- A raise does the same in every part state that takes it (R170). -/
theorem State.raise_withPart {p : PartState} (hs : s.part.active = true) (hp : p.active = true) (a : AttnSource) :
    (s.withPart p).raise a = (s.raise a).withPart p := by
  rw [s.raise_active a hs, State.raise_active _ a hp]
  rfl

/-- The state that the blocks take RESUME in. -/
theorem State.resuming_eq (hp : s.part.active = true) :
    let u := ((s.withCommandResult .accepted).withCommand 0#8).resuming
    u.AttendsAs ((s.raise .partState).withPart .run) ∧ u.part = .run ∧ u.deadline = .stopped ∧ u.resetMark = false ∧
      u.acks = .none ∧ u.command = 0#8 ∧ u.commandResult = .accepted ∧
      s.SameExcept u [.command, .commandResult, .part, .resetMark, .deadline, .acks, .attention] := by
  intro u
  have base : ((((((s.withCommandResult .accepted).withCommand 0#8).withPart .run).withDeadline .stopped).withResetMark
      false).withAcks .none).AttendsAs (s.withPart .run) := ⟨⟨rfl, rfl, fun _ _ _ => rfl⟩, rfl, rfl, rfl⟩
  have raised := State.keeps_raise ((((((s.withCommandResult .accepted).withCommand 0#8).withPart .run).withDeadline
    .stopped).withResetMark false).withAcks .none) .partState
  refine ⟨?_, raised.same .part, raised.same .deadline, raised.same .resetMark, raised.same .acks, raised.same .command,
    raised.same .commandResult, State.sameExcept_trans (fun c hc => ?_) (State.sameExcept_mono raised.frame (by decide))⟩
  · rw [← s.raise_withPart hp rfl]
    exact base.raise .partState
  · cases c with
    | store => exact fun _ => rfl
    | _ => simp at hc <;> rfl

end

/-- Settles O44: the part state's own record, the drive's part, and the other blocks'. -/
theorem resumeReturnsToRun : Obligations.ResumeReturnsToRun := by
  intro s hc hp
  have active : s.part.active = true := by rcases hp with hp | hp <;> rw [hp] <;> rfl
  obtain ⟨attends, part, deadline, mark, acks, command, result, frame⟩ := s.resuming_eq active
  rw [exec_commandResume s hc hp]
  generalize ((s.withCommandResult .accepted).withCommand 0#8).resuming = u at *
  have drive : u.drive = s.drive := frame .drive (by decide)
  have same := u.driveResume_drive
  obtain ⟨raises, quietly, follows, keeps⟩ := u.driveResume_raises
  rw [drive] at same raises quietly
  obtain ⟨target, stopped, retry, moves, rests⟩ := same
  generalize u.driveResume = v at *
  have run : v.part = .run := (keeps .part (by decide)).trans part
  obtain ⟨listens, deaf, mounts, unmounted, fan, duty, sweeps, behind⟩ := v.blocksResumed_eq run
  have radio : v.radio = s.radio := (keeps .radio (by decide)).trans (frame .radio (by decide))
  have sound : v.sound = s.sound := (keeps .sound (by decide)).trans (frame .sound (by decide))
  have adoption : v.adoption = s.adoption := (keeps .adoption (by decide)).trans (frame .adoption (by decide))
  have time : v.time = s.time := (keeps .time (by decide)).trans (frame .time (by decide))
  have factor : v.lamps.factor = s.lamps.factor :=
    follows.factor.trans (congrArg Lamps.factor (show u.lamps = s.lamps from frame .lamps (by decide)))
  rw [radio, time] at listens
  rw [radio] at deaf
  rw [sound] at mounts unmounted
  rw [adoption, time] at sweeps
  rw [factor] at duty
  generalize v.blocksResumed = t at *
  have drives : t.drive = v.drive := behind .drive (by decide)
  have attention : t.attention = v.attention := behind .attention (by decide)
  have heldAs (x : State) (h : v.AttendsAs x) : t.attention = x.attention := by
    obtain ⟨-, -, -, a⟩ := h
    exact attention.trans a
  rw [← drives] at target stopped retry moves rests
  refine ⟨t, rfl, ((behind .command (by decide)).trans (keeps .command (by decide))).trans command,
    ((behind .commandResult (by decide)).trans (keeps .commandResult (by decide))).trans result,
    (behind .part (by decide)).trans run, ((behind .deadline (by decide)).trans (keeps .deadline (by decide))).trans deadline,
    ((behind .resetMark (by decide)).trans (keeps .resetMark (by decide))).trans mark,
    ((behind .acks (by decide)).trans (keeps .acks (by decide))).trans acks, sweeps, target,
    t.effectiveTarget_of_grounded (.inr (by rw [target])), fun h => ?_, fun h => ?_, retry, moves, rests, listens, deaf,
    mounts, unmounted, fan, duty, ?_⟩
  · obtain ⟨state, direction, trips⟩ := stopped h
    refine ⟨state, direction, trips, (heldAs _ ((attends.raise .drive).trans (raises h))).trans ?_⟩
    rw [State.raise_withPart _ (((s.keeps_raise .partState).same .part) ▸ active) rfl]
    rfl
  · exact (heldAs _ (attends.trans (quietly h))).trans rfl
  · exact State.sameExcept_trans (State.sameExcept_mono frame (by decide))
      (State.sameExcept_trans (State.sameExcept_mono keeps (by decide)) (State.sameExcept_mono behind (by decide)))

end Sys2Proof.Machine

/-! ## The entry to QUIESCING, and the end of a quiesce -/

namespace Sys2Proof.Machine

-- One proof at a time: proofs that wait for one another would each hold a thread.
set_option Elab.async false

section
variable (s : State)

/-! ### A part state in which the outputs are off -/

theorem State.zeroDuty_of_quiet (h : s.part = .quiet ∨ s.part = .resetting) : s.zeroDuty = true := by
  rcases h with h | h <;> simp [State.zeroDuty, h]

/-- The fan read again in a part state that holds it at 0 (R97). -/
theorem State.fanDuty_of_off (h : s.part = .quiescing ∨ s.part = .quiet) : s.fanDuty = 0 :=
  if_pos (h.imp_right .inl)

theorem State.lampDuty_of_off (h : s.part = .quiescing ∨ s.part = .quiet) (level : Nat) : s.lampDuty level = 0 :=
  if_pos (h.imp_right .inl)

/-- The lamps formed in a part state that holds them dark (R112). -/
theorem State.formLamps_off (h : s.part = .quiescing ∨ s.part = .quiet) (k : Fin 8) :
    s.formLamps.lamps.lamps[k].duty = 0 ∧ s.formLamps.lamps.lamps[k].pwm = 0 := by
  rw [s.formLamps_get]
  exact ⟨s.lampDuty_of_off h _, by
    show min _ (s.lampDuty _) = 0
    rw [s.lampDuty_of_off h]
    exact Nat.min_zero _⟩

/-! ### The entry to QUIET (R167) -/

/-- The drive as QUIET takes it: forced no longer, its bridges latched. -/
def State.quieted : State :=
  (((((s.withPart .quiet).withDeadline .stopped).endForce).withAcks .none).latchBridge)

theorem State.enterQuiet_eq :
    let t := s.enterQuiet
    t.part = .quiet ∧ t.deadline = .stopped ∧ t.acks = .none ∧ t.bridgeMode = .coast ∧ t.drive.forced = false ∧
      (∀ c : Channel, t.appliedDuty c = 0 ∧ (t.drive.channels.get c).pwm = 0) ∧
      s.DriveSame t [.forced, .channels] ∧
      (∀ c : Channel, t.drive.channels.get c = { s.drive.channels.get c with pwm := 0 }) ∧
      t.smoke = { s.smoke with fan := 0, fanPwm := 0 } ∧
      (∀ k : Fin 8, t.lamps.lamps[k].duty = 0 ∧ t.lamps.lamps[k].pwm = 0) ∧
      t.AttendsAs ((s.withPart .quiet).raise .partState) ∧
      s.SameExcept t [.part, .deadline, .acks, .drive, .smoke, .lamps, .attention] := by
  intro t
  have latched (c : Channel) : s.quieted.drive.channels.get c = { s.drive.channels.get c with pwm := 0 } := by
    have zero : (((((s.withPart .quiet).withDeadline .stopped).endForce).withAcks .none)).appliedDuty c = 0 :=
      State.appliedDuty_of_zeroDuty _ c (State.zeroDuty_of_quiet _ (.inl rfl))
    unfold State.quieted
    rw [State.latchBridge_get, zero, Nat.min_zero]
    rfl
  have same : s.DriveSame s.quieted [.forced, .channels] := by
    intro f hf
    cases f with
    | forced | channels => simp at hf
    | _ => rfl
  have ht : t = (s.quieted.rereadFan.formLamps).raise .partState := rfl
  have fan : s.quieted.rereadFan.smoke = { s.smoke with fan := 0, fanPwm := 0 } := by
    have zero : s.quieted.fanDuty = 0 := s.quieted.fanDuty_of_off (.inr rfl)
    unfold State.rereadFan
    rw [zero]
    exact congrArg (fun n => ({ s.smoke with fan := 0, fanPwm := n } : Smoke)) (Nat.min_zero _)
  have formed := s.quieted.rereadFan.sameExcept_formLamps
  have dark := s.quieted.rereadFan.formLamps_off (.inr rfl)
  have raised := s.quieted.rereadFan.formLamps.keeps_raise .partState
  have base : s.quieted.rereadFan.AttendsAs (s.withPart .quiet) := ⟨⟨rfl, rfl, fun _ _ _ => rfl⟩, rfl, rfl, rfl⟩
  have attends := (base.trans (.of_frame formed)).raise .partState
  rw [← ht] at raised attends
  clear_value t
  have drive : t.drive = s.quieted.drive := (raised.same .drive).trans (formed .drive (by decide))
  have smoke : t.smoke = s.quieted.rereadFan.smoke := (raised.same .smoke).trans (formed .smoke (by decide))
  have part : t.part = .quiet := (raised.same .part).trans (formed .part (by decide))
  have off (c : Channel) : (t.drive.channels.get c).pwm = 0 := by rw [drive, latched]
  refine ⟨part, (raised.same .deadline).trans (formed .deadline (by decide)),
    (raised.same .acks).trans (formed .acks (by decide)), if_pos (.inl part), by rw [drive]; rfl, fun c => ⟨?_, off c⟩, ?_,
    fun c => ?_, smoke.trans fan, fun k => ?_, attends, ?_⟩
  · exact t.appliedDuty_of_zeroDuty c (t.zeroDuty_of_quiet (.inl part))
  · show s.drive.SameBut t.drive _
    rw [drive]
    exact same
  · rw [drive]
    exact latched c
  · rw [raised.same .lamps]
    exact dark k
  · refine State.sameExcept_trans (fun c hc => ?_) (State.sameExcept_trans (State.sameExcept_mono formed (by decide))
      (State.sameExcept_mono raised.frame (by decide)))
    cases c with
    | store => exact fun _ => rfl
    | _ => simp at hc <;> rfl

/-- The end of a quiesce leaves QUIET, or RESETTING by the mark (R167, R169). -/
theorem State.quiesceEnded_endQuiesce {u : State} (mark : u.resetMark = s.resetMark) : s.QuiesceEnded u.endQuiesce := by
  cases h : s.resetMark with
  | false =>
    have e : u.endQuiesce = u.enterQuiet := by
      unfold State.endQuiesce
      rw [mark, h]
      rfl
    rw [e]
    obtain ⟨part, deadline, acks, mode, -, duties, -, -, smoke, lamps, attends, frame⟩ := u.enterQuiet_eq
    obtain ⟨-, -, -, attention⟩ := attends
    have pending : u.enterQuiet.attention.pending[(11 : Fin 12)] = true := by
      rw [attention, State.raise_active _ .partState rfl, State.setPending_get]
      rfl
    exact ⟨deadline, acks, (frame .resetMark (by decide)).trans (mark.trans h), fun _ => ⟨part, mode, duties, by rw [smoke],
      by rw [smoke], lamps, pending⟩, fun k => absurd (h.symm.trans k) nofun⟩
  | true =>
    have e : u.endQuiesce = u.softReset := by
      unfold State.endQuiesce
      rw [mark, h]
      rfl
    rw [e]
    exact ⟨rfl, rfl, rfl, fun k => absurd (h.symm.trans k) nofun,
      fun _ => ⟨rfl, rfl, fun n => Vector.getElem_replicate .., rfl⟩⟩

/-! ### The drive at the entry (R40, R41) -/

/-- A drive that settles in QUIESCING raises nothing and brings no chuff. -/
theorem State.shows_settleDrive_quiescing (hp : s.part = .quiescing) :
    s.Shows s.settleDrive (.cadence :: Component.ofZero) ∧
      s.settleDrive.drive.ramp = if s.drive.profile.momentum = .off then 0 else s.drive.ramp := by
  have still (u : State) (hu : u.part = s.part) : u.effectiveTarget = 0 :=
    u.effectiveTarget_of_windingDown (.inl (hu.trans hp))
  have part : s.followTarget.settleWindow.reachedZero.part = s.part :=
    ((State.keeps_reachedZero _).same .part).trans
      (((State.keeps_settleWindow _).same .part).trans (s.keeps_followTarget.same .part))
  refine ⟨s.shows_settleDrive_of_zero (still s rfl) (still _ part), ?_⟩
  split
  · rw [s.settleDrive_jumps ‹_›, still _ part]
  · exact s.settleDrive_ramp ‹_›

/-- The drive at the entry to QUIESCING: its window closes and T is 0 (R40, R41). -/
theorem State.driveQuiesce_eq (hp : s.part = .quiescing) :
    let t := s.driveQuiesce
    s.drive.WindowShut t.drive ∧ t.drive.target = s.drive.target ∧
      t.drive.ramp = (if s.drive.profile.momentum = .off then 0 else s.drive.ramp) ∧
      s.Shows t (.cadence :: Component.ofZero) := by
  intro t
  have closing := s.driveSame_closeWindowEarly
  have shut := s.keeps_closeWindowEarly
  have part : s.closeWindowEarly.part = .quiescing := (shut.same .part).trans hp
  obtain ⟨shown, ramp⟩ := s.closeWindowEarly.shows_settleDrive_quiescing part
  rw [closing.same .profile, closing.same .ramp] at ramp
  exact ⟨s.windowShut_settleDrive (.inr (by rw [hp]; nofun)) rfl rfl,
    ((State.driveSame_settleDrive _).same .target).trans (closing.same .target), ramp,
    (State.Shows.of_keeps shut).mono.trans shown⟩

/-! ### The other blocks at the entry (R53, R62, R101, R113, R118, R133, R154, R162) -/

/-- The blocks beside the drive at the entry to QUIESCING. -/
def State.blocksQuiesced : State :=
  (s.soundQuiesce.smokeQuiesce.sequencerQuiesce.radioQuiesce.formLamps).adoptionQuiesce

theorem Voice.toFading_eq (v : Voice) : (v.state = .free ∨ v.state = .fading → v.toFading = v) ∧
    (v.state ≠ .free → v.state ≠ .fading → v.toFading = { v with state := .fading, fade := 320 }) := by
  unfold Voice.toFading
  cases h : v.state <;> simp

theorem Voice.toFading_busy (v : Voice) : v.toFading.busy = v.busy := by
  unfold Voice.toFading Voice.busy
  cases h : v.state <;> simp [h] <;> rfl

theorem Sound.anyBusy_iff (e : Sound) : e.anyBusy = true ↔ ∃ v : Fin 6, e.voices[v].busy = true := by
  unfold Sound.anyBusy
  rw [List.any_eq_true]
  constructor
  · rintro ⟨x, hx, busy⟩
    obtain ⟨i, hi, rfl⟩ := Vector.mem_iff_getElem.mp (Vector.mem_toList_iff.mp hx)
    exact ⟨⟨i, hi⟩, busy⟩
  · rintro ⟨v, busy⟩
    exact ⟨_, Vector.mem_toList_iff.mpr (Vector.getElem_mem v.isLt), busy⟩

theorem State.shows_soundQuiesce : s.Shows s.soundQuiesce [.sound, .store] := by
  have faded (u : Sound) : s.Shows (s.withSound u) [.sound, .store] :=
    (State.Shows.of_frame (s.sameExcept_withSound u)).mono
  refine (faded _).trans (.ite (fun _ => ?_) fun _ => .refl _ _)
  exact (State.Shows.of_frame (State.sameExcept_withSound _ _)).mono.trans (State.shows_writeGroup _ _ _ _).mono

/-- The sound engine at the entry: its busy voices fade, and a mount is abandoned (R118, R133). -/
theorem State.soundQuiesce_eq :
    let t := s.soundQuiesce
    (∀ v : Fin 6, t.sound.voices[v] = s.sound.voices[v].toFading) ∧
      t.sound.bank = (if s.sound.bank = .mounting then .absent else s.sound.bank) ∧
      t.sound.anyBusy = s.sound.anyBusy := by
  intro t
  have voices : t.sound.voices = vecMap Voice.toFading s.sound.voices ∧
      t.sound.bank = (if s.sound.bank = .mounting then .absent else s.sound.bank) := by
    show (s.soundQuiesce).sound.voices = _ ∧ (s.soundQuiesce).sound.bank = _
    unfold State.soundQuiesce
    dsimp only
    split
    · exact ⟨rfl, (if_pos ‹_›).symm⟩
    · exact ⟨rfl, (if_neg ‹_›).symm⟩
  obtain ⟨voices, bank⟩ := voices
  refine ⟨fun v => by rw [voices, vecMap_get], bank, ?_⟩
  rw [Bool.eq_iff_iff, Sound.anyBusy_iff, Sound.anyBusy_iff, voices]
  simp only [vecMap_get, Voice.toFading_busy]

/-- The blocks beside the drive, by their records. -/
theorem State.blocksQuiesced_eq (hp : s.part = .quiescing) :
    let t := s.blocksQuiesced
    (∀ v : Fin 6, t.sound.voices[v] = s.sound.voices[v].toFading) ∧
      t.sound.bank = (if s.sound.bank = .mounting then .absent else s.sound.bank) ∧
      t.sound.anyBusy = s.sound.anyBusy ∧
      t.smoke.heater = 0 ∧ t.smoke.heaterPwm = 0 ∧ t.smoke.fan = 0 ∧ t.smoke.fanPwm = 0 ∧
      (∀ k : Fin 8, t.lamps.lamps[k].duty = 0 ∧ t.lamps.lamps[k].pwm = 0) ∧
      t.radio = { s.radio.toHunt with silenceTimer := .stopped } ∧
      t.sequencer = { s.sequencer with requests := [] } ∧
      t.adoption = { s.adoption with sweep := none, sweepDeferred := false, sweepTimer := .stopped } ∧
      s.Shows t [.sound, .smoke, .sequencer, .radio, .lamps, .adoption, .store] := by
  intro t
  obtain ⟨voices, bank, busy⟩ := s.soundQuiesce_eq
  have engine := s.keeps_soundQuiesce
  have shown := s.shows_soundQuiesce
  have ht : t = (s.soundQuiesce.smokeQuiesce.sequencerQuiesce.radioQuiesce.formLamps).adoptionQuiesce := rfl
  clear_value t
  generalize s.soundQuiesce = a at *
  have part : a.part = .quiescing := (engine.same .part).trans hp
  have off : (a.withSmoke (a.smoke.setHeater 0)).fanDuty = 0 := State.fanDuty_of_off _ (.inl part)
  have smoke : a.smokeQuiesce.smoke.heater = 0 ∧ a.smokeQuiesce.smoke.heaterPwm = 0 ∧ a.smokeQuiesce.smoke.fan = 0 ∧
      a.smokeQuiesce.smoke.fanPwm = 0 := by
    refine ⟨rfl, Nat.min_zero _, off, ?_⟩
    show min a.smoke.fanPwm (a.withSmoke (a.smoke.setHeater 0)).fanDuty = 0
    rw [off]
    exact Nat.min_zero _
  have burner := a.keeps_smokeQuiesce
  generalize a.smokeQuiesce = b at *
  have steps := (b.keeps_sequencerQuiesce.mono (m := [.sequencer, .radio])).trans (State.keeps_radioQuiesce _).mono
  have sequencer : b.sequencerQuiesce.radioQuiesce.sequencer = { b.sequencer with requests := [] } := rfl
  have radio : b.sequencerQuiesce.radioQuiesce.radio = { b.radio.toHunt with silenceTimer := .stopped } := rfl
  generalize b.sequencerQuiesce.radioQuiesce = c at *
  have formed := c.sameExcept_formLamps
  have dark := c.formLamps_off (.inl ((steps.same .part).trans ((burner.same .part).trans part)))
  generalize c.formLamps = d at *
  subst ht
  rw [burner.same .radio, engine.same .radio] at radio
  rw [burner.same .sequencer, engine.same .sequencer] at sequencer
  have sound : d.sound = a.sound :=
    (formed .sound (by decide)).trans ((steps.same .sound).trans (burner.same .sound))
  have smokes : d.smoke = b.smoke := (formed .smoke (by decide)).trans (steps.same .smoke)
  have adoption : d.adoption = s.adoption := (formed .adoption (by decide)).trans ((steps.same .adoption).trans
    ((burner.same .adoption).trans (engine.same .adoption)))
  obtain ⟨heater, heaterPwm, fan, fanPwm⟩ := smoke
  refine ⟨fun v => ?_, ?_, ?_, ?_, ?_, ?_, ?_, dark, (formed .radio (by decide)).trans radio,
    (formed .sequencer (by decide)).trans sequencer, ?_, ?_⟩
  · show d.sound.voices[v] = _
    rw [sound, voices]
  · show d.sound.bank = _
    rw [sound, bank]
  · show d.sound.anyBusy = _
    rw [sound, busy]
  · show d.smoke.heater = 0
    rw [smokes, heater]
  · show d.smoke.heaterPwm = 0
    rw [smokes, heaterPwm]
  · show d.smoke.fan = 0
    rw [smokes, fan]
  · show d.smoke.fanPwm = 0
    rw [smokes, fanPwm]
  · rw [← adoption]
    rfl
  · exact shown.mono.trans ((State.Shows.of_keeps burner).mono.trans ((State.Shows.of_keeps steps).mono.trans
      ((State.Shows.of_frame formed).mono.trans (State.Shows.of_frame (State.sameExcept_withAdoption _ _)).mono)))

/-! ### The commands that quiesce (R166, R167) -/

/-- The part state's own record at the entry to QUIESCING, as PART_STATE is raised. -/
def State.windingDown (mark : Bool) : State :=
  ((((s.withPart .quiescing).withResetMark mark).withDeadline (s.startTimer deadlineInterval)).withAcks s.firstAcks).raise
    .partState

theorem State.windingDown_eq (mark : Bool) (hp : s.part.active = true) :
    let t := s.windingDown mark
    t.part = .quiescing ∧ t.resetMark = mark ∧ t.deadline = .running (millis s.time + 3000000) ∧ t.acks = s.firstAcks ∧
      t.AttendsAs ((s.raise .partState).withPart .quiescing) ∧
      s.SameExcept t [.part, .resetMark, .deadline, .acks, .attention] := by
  intro t
  have base : (((s.withPart .quiescing).withResetMark mark).withDeadline (s.startTimer deadlineInterval)).withAcks
      s.firstAcks |>.AttendsAs (s.withPart .quiescing) := ⟨⟨rfl, rfl, fun _ _ _ => rfl⟩, rfl, rfl, rfl⟩
  have raised := State.keeps_raise ((((s.withPart .quiescing).withResetMark mark).withDeadline
    (s.startTimer deadlineInterval)).withAcks s.firstAcks) .partState
  refine ⟨raised.same .part, raised.same .resetMark, raised.same .deadline, raised.same .acks, ?_,
    State.sameExcept_trans (fun c hc => ?_) (State.sameExcept_mono raised.frame (by decide))⟩
  · rw [← s.raise_withPart hp rfl]
    exact base.raise .partState
  · cases c with
    | store => exact fun _ => rfl
    | _ => simp at hc <;> rfl

theorem State.enterQuiescing_eq (mark : Bool) :
    s.enterQuiescing mark = (s.windingDown mark).driveQuiesce.blocksQuiesced.settleQuiesce := rfl

/-- The state in which the command's quiesce begins. -/
theorem exec_quiesces {c : Instr} {mark : Bool} (hp : s.part = .run)
    (h : c = .commandQuiesce ∧ s.command = 2#8 ∧ mark = false ∨ c = .commandReset ∧ s.command = 4#8 ∧ mark = true) :
    exec c s = .next (((s.withCommandResult .accepted).withCommand 0#8).enterQuiescing mark) := by
  rcases h with ⟨rfl, hc, rfl⟩ | ⟨rfl, hc, rfl⟩
  · exact congrArg Host.Outcome.next (s.takeCommand_taken (fun s => s.enterQuiescing false) (by rw [hc]; rfl) (by rw [hp]; rfl))
  · rw [exec_commandReset s hc (.inl hp)]
    unfold State.takeReset
    rw [show ((s.withCommandResult .accepted).withCommand 0#8).part = .run from hp]

/-- Every block wound down, before the acknowledgements are looked at. -/
def State.woundDown (mark : Bool) : State :=
  (((s.withCommandResult .accepted).withCommand 0#8).windingDown mark).driveQuiesce.blocksQuiesced

theorem State.woundDown_eq (mark : Bool) (hp : s.part = .run) :
    let t := s.woundDown mark
    t.command = 0#8 ∧ t.commandResult = .accepted ∧ t.part = .quiescing ∧ t.resetMark = mark ∧
      t.deadline = .running (millis s.time + 3000000) ∧
      t.acksNow = ⟨t.drive.ramp == 0, !s.sound.anyBusy, true, s.sequencer.inFlight.isNone, true, true,
        s.adoption.visit.isNone⟩ ∧
      t.AttendsAs ((s.raise .partState).withPart .quiescing) ∧ t.drive.target = s.drive.target ∧
      t.drive.ramp = (if s.drive.profile.momentum = .off then 0 else s.drive.ramp) ∧
      s.drive.WindowShut t.drive ∧ t.smoke.heater = 0 ∧ t.smoke.heaterPwm = 0 ∧ t.smoke.fan = 0 ∧
      t.smoke.fanPwm = 0 ∧ (∀ k : Fin 8, t.lamps.lamps[k].duty = 0 ∧ t.lamps.lamps[k].pwm = 0) ∧
      (∀ v : Fin 6, t.sound.voices[v] = s.sound.voices[v].toFading) ∧
      t.sound.bank = (if s.sound.bank = .mounting then .absent else s.sound.bank) ∧
      t.radio = { s.radio.toHunt with silenceTimer := .stopped } ∧
      t.sequencer = { s.sequencer with requests := [] } ∧
      t.adoption = { s.adoption with sweep := none, sweepDeferred := false, sweepTimer := .stopped } ∧
      s.SameExcept t [.command, .commandResult, .part, .resetMark, .deadline, .acks, .drive, .sequencer, .cadence,
        .smoke, .lamps, .sound, .radio, .adoption, .store, .attention] := by
  have active : s.part.active = true := by rw [hp]; rfl
  unfold State.woundDown
  dsimp only
  have base : s.SameExcept ((s.withCommandResult .accepted).withCommand 0#8) [.command, .commandResult] :=
    State.sameExcept_trans (State.sameExcept_mono (s.sameExcept_withCommandResult _) (by decide))
      (State.sameExcept_mono (State.sameExcept_withCommand _ _) (by decide))
  have begun := ((s.withCommandResult .accepted).withCommand 0#8).windingDown_eq mark active
  have same : ((s.withCommandResult .accepted).withCommand 0#8).AttendsAs s := ⟨⟨rfl, rfl, fun _ _ _ => rfl⟩, rfl, rfl, rfl⟩
  have raised : ((((s.withCommandResult .accepted).withCommand 0#8).raise .partState).withPart .quiescing).AttendsAs
      ((s.raise .partState).withPart .quiescing) := by
    obtain ⟨⟨-, t, c⟩, e⟩ := same.raise .partState
    exact ⟨⟨rfl, t, c⟩, e⟩
  obtain ⟨part, marked, deadline, acks, attends, frame⟩ := begun
  generalize ((s.withCommandResult .accepted).withCommand 0#8).windingDown mark = u at *
  have drive : u.drive = s.drive := frame .drive (by decide)
  obtain ⟨shut, target, ramp, shown⟩ := u.driveQuiesce_eq part
  generalize u.driveQuiesce = v at *
  have part' : v.part = .quiescing := (shown.same .part).trans part
  obtain ⟨voices, bank, busy, heater, heaterPwm, fan, fanPwm, dark, radio, sequencer, adoption, behind⟩ :=
    v.blocksQuiesced_eq part'
  generalize v.blocksQuiesced = w at *
  rw [drive] at shut target ramp
  have sound : v.sound = s.sound := (shown.same .sound).trans (frame .sound (by decide))
  have heard : v.radio = s.radio := (shown.same .radio).trans (frame .radio (by decide))
  have converts : v.sequencer = s.sequencer := (shown.same .sequencer).trans (frame .sequencer (by decide))
  have adopts : v.adoption = s.adoption := (shown.same .adoption).trans (frame .adoption (by decide))
  rw [sound] at voices bank busy
  rw [heard] at radio
  rw [converts] at sequencer
  rw [adopts] at adoption
  have drives : w.drive = v.drive := behind.same .drive
  have acked : w.acks = { Acks.none with
      smoke := true, sequencer := s.sequencer.inFlight.isNone, radio := true, lamps := true } :=
    (behind.same .acks).trans ((shown.same .acks).trans acks)
  rw [← drives] at shut target ramp
  refine ⟨(behind.same .command).trans ((shown.same .command).trans (frame .command (by decide))),
    (behind.same .commandResult).trans ((shown.same .commandResult).trans (frame .commandResult (by decide))),
    (behind.same .part).trans part', (behind.same .resetMark).trans ((shown.same .resetMark).trans marked),
    (behind.same .deadline).trans ((shown.same .deadline).trans deadline), ?_,
    (raised.trans attends).trans ((State.AttendsAs.of_shows shown).trans (.of_shows behind)), target, ramp, shut, heater,
    heaterPwm, fan, fanPwm, dark, voices, bank, radio, sequencer, adoption, ?_⟩
  · unfold State.acksNow
    rw [acked, adoption, busy]
    rfl
  · exact State.sameExcept_trans (State.sameExcept_mono base (by decide)) (State.sameExcept_trans
      (State.sameExcept_mono frame (by decide)) (State.sameExcept_trans (State.sameExcept_mono shown.1 (by decide))
        (State.sameExcept_mono behind.1 (by decide))))

/-- A source raised once more stands as it stood (R170). -/
theorem State.raise_again {t : State} (h : t.part.active = true) (a : AttnSource) :
    ((t.raise a).raise a).AttendsAs (t.raise a) := by
  have part : (t.raise a).part.active = true := ((t.keeps_raise a).same .part) ▸ h
  rw [State.raise_active _ a part, t.raise_active a h]
  have twice : (t.setPending a.index true).attention.pending.set a.index true = (t.setPending a.index true).attention.pending := by
    refine Vector.ext fun i hi => ?_
    show ((t.attention.pending.set a.index true).set a.index true)[i] = (t.attention.pending.set a.index true)[i]
    simp only [Vector.getElem_set]
    split <;> rfl
  refine ⟨⟨rfl, rfl, fun _ _ _ => rfl⟩, rfl, rfl, ?_⟩
  generalize hu : t.setPending a.index true = u at *
  have level : u.attention.asserted = u.attnLevel := by rw [← hu]; rfl
  unfold State.setPending
  rw [twice]
  show ({ u.attention with asserted := u.attnLevel } : Attention) = u.attention
  rw [← level]

end

/-- Settles O43: the blocks wound down, and the quiesce left open or ended by the acknowledgements they make. -/
theorem quiesceEntryWindsDown : Obligations.QuiesceEntryWindsDown := by
  intro s c mark hp hc
  have taken := exec_quiesces s hp hc
  rw [State.enterQuiescing_eq, show (((s.withCommandResult .accepted).withCommand 0#8).windingDown
    mark).driveQuiesce.blocksQuiesced = s.woundDown mark from rfl] at taken
  obtain ⟨command, result, part, marked, deadline, acks, attends, target, ramp, shut, heater, heaterPwm, fan, fanPwm, dark,
    voices, bank, radio, sequencer, adoption, frame⟩ := s.woundDown_eq mark hp
  generalize s.woundDown mark = u at *
  have active : s.part.active = true := by rw [hp]; rfl
  obtain ⟨⟨-, time, config⟩, events⟩ := attends
  refine ⟨fun opens => ?_, fun flight busy visit rest => ?_⟩
  · have unfinished : u.acksNow.all = false := by
      rw [Bool.eq_false_iff, ne_eq, Acks.all_iff, acks]
      rintro ⟨hd, hs, -, hq, -, -, ha⟩
      rcases opens with h | h | h | ⟨h, h'⟩
      · exact h (Option.isNone_iff_eq_none.mp hq)
      · rw [h] at hs
        cases hs
      · exact h (Option.isNone_iff_eq_none.mp ha)
      · rw [if_neg h'] at ramp
        exact h (ramp.symm.trans (beq_iff_eq.mp hd))
    have settles : u.settleQuiesce = u.withAcks u.acksNow := by
      rcases u.settleQuiesce_cases with ⟨h, -⟩ | ⟨-, -, h⟩ | ⟨-, h, -⟩
      · exact absurd part h
      · exact h
      · rw [unfinished] at h
        cases h
    rw [settles] at taken
    refine ⟨_, taken, command, result, part, marked, deadline, acks, events,
      ?_, target, ramp, shut, heater, heaterPwm, fan, fanPwm, dark, fun v => ?_, bank,
      congrArg Radio.finder radio, congrArg Radio.buffer radio, congrArg Radio.gapTimer radio,
      congrArg Radio.silenceTimer radio, (congrArg Radio.silence radio).trans rfl, ?_, sequencer, adoption,
      State.sameExcept_trans frame (State.sameExcept_mono (State.sameExcept_withAcks _ _) (by decide))⟩
    · exact State.effectiveTarget_of_windingDown (s := u.withAcks u.acksNow) (.inl part)
    · obtain ⟨stays, fades⟩ := s.sound.voices[v].toFading_eq
      exact ⟨fun h => (voices v).trans (stays h), fun h h' => (voices v).trans (fades h h')⟩
    · refine (congrArg Radio.abandoned radio).trans ?_
      show (if s.radio.finder.inFrame then s.radio.abandoned + 1#16 else s.radio.abandoned) = _
      cases s.radio.finder <;> simp [FinderState.inFrame]
  · have still : u.drive.ramp = 0 := by
      rw [ramp]
      split
      · rfl
      · exact rest.resolve_right ‹_›
    have finished : u.acksNow.all = true := by
      rw [acks, still, busy, flight, visit]
      rfl
    have settles : u.settleQuiesce = (u.withAcks u.acksNow).endQuiesce := by
      rcases u.settleQuiesce_cases with ⟨h, -⟩ | ⟨-, h, -⟩ | ⟨-, -, h⟩
      · exact absurd part h
      · rw [finished] at h
        cases h
      · exact h
    rw [settles] at taken
    refine ⟨_, taken, fun hm => ?_, fun hm => ?_⟩
    · have e : (u.withAcks u.acksNow).endQuiesce = (u.withAcks u.acksNow).enterQuiet := by
        unfold State.endQuiesce
        rw [show (u.withAcks u.acksNow).resetMark = false from marked.trans hm]
        rfl
      obtain ⟨quiet, stopped, -, mode, -, duties, same, -, smoke, lamps, attends, -⟩ := (u.withAcks u.acksNow).enterQuiet_eq
      rw [e]
      have again : ((u.withAcks u.acksNow).withPart .quiet).AttendsAs ((s.raise .partState).withPart .quiet) :=
        ⟨⟨rfl, time, config⟩, events⟩
      have raised := again.raise .partState
      have part' : (s.raise .partState).part = s.part := (s.keeps_raise .partState).same .part
      rw [(s.raise .partState).raise_withPart (by rw [part']; exact active) rfl] at raised
      obtain ⟨-, events''⟩ := raised.trans attends
      obtain ⟨-, twice⟩ := s.raise_again active .partState
      refine ⟨(same.same .ramp).trans still, quiet, stopped, ⟨events''.1.trans twice.1, events''.2.1.trans twice.2.1,
        events''.2.2.trans twice.2.2⟩, mode, duties, ?_, ?_, fun k => (lamps k).1⟩
      · rw [smoke]
        exact heater
      · rw [smoke]
    · have e : (u.withAcks u.acksNow).endQuiesce = (u.withAcks u.acksNow).softReset := by
        unfold State.endQuiesce
        rw [show (u.withAcks u.acksNow).resetMark = true from marked.trans hm]
        rfl
      rw [e]
      exact ⟨rfl, rfl, rfl, rfl, rfl, rfl⟩

end Sys2Proof.Machine

/-! ## The validation of the sections (R164, R177, 12.4) -/

namespace Sys2Proof.Machine

-- One proof at a time: proofs that wait for one another would each hold a thread.
set_option Elab.async false

/-! ### Bytes of a body -/

theorem u8At_lt (b : List Byte) (i : Nat) : u8At b i < 256 := BitVec.isLt _

theorem u16At_lt (b : List Byte) (i : Nat) : u16At b i < 65536 := by
  have := u8At_lt b i
  have := u8At_lt b (i + 1)
  unfold u16At
  omega

theorem getD_drop (b : List Byte) (n i : Nat) : (b.drop n).getD i 0#8 = b.getD (n + i) 0#8 := by
  rw [List.getD_eq_getElem?_getD, List.getD_eq_getElem?_getD, List.getElem?_drop]

theorem u8At_drop (b : List Byte) (n i : Nat) : u8At (b.drop n) i = u8At b (n + i) := by
  unfold u8At
  rw [getD_drop]

theorem u16At_drop (b : List Byte) (n i : Nat) : u16At (b.drop n) i = u16At b (n + i) := by
  unfold u16At
  rw [u8At_drop, u8At_drop]
  rfl

/-! ### The value of a field -/

theorem numField_value {v lo hi : Nat} (h : lo ≤ hi) : (numField v lo hi).1 = max lo (min hi v) := by
  simp only [numField, clampNat]
  split
  · omega
  split <;> omega

/-- A field clamped from above alone. -/
theorem numField_min (v hi : Nat) : (numField v 0 hi).1 = min hi v := by
  rw [numField_value (Nat.zero_le _), Nat.zero_max]

/-- A byte clamped from below alone. -/
theorem numField_max (b : List Byte) (i : Nat) {lo : Nat} (h : lo ≤ 255) :
    (numField (u8At b i) lo 255).1 = max lo (u8At b i) := by
  have := u8At_lt b i
  rw [numField_value h, Nat.min_eq_right (by omega)]

theorem intField_value {v lo hi : Int} (h : lo ≤ hi) : (intField v lo hi).1 = max lo (min hi v) := by
  simp only [intField, clampInt]
  split
  · omega
  split <;> omega

/-- A listed code is read as it is. -/
theorem codeField_value {α : Type} {x : α} {c : Option α} (h : (codeField x c).2 ≠ .unknownCode) :
    some (codeField x c).1 = c := by
  cases c with
  | none => exact absurd rfl h
  | some y => rfl

theorem switchField_value {v : Nat} (h : (switchField v).2 ≠ .unknownCode) : (switchField v).1 = (v == 1) := by
  have read : some (switchField v).1 = switchOfCode v := codeField_value h
  match v with
  | 0 => rfl
  | 1 => rfl
  | n + 2 => cases read

/-! ### The finding of a field -/

/-- A code is found fine exactly below the number of those listed. -/
theorem codeField_finding {α : Type} (x : α) {c : Option α} {v n : Nat} (h : c.isSome = decide (v < n)) :
    (codeField x c).2 = FieldRule.finding (.code v n) := by
  cases c with
  | none => rw [FieldRule.finding, if_neg (by simpa using h.symm)]; rfl
  | some y => rw [FieldRule.finding, if_pos (by simpa using h.symm)]; rfl

theorem switchOfCode_isSome : (v : Nat) → (switchOfCode v).isSome = decide (v < 2)
  | 0 | 1 => rfl
  | n + 2 => by simp [switchOfCode]

theorem momentum_ofCode_isSome : (v : Nat) → (Momentum.ofCode v).isSome = decide (v < 3)
  | 0 | 1 | 2 => rfl
  | n + 3 => by simp [Momentum.ofCode]

theorem direction_ofCode_isSome : (v : Nat) → (Direction.ofCode v).isSome = decide (v < 2)
  | 0 | 1 => rfl
  | n + 2 => by simp [Direction.ofCode]

theorem demandMode_ofCode_isSome : (v : Nat) → (DemandMode.ofCode v).isSome = decide (v < 2)
  | 0 | 1 => rfl
  | n + 2 => by simp [DemandMode.ofCode]

theorem level_ofCode_isSome : (v : Nat) → (Level.ofCode v).isSome = decide (v < 4)
  | 0 | 1 | 2 | 3 => rfl
  | n + 4 => by simp [Level.ofCode]

theorem level_ofSilenceCode_isSome : (v : Nat) → (Level.ofSilenceCode v).isSome = decide (v < 3)
  | 0 | 1 | 2 => rfl
  | n + 3 => by simp [Level.ofSilenceCode]

theorem smokeAction_ofCode_isSome : (v : Nat) → (SmokeAction.ofCode v).isSome = decide (v < 3)
  | 0 | 1 | 2 => rfl
  | n + 3 => by simp [SmokeAction.ofCode]

theorem sourceMode_ofCode_isSome : (v : Nat) → (SourceMode.ofCode v).isSome = decide (v < 3)
  | 0 | 1 | 2 => rfl
  | n + 3 => by simp [SourceMode.ofCode]

theorem lampMode_ofCode_isSome : (v : Nat) → (LampMode.ofCode v).isSome = decide (v < 5)
  | 0 | 1 | 2 | 3 | 4 => rfl
  | n + 5 => by simp [LampMode.ofCode]

theorem gate_ofCode_isSome : (v : Nat) → (Gate.ofCode v).isSome = decide (v < 3)
  | 0 | 1 | 2 => rfl
  | n + 3 => by simp [Gate.ofCode]

theorem lampRun_ofCode_isSome : (v : Nat) → (LampRun.ofCode v).isSome = decide (v < 2)
  | 0 | 1 => rfl
  | n + 2 => by simp [LampRun.ofCode]

theorem activity_ofCode_isSome : (v : Nat) → (Activity.ofCode v).isSome = decide (v < 3)
  | 0 | 1 | 2 => rfl
  | n + 3 => by simp [Activity.ofCode]

theorem smokeEnable_ofCode_isSome : (v : Nat) → (SmokeEnable.ofCode v).isSome = decide (v < 3)
  | 0 | 1 | 2 => rfl
  | n + 3 => by simp [SmokeEnable.ofCode]

theorem routingField_finding : (v : Nat) → (routingField v).2 = FieldRule.finding (.routing v [])
  | 0 | 1 | 2 | 3 => rfl
  | n + 4 => by simp [routingField, codeField, Routing.ofCode, FieldRule.finding]

theorem haltRoutingField_finding : (v : Nat) → (haltRoutingField v).2 = FieldRule.finding (.routing v [0, 2])
  | 0 | 1 | 2 | 3 => rfl
  | n + 4 => by simp [haltRoutingField, routingField, codeField, Routing.ofCode, FieldRule.finding]

theorem userRoutingField_finding : (v : Nat) → (userRoutingField v).2 = FieldRule.finding (.routing v [1, 3])
  | 0 | 1 | 2 | 3 => rfl
  | n + 4 => by simp [userRoutingField, routingField, codeField, Routing.ofCode, FieldRule.finding]

theorem lampMode_ofCode_oneShot : (v : Nat) → (LampMode.ofCode v = some .oneShot ↔ v = 4)
  | 0 | 1 | 2 | 3 | 4 => by simp [LampMode.ofCode]
  | n + 5 => by simp [LampMode.ofCode]

theorem lampMode_ofCode_alternate : (v : Nat) → (LampMode.ofCode v = some .alternate ↔ v = 2)
  | 0 | 1 | 2 | 3 | 4 => by simp [LampMode.ofCode]
  | n + 5 => by simp [LampMode.ofCode]

/-- The run of a ONE_SHOT lamp is not read (R109, R177). -/
theorem lampRun_finding (m v : Nat) : (lampRunField (LampMode.ofCode m) v).2 =
    FieldRule.finding (if m = 4 then .any else .code v 2) := by
  rw [lampRunField_finding]
  by_cases h : m = 4
  · rw [if_pos ((lampMode_ofCode_oneShot m).mpr h), if_pos h]
    rfl
  · rw [if_neg fun k => h ((lampMode_ofCode_oneShot m).mp k), if_neg h]

theorem partnerFinding_finding (k : Fin 8) (m p : Nat) : partnerFinding k (LampMode.ofCode m) p =
    FieldRule.finding (if m = 2 then .partner (p < 8 ∧ p ≠ k.val) else .any) := by
  have alternate := lampMode_ofCode_alternate m
  unfold partnerFinding
  by_cases h : m = 2
  · by_cases hp : p = k.val ∨ 7 < p
    · rw [if_pos ⟨alternate.mpr h, hp⟩, if_pos h, FieldRule.finding, if_neg (by simp; omega)]
    · rw [if_neg (fun k => hp k.2), if_pos h, FieldRule.finding, if_pos (by simp; omega)]
  · rw [if_neg (fun k => h (alternate.mp k.1)), if_neg h]
    rfl

/-! ### The findings of a section -/

/-- Records of one length, one behind the other: their findings are those of their rules. -/
theorem flatten_findings {n : Nat} (f : Fin n → List Finding) (g : Nat → List FieldRule)
    (h : ∀ k : Fin n, f k = (g k.val).map FieldRule.finding) :
    ((List.finRange n).map f).flatten = ((List.range n).flatMap g).map FieldRule.finding := by
  rw [List.map_flatMap, ← List.map_coe_finRange_eq_range, List.flatMap_map, List.flatMap_def]
  exact congrArg List.flatten (List.map_congr_left fun k _ => h k)

theorem flatten_range_findings (n : Nat) (f : Nat → List Finding) (g : Nat → List FieldRule)
    (h : ∀ k, f k = (g k).map FieldRule.finding) :
    ((List.range n).map f).flatten = ((List.range n).flatMap g).map FieldRule.finding := by
  rw [List.map_flatMap, List.flatMap_def]
  exact congrArg List.flatten (List.map_congr_left fun k _ => h k)

theorem map_findings (n : Nat) (f : Nat → Finding) (g : Nat → FieldRule) (h : ∀ k, f k = (g k).finding) :
    (List.range n).map f = ((List.range n).map g).map FieldRule.finding := by
  rw [List.map_map]
  exact List.map_congr_left fun k _ => h k

/-- The validation finds, field by field, what the owners' rules ask (R164, 12.4). -/
theorem sectionFindings_eq (k : Fin 15) (b : List Byte) :
    sectionFindings k b = (sectionRules k b).map FieldRule.finding := by
  match k with
  | 0 =>
    simp only [sectionFindings, sectionRules, readDriveProfile, List.map_cons, List.map_nil, numField_finding,
      switchField_finding, codeField_finding _ (momentum_ofCode_isSome _)]
    rfl
  | 1 =>
    exact map_findings 16 (fun j => (numField (u16At b (2 * j)) 0 1023).2)
      (fun j => .number (u16At b (2 * j)) (0 : Nat) (1023 : Nat)) fun j => numField_finding _ _ _
  | 2 =>
    simp only [sectionFindings, sectionRules, readMeasureProfile, List.map_cons, numField_finding, switchField_finding]
    refine congrArg _ (congrArg _ (flatten_findings _ _ fun k => ?_))
    simp only [readSlotProfile, List.map_cons, List.map_nil, numField_finding, switchField_finding, u8At_drop,
      u16At_drop, codeField_finding _ (level_ofCode_isSome _), codeField_finding _ (smokeAction_ofCode_isSome _)]
    have divisor : (if gated k = true then ((1, Finding.fine) : Nat × Finding) else numField (u8At b (2 + 15 * k.val + 1)) 1 16).2 =
        FieldRule.finding (if k.val = 5 ∨ k.val = 6 then .any else .number (u8At b (2 + 15 * k.val + 1)) (1 : Nat) (16 : Nat)) := by
      have h : gated k = true ↔ k.val = 5 ∨ k.val = 6 := by revert k; decide
      by_cases hk : k.val = 5 ∨ k.val = 6
      · rw [if_pos (h.mpr hk), if_pos hk]
        rfl
      · rw [if_neg fun j => hk (h.mp j), if_neg hk]
        exact numField_finding _ _ _
    rw [divisor]
    rfl
  | 3 =>
    simp only [sectionFindings, sectionRules, readPowerProfile, List.map_cons, List.map_nil, numField_finding]
    rfl
  | 4 =>
    simp only [sectionFindings, sectionRules, readCadenceProfile, List.map_cons, List.map_nil, numField_finding,
      codeField_finding _ (sourceMode_ofCode_isSome _)]
  | 5 =>
    simp only [sectionFindings, sectionRules, readSmokeProfile, List.map_cons, List.map_nil, numField_finding]
    rfl
  | 6 =>
    refine flatten_findings _ _ fun k => ?_
    simp only [readLampRecord, List.map_cons, List.map_nil, numField_finding, u8At_drop, lampRun_finding,
      partnerFinding_finding, codeField_finding _ (lampMode_ofCode_isSome _), codeField_finding _ (gate_ofCode_isSome _)]
    rfl
  | 7 =>
    simp only [sectionFindings, sectionRules, readSoundProfile, List.map_cons, List.map_nil, switchField_finding]
  | 8 =>
    simp only [sectionFindings, sectionRules, readRadioProfile, List.map_cons, List.map_nil, numField_finding,
      switchField_finding, routingField_finding, haltRoutingField_finding, userRoutingField_finding,
      codeField_finding _ (level_ofSilenceCode_isSome _)]
    rfl
  | 9 =>
    refine flatten_range_findings _ _ _ fun k => ?_
    simp only [readFunctionEntry, List.map_cons, List.map_nil, numField_finding, switchField_finding, u8At_drop]
    rfl
  | 10 =>
    simp only [sectionFindings, sectionRules, readDriveDirective, List.map_cons, List.map_nil, numField_finding,
      switchField_finding, codeField_finding _ (demandMode_ofCode_isSome _), codeField_finding _ (direction_ofCode_isSome _)]
    generalize u8At b 0 = mode
    match mode with
    | 0 | 1 => rfl
    | n + 2 => rfl
  | 11 =>
    simp only [sectionFindings, sectionRules, readSmokeDirective, List.map_cons, List.map_nil, switchField_finding,
      codeField_finding _ (smokeEnable_ofCode_isSome _)]
  | 12 => exact map_findings 8 _ _ fun j => codeField_finding _ (activity_ofCode_isSome _)
  | 13 =>
    simp only [sectionFindings, sectionRules, readSoundDirective, List.map_cons, List.map_nil, switchField_finding]
    rfl
  | 14 => rfl

end Sys2Proof.Machine

/-! ## What the moves of the blocks leave: the section bytes, VERDICT, and a block that has come to rest -/

namespace Sys2Proof.Machine

-- One proof at a time: proofs that wait for one another would each hold a thread.
set_option Elab.async false

/-- What a move of the drive's, of its neighbours' or of a profile's taking leaves: the part state, the bytes below the
readings, the VERDICT flag, and in QUIESCING a drive and a sound engine that have come to rest. -/
structure State.Winds (s t : State) : Prop where
  part : t.part = s.part
  low : ∀ a, a < readingsBase → t.storeAt a = s.storeAt a
  verdict : t.attention.pending[(2 : Fin 12)] = s.attention.pending[(2 : Fin 12)]
  still : s.part = .quiescing → s.drive.ramp = 0 → t.drive.ramp = 0
  silent : s.part = .quiescing → s.sound.anyBusy = false → t.sound.anyBusy = false

namespace State.Winds
variable {s t u : State} {l : List Component}

theorem refl (s : State) : s.Winds s := ⟨rfl, fun _ _ => rfl, rfl, fun _ => id, fun _ => id⟩

theorem trans (h : s.Winds t) (k : t.Winds u) : s.Winds u where
  part := k.part.trans h.part
  low := fun a ha => (k.low a ha).trans (h.low a ha)
  verdict := k.verdict.trans h.verdict
  still := fun hp hr => k.still (h.part.trans hp) (h.still hp hr)
  silent := fun hp hr => k.silent (h.part.trans hp) (h.silent hp hr)

theorem ite {c : Prop} [Decidable c] (ht : c → s.Winds t) (hu : ¬ c → s.Winds u) : s.Winds (if c then t else u) := by
  split
  · exact ht ‹_›
  · exact hu ‹_›

theorem foldl {α : Type} {f : State → α → State} (h : ∀ (s : State) (a : α), s.Winds (f s a)) (xs : List α) (s : State) :
    s.Winds (xs.foldl f s) := by
  induction xs generalizing s with
  | nil => exact refl s
  | cons x xs ih => exact (h s x).trans (ih (f s x))

/-- A footprint beside the part state, ATTN, the drive and the sound engine. -/
theorem of_shows (h : s.Shows t l)
    (hl : Component.part ∉ l ∧ .attention ∉ l ∧ .drive ∉ l ∧ .sound ∉ l := by decide) : s.Winds t where
  part := h.1 .part hl.1
  low := h.2
  verdict := by rw [show t.attention = s.attention from h.1 .attention hl.2.1]
  still := by rw [show t.drive = s.drive from h.1 .drive hl.2.2.1]; exact fun _ => id
  silent := by rw [show t.sound = s.sound from h.1 .sound hl.2.2.2]; exact fun _ => id

theorem of_keeps (h : s.Keeps t l) (hs : .store ∉ l := by decide)
    (hl : Component.part ∉ l ∧ .attention ∉ l ∧ .drive ∉ l ∧ .sound ∉ l := by decide) : s.Winds t :=
  of_shows (.of_keeps h hs) hl

/-- A footprint with the drive in it, where R at 0 stays there. -/
theorem of_drive (h : s.Shows t l) (hr : s.part = .quiescing → s.drive.ramp = 0 → t.drive.ramp = 0)
    (hl : Component.part ∉ l ∧ .attention ∉ l ∧ .sound ∉ l := by decide) : s.Winds t where
  part := h.1 .part hl.1
  low := h.2
  verdict := by rw [show t.attention = s.attention from h.1 .attention hl.2.1]
  still := hr
  silent := by rw [show t.sound = s.sound from h.1 .sound hl.2.2]; exact fun _ => id

/-- The same where R is not touched. -/
theorem of_ramp {m : List DriveField} (h : s.Shows t l) (hr : s.DriveSame t m) (hm : DriveField.ramp ∉ m := by decide)
    (hl : Component.part ∉ l ∧ .attention ∉ l ∧ .sound ∉ l := by decide) : s.Winds t :=
  of_drive h (fun _ => (hr .ramp hm : t.drive.ramp = s.drive.ramp).trans) hl

/-- A footprint with the sound engine in it, in which no voice becomes busy. -/
theorem of_sound (h : s.Shows t l) (hs : s.part = .quiescing → s.sound.anyBusy = false → t.sound.anyBusy = false)
    (hl : Component.part ∉ l ∧ .attention ∉ l ∧ .drive ∉ l := by decide) : s.Winds t where
  part := h.1 .part hl.1
  low := h.2
  verdict := by rw [show t.attention = s.attention from h.1 .attention hl.2.1]
  still := by rw [show t.drive = s.drive from h.1 .drive hl.2.2]; exact fun _ => id
  silent := hs

theorem raise (h : s.Winds t) (a : AttnSource) (ha : a ≠ .verdict := by nofun) : s.Winds (t.raise a) := by
  have keeps := t.keeps_raise a
  refine h.trans ⟨keeps.same .part, fun n _ => keeps.same .store (by decide) n, ?_, by rw [keeps.same .drive]; exact fun _ => id,
    by rw [keeps.same .sound]; exact fun _ => id⟩
  unfold State.raise
  split
  · rw [State.setPending_get, if_neg (by cases a <;> simp at ha <;> decide)]
  · rfl

theorem event (h : s.Winds t) (k : EventKind) (subject : Byte) (detail : Half) : s.Winds (t.event k subject detail) := by
  have set (u : State) (x : Vector EventRecord 24) : u.Winds (u.withEvents x) := .of_shows (.of_frame (u.sameExcept_withEvents x))
  rcases t.event_cases k subject detail with ⟨-, e⟩ | ⟨i, -, -, e⟩ | ⟨i, -, -, -, e⟩ | ⟨-, -, -, e⟩ <;> rw [e]
  · exact h
  · exact (h.trans (set _ _)).raise _
  · exact ((h.trans (set _ _)).trans (.of_shows (.of_frame (State.sameExcept_withEventSeq _ _)))).raise _
  · exact h.raise _

end State.Winds

section
variable (s : State)

/-- The drive's record set, R left as it was. -/
theorem State.winds_withDrive (d : Drive) (h : d.ramp = s.drive.ramp := by rfl) : s.Winds (s.withDrive d) :=
  .of_drive (.of_frame (s.sameExcept_withDrive d)) fun _ hr => h.trans hr

/-! ### Chuffs -/

theorem State.shows_settleVoices (x : Vector Voice 6) : s.Shows (s.settleVoices x) [.sound] :=
  .of_frame (s.sameExcept_withSound _)

/-- Outside RUN a START does nothing (R124). -/
theorem State.startCue_dropped (hp : s.part ≠ .run) (n : Nat) (gain : Option Nat) (source : CueSource) :
    (s.startCue n gain source).1 = s := by
  unfold State.startCue
  rw [if_pos hp]

theorem State.winds_startCue (n : Nat) (gain : Option Nat) (source : CueSource) : s.Winds (s.startCue n gain source).1 := by
  have engine (hp : s.part = .run) (e : Sound) : s.Winds (s.withSound e) :=
    .of_sound (.of_frame (s.sameExcept_withSound e)) fun hq => absurd (hp.symm.trans hq) nofun
  rcases s.startCue_cases n gain source with ⟨-, e⟩ | ⟨hp, -, e⟩ | ⟨hp, -, -, e⟩ | ⟨r, hp, -, -, h⟩
  · rw [e]
    exact .refl s
  · rw [e]
    exact engine hp _
  · rw [e]
    exact engine hp _
  · rcases h with ⟨v, -, -, e⟩ | ⟨v, -, -, e⟩ | ⟨v, -, -, e⟩ | ⟨v, -, -, -, e⟩ | ⟨-, -, -, e⟩ <;> rw [e]
    · exact .refl s
    · exact engine hp _
    · exact engine hp _
    · exact engine hp _
    · exact (engine hp _).event _ _ _

theorem State.winds_soundChuff (count : Half) : s.Winds (s.soundChuff count) := by
  have counted : s.Winds (s.withSound { s.sound with lastChuff := count }) :=
    .of_sound (.of_frame (s.sameExcept_withSound _)) fun _ => id
  unfold State.soundChuff
  dsimp only
  split
  · exact counted
  · exact counted.trans (State.winds_startCue (s.withSound { s.sound with lastChuff := count }) _ _ _)

theorem State.winds_deliverChuff : s.Winds s.deliverChuff :=
  (State.Winds.of_keeps (s.keeps_withCadence _)).trans
    ((State.winds_soundChuff _ _).trans (.of_keeps (State.keeps_smokeChuff _)))

theorem State.winds_recomputeInterval : s.Winds s.recomputeInterval := by
  unfold State.recomputeInterval
  dsimp only
  split
  · exact .of_keeps (s.keeps_withCadence _)
  · refine (State.Winds.of_keeps (s.keeps_withCadence _)).trans (.ite (fun _ => ?_) fun _ => .of_keeps (State.keeps_withCadence _ _))
    exact (State.winds_deliverChuff _).trans (.of_keeps (State.keeps_withCadence _ _))

theorem State.winds_cadenceStep : s.Winds s.cadenceStep := by
  unfold State.cadenceStep
  dsimp only
  split
  · exact (State.Winds.of_keeps (s.keeps_withCadence _)).trans (State.winds_recomputeInterval _)
  · exact .of_keeps (s.keeps_withCadence _)

theorem State.winds_settleSource : s.Winds s.settleSource := by
  unfold State.settleSource
  dsimp only
  refine .ite (fun _ => .refl s) fun _ => ?_
  split
  · exact (State.Winds.of_keeps (s.keeps_withCadence _)).trans (.of_keeps (State.keeps_withCadence _ _))
  · exact (State.Winds.of_keeps (s.keeps_withCadence _)).trans (State.winds_recomputeInterval _)

theorem State.winds_takeCadenceProfile (p : CadenceProfile) : s.Winds (s.takeCadenceProfile p) :=
  ((State.Winds.of_keeps (s.keeps_withCadence _)).trans (State.winds_settleSource _)).trans
    (.ite (fun _ => State.winds_recomputeInterval _) fun _ => .refl _)

/-! ### The drive -/

theorem State.winds_refreshDuty : s.Winds s.refreshDuty := .of_ramp (.of_keeps s.keeps_refreshDuty) s.driveSame_refreshDuty

theorem State.winds_settleWindow : s.Winds s.settleWindow := .of_ramp (.of_keeps s.keeps_settleWindow) s.driveSame_settleWindow

theorem State.winds_clearIntegrals : s.Winds s.clearIntegrals :=
  .of_ramp (.of_keeps s.keeps_clearIntegrals) s.driveSame_clearIntegrals

theorem State.winds_closeWindowEarly : s.Winds s.closeWindowEarly :=
  .of_ramp (.of_keeps s.keeps_closeWindowEarly) s.driveSame_closeWindowEarly

theorem State.winds_setDirection (dir : Direction) : s.Winds (s.setDirection dir) :=
  .of_ramp (s.shows_setDirection dir) (s.driveSame_setDirection dir)

theorem State.winds_zeroRamp : s.Winds s.zeroRamp := .of_drive s.shows_zeroRamp fun _ _ => s.zeroRamp_ramp

theorem State.winds_jumpRamp : s.Winds s.jumpRamp := by
  have jumped : s.Winds (s.withDrive { s.drive with ramp := s.effectiveTarget, stepDir := .none, rampTimer := .stopped }) :=
    .of_drive (.of_frame (s.sameExcept_withDrive _)) fun hp _ => s.effectiveTarget_of_windingDown (.inl hp)
  exact jumped.trans ((State.winds_refreshDuty _).trans (State.winds_cadenceStep _))

theorem State.winds_followTarget : s.Winds s.followTarget := by
  have set (x : StepDir) (y : Timer) : s.Winds (s.withDrive { s.drive with stepDir := x, rampTimer := y }) :=
    .of_ramp (.of_frame (s.sameExcept_withDrive _)) (s.drive.sameBut_stepDir x y)
  unfold State.followTarget
  dsimp only
  exact .ite (fun _ => .ite (fun _ => set _ _) fun _ => s.winds_jumpRamp) fun _ => .ite (fun _ => .refl s) fun _ => set _ _

theorem State.winds_enterDriveState (new : DriveState) (asserting : Option Channel) :
    s.Winds (s.enterDriveState new asserting) := by
  by_cases hs : s.drive.state = new
  · rw [show s.enterDriveState new asserting = s from if_pos hs]
    exact .refl s
  · have taken : s.Winds (s.stateTaken new) := .of_ramp (s.shows_stateTaken new) (s.driveSame_stateTaken new)
    have announced (u : State) : u.Winds ((((u.smokeDriveChange new).lampDriveChange).seeShorts asserting).writeDriveReadings) := by
      have same := u.driveSame_announced False new asserting
      rw [if_neg id] at same
      exact .of_ramp (u.shows_announced new asserting) same
    rw [s.enterDriveState_eq hs]
    exact (State.Winds.ite (fun _ => taken.raise .drive) fun _ => taken).trans (announced _)

theorem State.winds_reachedZero : s.Winds s.reachedZero := .of_ramp s.shows_reachedZero s.driveSame_reachedZero

theorem State.winds_settleDrive : s.Winds s.settleDrive :=
  s.winds_followTarget.trans ((State.winds_settleWindow _).trans ((State.winds_reachedZero _).trans
    ((State.winds_followTarget _).trans (State.winds_settleWindow _))))

theorem State.winds_writeTarget (m : Nat) (dir : Direction) (src : Source) : s.Winds (s.writeTarget m dir src) := by
  obtain ⟨refused, stored, released, directed⟩ := s.writeTarget_eq m dir src
  have aimed (n : Nat) : s.Winds (s.aimed n dir src) := .of_ramp (.of_frame (s.sameExcept_withDrive _)) (s.driveSame_aimed n dir src)
  have frees (h : s.drive.state = .halted ∨ s.drive.state = .locked) (hm : m = 0) : s.Winds (s.writeTarget m dir src) := by
    have trips (u : State) : u.Winds (u.withDrive { u.drive with tripCount := 0 }) :=
      u.winds_withDrive _
    rw [released h hm]
    exact ((aimed 0).trans (State.Winds.ite (fun _ => trips _) fun _ => .refl _)).trans
      ((State.winds_setDirection _ _).trans ((State.winds_enterDriveState _ _ _).trans (State.winds_settleDrive _)))
  have walks (h : s.drive.state = .idle ∨ s.drive.state = .running ∨ s.drive.state = .reversing) :
      s.Winds (s.writeTarget m dir src) := by
    obtain ⟨-, -, -, -, shown⟩ := s.directed_eq m dir src
    rw [directed h]
    exact (State.Winds.of_ramp shown (s.driveSame_directed m dir src)).trans (State.winds_settleDrive _)
  cases hs : s.drive.state
  case idle => exact walks (.inl hs)
  case running => exact walks (.inr (.inl hs))
  case reversing => exact walks (.inr (.inr hs))
  case tripped => rw [stored (.inl hs)]; exact aimed m
  case halted =>
    by_cases hm : m = 0
    · exact frees (.inl hs) hm
    · rw [refused hs (by omega)]
      exact .refl s
  case locked =>
    by_cases hm : m = 0
    · exact frees (.inr hs) hm
    · rw [stored (.inr ⟨hs, by omega⟩)]
      exact aimed m

theorem State.winds_changeLevel (new : Level) : s.Winds (s.changeLevel new) := by
  have levels : s.Winds (s.withDrive { s.drive with level := new }) := s.winds_withDrive _
  exact (levels.trans (.ite (fun _ => (State.winds_zeroRamp _).trans
    ((State.winds_clearIntegrals _).trans (State.winds_closeWindowEarly _))) fun _ => State.winds_refreshDuty _)).trans
      (State.winds_settleDrive _)

theorem State.winds_recomputeProtection : s.Winds s.recomputeProtection := by
  unfold State.recomputeProtection
  dsimp only
  exact (s.winds_withDrive _).trans (.ite (fun _ => .refl _) fun _ => State.winds_changeLevel _ _)

theorem State.winds_drivePower (entersSpent : Bool) : s.Winds (s.drivePower entersSpent) :=
  (State.Winds.ite (fun _ => s.winds_zeroRamp.trans (State.winds_closeWindowEarly _)) fun _ => s.winds_refreshDuty).trans
    (State.winds_settleDrive _)

theorem State.winds_takeSpeedTable (p : SpeedTable) : s.Winds (s.takeSpeedTable p) :=
  s.winds_withDrive _

theorem State.winds_takeDriveDirective (d : DriveDirective) : s.Winds (s.takeDriveDirective d) :=
  (s.winds_withDrive _).trans (State.winds_writeTarget _ _ _ _)

theorem State.winds_takeDriveProfile (p : DriveProfile) : s.Winds (s.takeDriveProfile p) :=
  (s.winds_withDrive _).trans ((State.winds_refreshDuty _).trans
    ((State.Winds.ite (fun _ => .refl _) fun _ => State.winds_closeWindowEarly _).trans
      ((State.Winds.ite (fun _ => State.winds_jumpRamp _) fun _ => .refl _).trans (State.winds_settleDrive _))))

theorem State.winds_completeWindow : s.Winds s.completeWindow :=
  (s.winds_withDrive _).trans ((State.winds_withDrive _ _).trans
    ((State.winds_refreshDuty _).trans (State.winds_settleWindow _)))

theorem State.winds_deliverEmf (c : Channel) (w value : Nat) : s.Winds (s.deliverEmf c w value) :=
  .ite (fun _ => (s.winds_withDrive _).trans (.ite (fun _ => State.winds_completeWindow _) fun _ => .refl _))
    fun _ => .refl _

end

end Sys2Proof.Machine

/-! ## The end of a visit: the verdict, the adopted byte, and the quiesce that goes on -/

namespace Sys2Proof.Machine

-- One proof at a time: proofs that wait for one another would each hold a thread.
set_option Elab.async false

/-- In QUIESCING the sequencer, or the sound engine with a busy voice, is still to acknowledge: no visit's end can end the
quiesce (R167). -/
def State.VisitOpen (s : State) : Prop :=
  s.part = .quiescing → s.acks.sequencer = false ∨ s.acks.sound = false ∧ s.sound.anyBusy = true

namespace State.VisitOpen
variable {s t : State}

theorem unfinished (h : s.VisitOpen) : s.QuiesceUnfinished := by
  intro hq
  rw [Bool.eq_false_iff, ne_eq, Acks.all_iff]
  rintro ⟨-, sound, -, sequencer, -⟩
  rcases h hq with h | ⟨h, busy⟩
  · exact absurd (h.symm.trans sequencer) nofun
  · have : (s.acks.sound || !s.sound.anyBusy) = true := sound
    rw [h, busy] at this
    exact absurd this nofun

/-- It stands where the part state and the acknowledgements do, and the voices outside RUN. -/
theorem of_voices (h : s.VisitOpen) (part : t.part = s.part) (acks : t.acks = s.acks)
    (voices : s.part ≠ .run → t.sound.voices = s.sound.voices) : t.VisitOpen := by
  intro hq
  have hp : s.part = .quiescing := part.symm.trans hq
  have busy : t.sound.anyBusy = s.sound.anyBusy := by
    unfold Sound.anyBusy
    rw [voices (by simp [hp])]
  rw [acks, busy]
  exact h hp

/-- The sequencer's acknowledgement is the whole of it where a hand-over can stop voices. -/
theorem of_acks (h : s.part = .quiescing → s.acks.sequencer = false) (part : t.part = s.part) (acks : t.acks = s.acks) :
    t.VisitOpen :=
  fun hq => .inl (by rw [acks]; exact h (part.symm.trans hq))

theorem of_frame {l : List Component} (h : s.VisitOpen) (f : s.SameExcept t l)
    (hl : Component.part ∉ l ∧ .acks ∉ l ∧ .sound ∉ l := by decide) : t.VisitOpen :=
  h.of_voices (f .part hl.1) (f .acks hl.2.1) fun _ => by rw [show t.sound = s.sound from f .sound hl.2.2]

end State.VisitOpen

/-- The obligations' premise is the same, but for the hand-overs that can stop voices. -/
theorem State.QuiesceOpenForVisit.open {s : State} {k : Fin 15} (h : s.QuiesceOpenForVisit k) : s.VisitOpen :=
  fun hq => (h hq).imp id fun ⟨acked, busy, _⟩ => ⟨acked, busy⟩

theorem State.QuiesceOpenForVisit.sequencer {s : State} {k : Fin 15} (h : s.QuiesceOpenForVisit k) (hk : k = 13 ∨ k = 14) :
    s.part = .quiescing → s.acks.sequencer = false :=
  fun hq => (h hq).elim id fun ⟨_, _, h₁, h₂⟩ => absurd hk (by simp [h₁, h₂])

section
variable (s : State) (v : Visit) (d : Verdict)

/-! ### The adopted byte (R164 steps 3 and 4) -/

/-- The adopted byte and the flag set. -/
def State.flagAdopted : State :=
  (s.writeStore (sectionBase v.section_ + 1) [v.revision]).withAdoption
    { s.adoption with adopted := s.adoption.adopted.set v.section_ true }

/-- The visit answered and over. -/
def State.answered : State :=
  let u := if d = .accepted then s.flagAdopted v else (s.flagAdopted v).raise .verdict
  u.withAdoption u.adoption.visitOver

theorem State.writeAdopted_eq : s.writeAdopted v d = (s.answered v d).settleQuiesce := rfl

theorem State.flagAdopted_attends : (s.flagAdopted v).AttendsAs s := by
  have := section_bounds v.section_
  exact ⟨⟨rfl, rfl, fun a _ h => s.storeAt_writeStore_outside _ a _ (.inl (by omega))⟩, rfl, rfl, rfl⟩

theorem State.raisedVerdict_frame (u : State) : u.SameExcept (if d = .accepted then u else u.raise .verdict) [.attention] := by
  split
  · exact u.sameExcept_refl _
  · exact u.sameExcept_raise _

theorem State.answered_frame : s.SameExcept (s.answered v d) [.store, .adoption, .attention] := by
  have flag : s.SameExcept (s.flagAdopted v) [.store, .adoption, .attention] :=
    State.sameExcept_trans (State.sameExcept_mono (s.sameExcept_writeStore _ _) (by decide))
      (State.sameExcept_mono (State.sameExcept_withAdoption _ _) (by decide))
  exact State.sameExcept_trans flag (State.sameExcept_trans
    (State.sameExcept_mono (State.raisedVerdict_frame d (s.flagAdopted v)) (by decide))
    (State.sameExcept_mono (State.sameExcept_withAdoption _ _) (by decide)))

theorem State.answered_storeAt (a : Nat) : (s.answered v d).storeAt a =
    if a = sectionBase v.section_ + 1 then v.revision else s.storeAt a := by
  have raised : (s.answered v d).storeAt a = (s.flagAdopted v).storeAt a :=
    State.raisedVerdict_frame d (s.flagAdopted v) .store (by decide) a
  rw [raised]
  split
  · rename_i h
    subst h
    exact s.storeAt_writeStore_inside (sectionBase v.section_ + 1) 0 [v.revision] (by simp)
  · exact s.storeAt_writeStore_outside _ a _ (by simp only [List.length_singleton]; omega)

theorem State.answered_adoption : (s.answered v d).adoption =
    { s.adoption with visit := none, sweep := if s.adoption.sweep = some 15 then none else s.adoption.sweep,
                      adopted := s.adoption.adopted.set v.section_ true } := by
  have raised : (if d = .accepted then s.flagAdopted v else (s.flagAdopted v).raise .verdict).adoption =
      (s.flagAdopted v).adoption := State.raisedVerdict_frame d (s.flagAdopted v) .adoption (by decide)
  show Adoption.visitOver _ = _
  rw [raised]
  rfl

theorem State.answered_attends : (s.answered v d).AttendsAs (if d = .accepted then s else s.raise .verdict) := by
  have attends := s.flagAdopted_attends v
  refine .trans (t := if d = .accepted then s.flagAdopted v else (s.flagAdopted v).raise .verdict) ?_
    (.of_frame (State.sameExcept_withAdoption _ _))
  split
  · exact attends
  · exact attends.raise _

/-- Where the quiesce goes on, only the acknowledgements change beside it. -/
theorem State.VisitOpen.writeAdopted {s : State} (h : s.VisitOpen) (v : Visit) (d : Verdict) :
    ∃ a, s.writeAdopted v d = (s.answered v d).withAcks a := by
  obtain ⟨a, e, -⟩ := State.settleQuiesce_withAcks (h.of_frame (s.answered_frame v d)).unfinished
  exact ⟨a, (s.writeAdopted_eq v d).trans e⟩

/-! ### A hand-over -/

/-- The end of a visit whose verdict is written: at once, or with the row that waits once more (R164). -/
theorem State.VisitOpen.frame {x : State} (h : x.VisitOpen) (k : Fin 15) (v : Visit) (d : Verdict) :
    x.SameExcept (if x.pausesVisit k then x.settleQuiesce else x.writeAdopted v d)
      [.store, .adoption, .attention, .acks] := by
  split
  · exact State.sameExcept_mono (x.settleQuiesce_open h.unfinished).1 (by decide)
  · obtain ⟨a, e⟩ := h.writeAdopted v d
    rw [e]
    exact State.sameExcept_trans (State.sameExcept_mono (x.answered_frame v d) (by decide))
      (State.sameExcept_mono (State.sameExcept_withAcks _ _) (by decide))

/-- A copy without a refusal is handed over. -/
theorem State.handOver_taken {α : Type} (x : α) (take : State → α → State) {fs : List Finding} (h : firstRefusal fs = none) :
    s.handOver (verdictOf fs) x take = take s x := by
  unfold verdictOf
  rw [h]
  cases fs.findIdx? (· == .clamped) <;> rfl

/-- A hand-over's row is the hand-over, with the answer written in the section's header and the unit's record. -/
theorem State.HandsOver.finish {s : State} {k : Fin 15} {body : List Byte} {α : Type}
    {read : List Byte → α × List Finding} {take : State → α → State} (ho : s.HandsOver k body)
    (found : (read body).2 = sectionFindings k body) (open' : (take s (read body).1).VisitOpen) :
    ∃ t, s.finishVisit k read take = t ∧ (take s (read body).1).SameExcept t [.store, .adoption, .attention, .acks] := by
  obtain ⟨v, hv, hk, hd, ht, hb, hf⟩ := ho
  refine ⟨_, rfl, ?_⟩
  rcases s.finishVisit_cases k read take with ⟨h, -⟩ | ⟨w, hw, -, ⟨d, h, -⟩ | ⟨-, h, -⟩ | ⟨-, -, x, d, y, hd', hy, hx, e⟩⟩
  · exact absurd hk (h v hv)
  all_goals obtain rfl : w = v := Option.some.inj (hw.symm.trans hv)
  · exact absurd (hd.symm.trans h) nofun
  · exact absurd (ht.symm.trans h) nofun
  · rw [hb] at hd' hy
    subst hy
    have taken : s.handOver d (read body).1 take = take s (read body).1 := by
      rw [← hd', found]
      exact s.handOver_taken _ _ hf
    rw [e]
    have verdict : (take s (read body).1).SameExcept x [.store, .adoption] := by
      rw [hx, taken]
      exact State.sameExcept_writeVerdict _ _ _
    exact State.sameExcept_trans (State.sameExcept_mono verdict (by decide))
      ((open'.of_frame verdict).frame k w d)

end

end Sys2Proof.Machine

/-! ## The hand-overs to the drive -/

namespace Sys2Proof.Machine

-- One proof at a time: proofs that wait for one another would each hold a thread.
set_option Elab.async false

/-! ### The integrals and the muted window (R15 to R17) -/

/-- The integrals lie within the limit, without effect where they are `cleared`, and an open window is muted where it is to
be. -/
structure Drive.Compensates (limit : Nat) (cleared muted : Prop) (d : Drive) : Prop where
  within : ∀ c : Channel, -(limit : Int) ≤ (d.channels.get c).integral ∧ (d.channels.get c).integral ≤ limit ∧
    (cleared → (d.channels.get c).integral = 0 ∧ (d.channels.get c).correction = 0)
  mutes : muted → d.window ≠ .closed → d.windowMuted = true

namespace Drive.Compensates
variable {limit : Nat} {cleared muted : Prop} {s : State}

/-- An operation that leaves the window's mute, and of each channel the integral and the correction, or clears both. -/
theorem of_channels (h : s.drive.Compensates limit cleared muted) {t : State} {l : List DriveField} (k : s.DriveSame t l)
    (kept : ∀ c : Channel, (t.drive.channels.get c).integral = (s.drive.channels.get c).integral ∧
        (t.drive.channels.get c).correction = (s.drive.channels.get c).correction ∨
      (t.drive.channels.get c).integral = 0 ∧ (t.drive.channels.get c).correction = 0)
    (hl : DriveField.window ∉ l ∧ .windowMuted ∉ l := by decide) : t.drive.Compensates limit cleared muted where
  within := fun c => by
    obtain ⟨low, high, zero⟩ := h.within c
    rcases kept c with ⟨integral, correction⟩ | ⟨integral, correction⟩
    · rw [integral, correction]
      exact ⟨low, high, zero⟩
    · rw [integral, correction]
      exact ⟨by omega, by omega, fun _ => ⟨rfl, rfl⟩⟩
  mutes := by
    rw [show t.drive.window = s.drive.window from k .window hl.1,
      show t.drive.windowMuted = s.drive.windowMuted from k .windowMuted hl.2]
    exact h.mutes

theorem of_same (h : s.drive.Compensates limit cleared muted) {t : State} {l : List DriveField} (k : s.DriveSame t l)
    (hl : DriveField.window ∉ l ∧ .windowMuted ∉ l := by decide) (hc : DriveField.channels ∉ l := by decide) :
    t.drive.Compensates limit cleared muted :=
  h.of_channels k (fun c => .inl (by rw [show t.drive.channels = s.drive.channels from k .channels hc]; exact ⟨rfl, rfl⟩)) hl

theorem of_keeps (h : s.drive.Compensates limit cleared muted) {t : State} {l : List Component} (k : s.Keeps t l)
    (hl : Component.drive ∉ l := by decide) : t.drive.Compensates limit cleared muted := by
  rw [show t.drive = s.drive from k.same .drive hl]
  exact h

theorem latchBridge (h : s.drive.Compensates limit cleared muted) : s.latchBridge.drive.Compensates limit cleared muted :=
  h.of_channels s.driveSame_latchBridge fun c => .inl (by rw [s.latchBridge_get]; exact ⟨rfl, rfl⟩)

theorem refreshDuty (h : s.drive.Compensates limit cleared muted) : s.refreshDuty.drive.Compensates limit cleared muted := by
  refine h.of_channels s.driveSame_refreshDuty fun c => ?_
  obtain ⟨n, e, -⟩ := s.refreshDuty_get c
  rw [e]
  unfold State.formChannel
  dsimp only
  split
  · exact .inr ⟨rfl, rfl⟩
  · exact .inl ⟨rfl, rfl⟩

theorem clearIntegrals (h : s.drive.Compensates limit cleared muted) :
    s.clearIntegrals.drive.Compensates limit cleared muted := by
  refine refreshDuty (s := s.withDrive _) (h.of_channels (s.drive.sameBut_channels _) fun c => .inr ?_)
  simp

theorem settleWindow (h : s.drive.Compensates limit cleared muted) : s.settleWindow.drive.Compensates limit cleared muted :=
  h.of_same s.driveSame_settleWindow

theorem closeWindowEarly (h : s.drive.Compensates limit cleared muted) :
    s.closeWindowEarly.drive.Compensates limit cleared muted := by
  unfold State.closeWindowEarly
  split
  · exact h
  · refine settleWindow (latchBridge ⟨fun c => ?_, fun _ open' => absurd rfl open'⟩)
    simpa [Drive.closeWindow, ChannelState.forget] using h.within c

theorem jumpRamp (h : s.drive.Compensates limit cleared muted) : s.jumpRamp.drive.Compensates limit cleared muted :=
  (refreshDuty (s := s.withDrive _) (h.of_same (s.drive.sameBut_ramp _ _ _))).of_keeps (State.keeps_cadenceStep _)

theorem followTarget (h : s.drive.Compensates limit cleared muted) :
    s.followTarget.drive.Compensates limit cleared muted := by
  have turned (x : StepDir) (y : Timer) :
      (s.withDrive { s.drive with stepDir := x, rampTimer := y }).drive.Compensates limit cleared muted :=
    h.of_same (s.drive.sameBut_stepDir x y)
  unfold State.followTarget
  dsimp only
  split
  · split
    · exact turned _ _
    · exact h.jumpRamp
  · split
    · exact h
    · exact turned _ _

theorem setDirection (h : s.drive.Compensates limit cleared muted) (dir : Direction) :
    (s.setDirection dir).drive.Compensates limit cleared muted := by
  unfold State.setDirection
  split
  · exact h
  · have turned : (s.withDrive { s.drive with direction := dir }).drive.Compensates limit cleared muted := ⟨h.within, h.mutes⟩
    exact turned.clearIntegrals.of_keeps (State.keeps_lampDirection _)

theorem enterDriveState (h : s.drive.Compensates limit cleared muted) (new : DriveState) (asserting : Option Channel) :
    (s.enterDriveState new asserting).drive.Compensates limit cleared muted := by
  by_cases hs : s.drive.state = new
  · rw [show s.enterDriveState new asserting = s from if_pos hs]
    exact h
  · have named : (s.withDrive { s.drive with state := new, forgiveTimer := s.forgiveAfter new }).drive.Compensates limit
        cleared muted := ⟨h.within, h.mutes⟩
    have held : (s.stateHeld new).drive.Compensates limit cleared muted := named.latchBridge.settleWindow
    have taken : (s.stateTaken new).drive.Compensates limit cleared muted := by
      unfold State.stateTaken
      split
      · exact held.closeWindowEarly
      · exact held
    rw [s.enterDriveState_eq hs]
    exact taken.of_same (State.driveSame_announced (s.stateTaken new) _ new asserting)

theorem reachedZero (h : s.drive.Compensates limit cleared muted) : s.reachedZero.drive.Compensates limit cleared muted := by
  unfold State.reachedZero
  split
  · exact h
  · split
    · exact (h.setDirection _).enterDriveState _ _
    · split
      · exact h.enterDriveState _ _
      · exact h
    all_goals exact h

theorem settleDrive (h : s.drive.Compensates limit cleared muted) : s.settleDrive.drive.Compensates limit cleared muted :=
  h.followTarget.settleWindow.reachedZero.followTarget.settleWindow

end Drive.Compensates

/-- A channel under a new profile compensates by it. -/
theorem ChannelState.underProfile_within (x : ChannelState) (p : DriveProfile) :
    -(p.integralLimit : Int) ≤ (x.underProfile p).integral ∧ (x.underProfile p).integral ≤ p.integralLimit ∧
      (p.emfPeriod = 0 → (x.underProfile p).integral = 0 ∧ (x.underProfile p).correction = 0) := by
  unfold ChannelState.underProfile
  split
  · exact ⟨by simp, by simp, fun _ => ⟨rfl, rfl⟩⟩
  · refine ⟨?_, ?_, fun h => absurd h ‹_›⟩ <;> simp only [clampInt] <;> split <;> (try split) <;> omega

/-- A record update of what a profile sets. -/
theorem Drive.sameBut_profile (d : Drive) (p : DriveProfile) (muted : Bool) (x : PerChannel ChannelState) :
    d.SameBut { d with profile := p, windowMuted := muted, channels := x } [.profile, .windowMuted, .channels] := by
  intro f hf
  cases f <;> first | rfl | exact absurd hf (by decide)

section
variable (s : State)

/-! ### A drive profile -/

/-- The new profile in the drive's record (R13, R17). -/
def State.profileSet (p : DriveProfile) : State :=
  s.withDrive { s.drive with
    profile := p
    windowMuted := s.drive.windowMuted || (p.emfPeriod == 0 && s.drive.window != .closed)
    channels := s.drive.channels.map fun _ x => x.underProfile p }

/-- The same, C and D formed anew (R14). -/
def State.underProfile (p : DriveProfile) : State := (s.profileSet p).refreshDuty

/-- The same with the window closed where no channel is enabled (R40). -/
def State.profileTaken (p : DriveProfile) : State :=
  if p.anyEnabled then s.underProfile p else (s.underProfile p).closeWindowEarly

theorem State.takeDriveProfile_eq (p : DriveProfile) : s.takeDriveProfile p =
    (if decide (p.momentum = .off ∧ s.drive.profile.momentum ≠ .off) then (s.profileTaken p).jumpRamp
      else s.profileTaken p).settleDrive := rfl

theorem State.driveSame_underProfile (p : DriveProfile) :
    s.DriveSame (s.underProfile p) [.profile, .windowMuted, .channels] := by
  have set : s.DriveSame (s.profileSet p) [.profile, .windowMuted, .channels] := s.drive.sameBut_profile p _ _
  exact set.trans (s.profileSet p).driveSame_refreshDuty.mono

theorem State.underProfile_profile (p : DriveProfile) : (s.underProfile p).drive.profile = p :=
  (s.profileSet p).driveSame_refreshDuty.same .profile

theorem State.underProfile_compensates (p : DriveProfile) : (s.underProfile p).drive.Compensates p.integralLimit
    (p.emfPeriod = 0) (s.drive.windowMuted = true ∨ p.emfPeriod = 0) := by
  refine Drive.Compensates.refreshDuty (s := s.profileSet p) ⟨fun c => ?_, fun muted open' => ?_⟩
  · simpa [State.profileSet] using ChannelState.underProfile_within (s.drive.channels.get c) p
  · have opened : s.drive.window ≠ .closed := open'
    show (s.drive.windowMuted || (p.emfPeriod == 0 && s.drive.window != .closed)) = true
    rcases muted with h | h <;> simp [h, opened]

/-- What a profile leaves of the window where it closes it. -/
theorem State.profileTaken_shows (p : DriveProfile) : s.Shows (s.profileTaken p) [.drive] := by
  have under : s.Shows (s.underProfile p) [.drive] :=
    (State.Shows.of_frame (s.sameExcept_withDrive _)).trans (.of_keeps (s.profileSet p).keeps_refreshDuty)
  exact .ite (fun _ => under) fun _ => under.trans (.of_keeps (State.keeps_closeWindowEarly _))

theorem State.driveSame_profileTaken (p : DriveProfile) :
    s.DriveSame (s.profileTaken p) (.profile :: DriveField.ofWindow) :=
  .ite (fun _ => (s.driveSame_underProfile p).mono) fun _ =>
    (s.driveSame_underProfile p).mono.trans (State.driveSame_closeWindowEarly _).mono

theorem State.profileTaken_profile (p : DriveProfile) : (s.profileTaken p).drive.profile = p := by
  unfold State.profileTaken
  split
  · exact s.underProfile_profile p
  · exact ((State.driveSame_closeWindowEarly _).same .profile).trans (s.underProfile_profile p)

/-- What the hand-over of a drive profile leaves (R13 to R17, R40). -/
theorem State.takeDriveProfile_leaves (p : DriveProfile) :
    let t := s.takeDriveProfile p
    t.drive.profile = p ∧ t.drive.target = s.drive.target ∧ t.DutyFormed ∧
      t.drive.Compensates p.integralLimit (p.emfPeriod = 0) (s.drive.windowMuted = true ∨ p.emfPeriod = 0) ∧
      (p.anyEnabled = false → t.drive.window = .closed) ∧ (p.momentum = .off → t.drive.ramp = t.effectiveTarget) ∧
      (p.momentum ≠ .off → t.drive.ramp = s.drive.ramp ∧ t.events = s.events) := by
  intro t
  obtain ⟨u, hu⟩ : ∃ u, u = if decide (p.momentum = .off ∧ s.drive.profile.momentum ≠ .off) then (s.profileTaken p).jumpRamp
      else s.profileTaken p := ⟨_, rfl⟩
  have ht : t = u.settleDrive := by rw [hu]; exact s.takeDriveProfile_eq p
  have formed : (s.profileTaken p).DutyFormed := by
    unfold State.profileTaken
    split
    · exact State.dutyFormed_refreshDuty _
    · exact (State.dutyFormed_refreshDuty _).closeWindowEarly
  have compensates : (s.profileTaken p).drive.Compensates p.integralLimit (p.emfPeriod = 0)
      (s.drive.windowMuted = true ∨ p.emfPeriod = 0) := by
    unfold State.profileTaken
    split
    · exact s.underProfile_compensates p
    · exact (s.underProfile_compensates p).closeWindowEarly
  have jumped : (s.profileTaken p).DriveSame u DriveField.ofRamp := by
    rw [hu]
    exact .ite (fun _ => State.driveSame_jumpRamp _) fun _ => .refl _ _
  have profile : u.drive.profile = p := (jumped.same .profile).trans (s.profileTaken_profile p)
  have target : u.drive.target = s.drive.target := (jumped.same .target).trans ((s.driveSame_profileTaken p).same .target)
  rw [ht]
  refine ⟨(u.driveSame_settleDrive.same .profile).trans profile, (u.driveSame_settleDrive.same .target).trans target,
    State.DutyFormed.settleDrive ?_, Drive.Compensates.settleDrive ?_, fun none => ?_, fun off => ?_, fun on => ?_⟩
  · rw [hu]
    split
    · exact State.dutyFormed_rampMoved _
    · exact formed
  · rw [hu]
    split
    · exact compensates.jumpRamp
    · exact compensates
  · have closed : (s.profileTaken p).drive.window = .closed := by
      unfold State.profileTaken
      rw [if_neg (by simp [none])]
      exact (State.closeWindowEarly_shut _).1
    exact (Drive.windowLies_self ((jumped.same .window).trans closed)).settleDrive.window
  · exact u.settleDrive_ramp_off (by rw [profile, off])
  · have still : u = s.profileTaken p := by rw [hu, if_neg (by simp [on])]
    have on' : u.drive.profile.momentum ≠ .off := by rwa [profile]
    refine ⟨(State.settleDrive_ramp _ on').trans ?_, ((State.shows_settleDrive on').same .events).trans ?_⟩
    · rw [still]; exact (s.driveSame_profileTaken p).same .ramp
    · rw [still]; exact (s.profileTaken_shows p).same .events

theorem State.follows_takeDriveProfile (p : DriveProfile) : s.Follows (s.takeDriveProfile p) := by
  have taken : s.Follows (s.profileTaken p) := by
    have under : s.Follows (s.underProfile p) :=
      (State.Follows.of_keeps (s.keeps_withDrive _)).trans (.of_keeps (s.profileSet p).keeps_refreshDuty)
    unfold State.profileTaken
    split
    · exact under
    · exact under.trans (State.follows_closeWindowEarly _)
  rw [s.takeDriveProfile_eq]
  refine State.Follows.trans ?_ (State.follows_settleDrive _)
  split
  · exact taken.trans (State.follows_jumpRamp _)
  · exact taken

end

end Sys2Proof.Machine

/-! ## The fields of the drive's sections, and their hand-overs settled -/

namespace Sys2Proof.Machine

-- One proof at a time: proofs that wait for one another would each hold a thread.
set_option Elab.async false

/-- A field of an answer without a refusal is neither unlisted nor a bad partner. -/
theorem listed_of_firstRefusal {fs : List Finding} (h : firstRefusal fs = none) (f : Finding) (hf : f ∈ fs) :
    f ≠ .unknownCode :=
  ((firstRefusal_eq_none fs).mp h f hf).1

/-- The fields of a DRIVE_PROFILE that is not refused (R21). -/
theorem readDriveProfile_values {b : List Byte} (h : firstRefusal (readDriveProfile b).2 = none) :
    let p := (readDriveProfile b).1
    let trim (i : Nat) : Trim := ⟨u8At b i, max (-64) (min 63 (s8At b (i + 1))), u8At b (i + 2) == 1⟩
    p.accelStep = max 1 (u8At b 0) ∧ p.decelStep = max 1 (u8At b 1) ∧
    p.accelInterval = max 1 (u8At b 2) ∧ p.decelInterval = max 1 (u8At b 3) ∧
    some p.momentum = Momentum.ofCode (u8At b 4) ∧ p.trim.a = trim 5 ∧ p.trim.b = trim 8 ∧
    p.kp = min 63 (u8At b 11) ∧ p.ki = min 63 (u8At b 12) ∧ p.integralLimit = min 1023 (u16At b 13) ∧
    p.emfScale = u8At b 15 ∧ p.emfPeriod = u8At b 16 ∧ p.settle = max 10 (u8At b 17) ∧
    p.retryDelay = max 10 (u8At b 18) ∧ p.retryLimit = min 7 (u8At b 19) ∧
    p.forgive = max 10 (u8At b 20) ∧ p.holdBrake = (u8At b 21 == 1) := by
  have listed := listed_of_firstRefusal h
  have switch (i : Nat) (hi : i = 7 ∨ i = 10 ∨ i = 21) : (switchField (u8At b i)).1 = (u8At b i == 1) := by
    refine switchField_value (listed _ ?_)
    rcases hi with rfl | rfl | rfl <;> simp [readDriveProfile]
  have trim (i : Nat) (hi : i = 5 ∨ i = 8) :
      (⟨u8At b i, (intField (s8At b (i + 1)) (-64) 63).1, (switchField (u8At b (i + 2))).1⟩ : Trim) =
        ⟨u8At b i, max (-64) (min 63 (s8At b (i + 1))), u8At b (i + 2) == 1⟩ := by
    rw [intField_value (by decide), switch (i + 2) (by omega)]
  exact ⟨numField_max b 0 (by decide), numField_max b 1 (by decide), numField_max b 2 (by decide),
    numField_max b 3 (by decide), codeField_value (listed _ (by simp [readDriveProfile])), trim 5 (.inl rfl), trim 8 (.inr rfl),
    numField_min _ _, numField_min _ _, numField_min _ _, rfl, rfl, numField_max b 17 (by decide), numField_max b 18 (by decide),
    numField_min _ _, numField_max b 20 (by decide), switch 21 (.inr (.inr rfl))⟩

theorem readSpeedTable_get (b : List Byte) (i : Fin 16) : (readSpeedTable b).1[i] = min 1023 (u16At b (2 * i.val)) := by
  unfold readSpeedTable
  simp only [vecTab_get]
  exact numField_min _ _

/-- The fields of a DRIVE directive that is not refused, the demand's range by its mode (R4). -/
theorem readDriveDirective_values {b : List Byte} (h : firstRefusal (readDriveDirective b).2 = none) :
    let d := (readDriveDirective b).1
    DemandMode.ofCode (u8At b 0) = some d.mode ∧ Direction.ofCode (u8At b 3) = some d.direction ∧
      (d.mode = .direct → d.demand = min 1023 (u16At b 1)) ∧ (d.mode = .step → d.demand = min 120 (u16At b 1)) ∧
      d.radioAllowed = (u8At b 4 == 1) := by
  have listed := listed_of_firstRefusal h
  have demand (m : DemandMode) (n : Nat) (hn : (match m with | .direct => 1023 | .step => 120) = n)
      (hm : (readDriveDirective b).1.mode = m) : (readDriveDirective b).1.demand = min n (u16At b 1) := by
    rw [← hn, ← hm]
    exact numField_min _ _
  exact ⟨(codeField_value (listed _ (by simp [readDriveDirective]))).symm,
    (codeField_value (listed _ (by simp [readDriveDirective]))).symm, demand _ _ rfl, demand _ _ rfl,
    switchField_value (v := u8At b 4) (listed _ (by simp [readDriveDirective]))⟩

theorem State.HandsOver.fine {s : State} {k : Fin 15} {body : List Byte} (h : s.HandsOver k body) :
    firstRefusal (sectionFindings k body) = none := by
  obtain ⟨-, -, -, -, -, -, fine⟩ := h
  exact fine

/-- Settles O50: each hand-over is followed to the verdict that is written behind it. -/
theorem handOversToTheDrive : Obligations.HandOversToTheDrive := by
  intro s body
  refine ⟨fun ho hq => ?_, fun ho hq => ?_, fun ho hq => ?_⟩
  · obtain ⟨p, hp⟩ : ∃ p, p = (readDriveProfile body).1 := ⟨_, rfl⟩
    have fields := readDriveProfile_values ho.fine
    have leaves := s.takeDriveProfile_leaves p
    have keeps := s.keeps_takeDriveProfile p
    have follows := s.follows_takeDriveProfile p
    obtain ⟨t, ht, frame⟩ := State.HandsOver.finish (read := readDriveProfile) (take := State.takeDriveProfile) ho rfl
      (by rw [← hp]; exact hq.open.of_voices follows.part (keeps.same .acks) follows.voices)
    rw [← hp] at fields frame
    generalize s.takeDriveProfile p = h at *
    have drive : t.drive = h.drive := frame .drive (by decide)
    have power : t.power = h.power := frame .power (by decide)
    have part : t.part = h.part := frame .part (by decide)
    obtain ⟨profile, target, formed, compensates, closed, off, on⟩ := leaves
    have follow : t.effectiveTarget = h.effectiveTarget :=
      State.effectiveTarget_congr part (by rw [power]) (by rw [drive]) (by rw [drive]) (by rw [drive])
    have events : t.events = h.events := frame .events (by decide)
    refine ⟨t, congrArg Host.Outcome.next ht, ?_⟩
    dsimp only at fields ⊢
    rw [drive, profile]
    obtain ⟨f₁, f₂, f₃, f₄, f₅, f₆, f₇, f₈, f₉, f₁₀, f₁₁, f₁₂, f₁₃, f₁₄, f₁₅, f₁₆, f₁₇⟩ := fields
    refine ⟨f₁, f₂, f₃, f₄, f₅, f₆, f₇, f₈, f₉, f₁₀, f₁₁, f₁₂, f₁₃, f₁₄, f₁₅, f₁₆, f₁₇,
      formed.of_same (by rw [drive]) (by rw [drive]) power (fun c => by rw [drive]; exact ⟨rfl, rfl, rfl, rfl⟩), target,
      compensates.within, fun zero => compensates.mutes (.inr zero), fun muted => compensates.mutes (.inl muted),
      fun a b => closed (by simp [DriveProfile.anyEnabled, a, b]), fun h => by rw [follow]; exact off h,
      fun h => by rw [events]; exact on h, ?_⟩
    exact State.sameExcept_trans (State.sameExcept_mono keeps.frame (by decide)) (State.sameExcept_mono frame (by decide))
  · obtain ⟨p, hp⟩ : ∃ p, p = (readSpeedTable body).1 := ⟨_, rfl⟩
    obtain ⟨t, ht, frame⟩ := State.HandsOver.finish (read := readSpeedTable) (take := State.takeSpeedTable) ho rfl
      (hq.open.of_frame (s.sameExcept_withDrive _))
    have drive : t.drive = { s.drive with table := (readSpeedTable body).1 } := frame .drive (by decide)
    refine ⟨t, congrArg Host.Outcome.next ht, fun i => ?_, by rw [drive], ?_⟩
    · rw [drive]
      exact readSpeedTable_get body i
    · exact State.sameExcept_trans (State.sameExcept_mono (s.sameExcept_withDrive _) (by decide))
        (State.sameExcept_mono frame (by decide))
  · obtain ⟨d, hd⟩ : ∃ d, d = (readDriveDirective body).1 := ⟨_, rfl⟩
    have fields := readDriveDirective_values ho.fine
    have keeps := s.keeps_takeDriveDirective d
    have follows : s.Follows (s.takeDriveDirective d) :=
      (State.Follows.of_keeps (s.keeps_withDrive _)).trans (State.follows_writeTarget _ _ _ _)
    obtain ⟨t, ht, frame⟩ := State.HandsOver.finish (read := readDriveDirective) (take := State.takeDriveDirective) ho rfl
      (by rw [← hd]; exact hq.open.of_voices follows.part (keeps.same .acks) follows.voices)
    rw [← hd] at fields frame
    obtain ⟨mode, direction, direct, step, allowed⟩ := fields
    have drive : t.drive = (s.takeDriveDirective d).drive := frame .drive (by decide)
    refine ⟨t, d.mode, d.direction, congrArg Host.Outcome.next ht, mode, direction, fun h => ?_, fun h => ?_, ?_⟩
    · have same : d = ⟨d.mode, min 1023 (u16At body 1), d.direction, u8At body 4 == 1⟩ := by
        rw [← direct h, ← allowed]
      rw [drive, same]
      dsimp only [State.takeDriveDirective]
      rw [h]
    · have same : d = ⟨d.mode, min 120 (u16At body 1), d.direction, u8At body 4 == 1⟩ := by
        rw [← step h, ← allowed]
      rw [drive, same]
      dsimp only [State.takeDriveDirective]
      rw [h]
      rfl
    · exact State.sameExcept_trans (State.sameExcept_mono keeps.frame (by decide)) (State.sameExcept_mono frame (by decide))

end Sys2Proof.Machine

/-! ## The hand-overs of the measure, power, cadence, sound and radio profiles -/

namespace Sys2Proof.Machine

-- One proof at a time: proofs that wait for one another would each hold a thread.
set_option Elab.async false

/-! ### Their fields -/

theorem not_gated : ∀ k : SlotIx, k ≠ 5 → k ≠ 6 → gated k = false := by decide

/-- The fields of a slot's record that is not refused (R59). -/
theorem readSlotProfile_values {b : List Byte} {k : SlotIx} {i : Nat}
    (h : ∀ f ∈ (readSlotProfile k (b.drop i)).2, f ≠ .unknownCode) :
    let x := (readSlotProfile k (b.drop i)).1
    x.enabled = (u8At b i == 1) ∧ (k ≠ 5 → k ≠ 6 → x.divisor = max 1 (min 16 (u8At b (i + 1)))) ∧
      x.low = min 4095 (u16At b (i + 2)) ∧ x.high = min 4095 (u16At b (i + 4)) ∧ x.faultCount = min 15 (u8At b (i + 6)) ∧
      x.hysteresis = min 127 (u8At b (i + 7)) ∧ some x.driveLow = Level.ofCode (u8At b (i + 8)) ∧
      some x.driveHigh = Level.ofCode (u8At b (i + 9)) ∧ some x.smokeLow = SmokeAction.ofCode (u8At b (i + 10)) ∧
      some x.smokeHigh = SmokeAction.ofCode (u8At b (i + 11)) ∧ x.substitute = (u8At b (i + 12) == 1) ∧
      x.substituteValue = min 4095 (u16At b (i + 13)) := by
  have divisor : k ≠ 5 → k ≠ 6 → (readSlotProfile k (b.drop i)).1.divisor = max 1 (min 16 (u8At b (i + 1))) := by
    intro h₅ h₆
    have free : gated k = false := not_gated k h₅ h₆
    unfold readSlotProfile
    dsimp only
    rw [free, u8At_drop]
    exact numField_value (by decide)
  have switch (j : Nat) (hj : j = 0 ∨ j = 12) : (switchField (u8At (b.drop i) j)).1 = (u8At (b.drop i) j == 1) := by
    refine switchField_value (h _ ?_)
    rcases hj with rfl | rfl <;> simp [readSlotProfile]
  simp only [← u8At_drop, ← u16At_drop, show u8At b i = u8At (b.drop i) 0 from (u8At_drop b i 0).symm]
  refine ⟨switch 0 (.inl rfl), by simpa only [u8At_drop] using divisor, numField_min _ _, numField_min _ _, numField_min _ _,
    numField_min _ _, codeField_value (h _ (by simp [readSlotProfile])), codeField_value (h _ (by simp [readSlotProfile])),
    codeField_value (h _ (by simp [readSlotProfile])), codeField_value (h _ (by simp [readSlotProfile])),
    switch 12 (.inr rfl), numField_min _ _⟩

/-- The fields of a MEASURE_PROFILE that is not refused (R59). -/
theorem readMeasureProfile_values {b : List Byte} (h : firstRefusal (readMeasureProfile b).2 = none) :
    let p := (readMeasureProfile b).1
    p.scanPeriod = max 2 (u8At b 0) ∧ p.correction = (u8At b 1 == 1) ∧
      ∀ k : SlotIx, p.slots[k] = (readSlotProfile k (b.drop (2 + 15 * k.val))).1 ∧
        ∀ f ∈ (readSlotProfile k (b.drop (2 + 15 * k.val))).2, f ≠ .unknownCode := by
  have listed := listed_of_firstRefusal h
  refine ⟨numField_max b 0 (by decide), switchField_value (v := u8At b 1) (listed _ (by simp [readMeasureProfile])), fun k =>
    ⟨vecTab_get _ _ _, fun f hf => listed f ?_⟩⟩
  simp only [readMeasureProfile, List.mem_cons, List.mem_flatten, List.mem_map, List.mem_finRange, true_and]
  exact .inr (.inr ⟨_, ⟨k, rfl⟩, hf⟩)

theorem readPowerProfile_eq (b : List Byte) : (readPowerProfile b).1 =
    ⟨u8At b 0, min 1023 (u16At b 1), min 256 (u16At b 3), min 256 (u16At b 5), min 4095 (u16At b 7)⟩ := by
  simp only [readPowerProfile, numField_min]

/-- The fields of a CADENCE_PROFILE that is not refused (R78). -/
theorem readCadenceProfile_values {b : List Byte} (h : firstRefusal (readCadenceProfile b).2 = none) :
    ∃ mode, SourceMode.ofCode (u8At b 0) = some mode ∧ (readCadenceProfile b).1 =
      ⟨mode, max 1 (min 50 (u8At b 1)), max 1 (min 8 (u8At b 2)), max 1 (u16At b 3)⟩ := by
  have listed := listed_of_firstRefusal h
  have bound := u16At_lt b 3
  refine ⟨_, (codeField_value (x := .auto) (listed _ (by simp [readCadenceProfile]))).symm, ?_⟩
  simp only [readCadenceProfile]
  rw [numField_value (v := u8At b 1) (by decide), numField_value (v := u8At b 2) (by decide),
    numField_value (v := u16At b 3) (by decide), Nat.min_eq_right (by omega : u16At b 3 ≤ 65535)]

theorem haltRoutingField_value : (v : Nat) → (haltRoutingField v).2 ≠ .unknownCode →
    (haltRoutingField v).1 = if v = 0 ∨ v = 1 then .apply else .both
  | 0, _ | 1, _ | 2, _ | 3, _ => rfl
  | _ + 4, h => absurd rfl h

theorem userRoutingField_value : (v : Nat) → (userRoutingField v).2 ≠ .unknownCode →
    (userRoutingField v).1 = if v = 0 then .ignore else .forward
  | 0, _ | 1, _ | 2, _ | 3, _ => rfl
  | _ + 4, h => absurd rfl h

/-- The fields of a RADIO_PROFILE that is not refused (R145). -/
theorem readRadioProfile_values {b : List Byte} (h : firstRefusal (readRadioProfile b).2 = none) :
    let p := (readRadioProfile b).1
    p.primary = max 1 (min 9999 (u16At b 0)) ∧ p.consist = min 9999 (u16At b 2) ∧
      p.consistReversed = (u8At b 4 == 1) ∧ some p.speed = Routing.ofCode (u8At b 5) ∧
      p.halt = (if u8At b 6 = 0 ∨ u8At b 6 = 1 then .apply else .both) ∧
      some p.function = Routing.ofCode (u8At b 7) ∧ some p.functionGroup = Routing.ofCode (u8At b 8) ∧
      some p.cue = Routing.ofCode (u8At b 9) ∧ some p.volume = Routing.ofCode (u8At b 10) ∧
      p.user = (if u8At b 11 = 0 then .ignore else .forward) ∧ p.silenceTimeout = u8At b 12 ∧
      some p.silenceAction = Level.ofSilenceCode (u8At b 13) ∧ p.clearTarget = (u8At b 14 == 1) := by
  have listed := listed_of_firstRefusal h
  have routing (i : Nat) (hi : i = 5 ∨ i = 7 ∨ i = 8 ∨ i = 9 ∨ i = 10) :
      some (routingField (u8At b i)).1 = Routing.ofCode (u8At b i) := by
    refine codeField_value (listed _ ?_)
    rcases hi with rfl | rfl | rfl | rfl | rfl <;> simp [readRadioProfile, routingField]
  exact ⟨numField_value (by decide), numField_min _ _, switchField_value (v := u8At b 4) (listed _ (by simp [readRadioProfile])),
    routing 5 (by simp), haltRoutingField_value _ (listed _ (by simp [readRadioProfile])), routing 7 (by simp),
    routing 8 (by simp), routing 9 (by simp), routing 10 (by simp),
    userRoutingField_value _ (listed _ (by simp [readRadioProfile])), rfl,
    codeField_value (listed _ (by simp [readRadioProfile])),
    switchField_value (v := u8At b 14) (listed _ (by simp [readRadioProfile]))⟩

end Sys2Proof.Machine

/-! ## The hand-overs of the profiles, settled -/

namespace Sys2Proof.Machine

-- One proof at a time: proofs that wait for one another would each hold a thread.
set_option Elab.async false

section
variable (s : State)

/-! ### The cadence unit (R78, R83, R84) -/

/-- What a new interval leaves of the cadence unit's settings. -/
theorem State.recomputeInterval_cadence : s.recomputeInterval.cadence.profile = s.cadence.profile ∧
    s.recomputeInterval.cadence.source = s.cadence.source ∧
    s.recomputeInterval.cadence.interval = if s.cadence.heldV = 0 then none
      else some (max 20 (min 5000 (s.cadence.profile.constant * 256 / s.cadence.heldV))) := by
  by_cases hv : s.cadence.heldV = 0
  · rw [s.recomputeInterval_still hv, if_pos hv]
    exact ⟨rfl, rfl, rfl⟩
  · have moving : 0 < s.cadence.heldV := by omega
    rw [if_neg hv, ← syntheticInterval_eq]
    cases due : s.chuffDue (syntheticInterval s.cadence.profile.constant s.cadence.heldV)
    · rw [s.recomputeInterval_early moving due]
      exact ⟨rfl, rfl, rfl⟩
    · rw [s.recomputeInterval_due_cadence moving due]
      exact ⟨rfl, rfl, rfl⟩

theorem settledSource_auto (cam : CamState) : settledSource .auto cam = if cam = .live then .cam else .synthetic := by
  cases cam <;> rfl

/-- A source in force that changes: CAM takes the interval away, SYNTHETIC forms it (R83). -/
theorem State.settleSource_turned {x : ChuffSource} (h : settledSource s.cadence.profile.mode s.cadence.cam = x)
    (hs : s.cadence.source ≠ x) :
    (x = .cam → s.settleSource =
      s.withCadence { s.cadence with source := .cam, interval := none, chuffTimer := .stopped }) ∧
    (x = .synthetic → s.settleSource = (s.withCadence { s.cadence with source := .synthetic }).recomputeInterval) := by
  unfold State.settleSource
  dsimp only
  rw [h, if_neg hs.symm]
  exact ⟨fun e => by rw [e]; rfl, fun e => by rw [e]⟩

/-- The hand-over of a cadence profile by what becomes of the source in force. -/
theorem State.takeCadenceProfile_eq (p : CadenceProfile) :
    let new := settledSource p.mode s.cadence.cam
    let installed := s.withCadence { s.cadence with profile := p }
    (new = s.cadence.source → new = .cam ∨ p.constant = s.cadence.profile.constant → s.takeCadenceProfile p = installed) ∧
    (new = .cam → s.cadence.source = .synthetic → s.takeCadenceProfile p =
      s.withCadence { s.cadence with profile := p, source := .cam, interval := none, chuffTimer := .stopped }) ∧
    (new = .synthetic → s.cadence.source = .synthetic → p.constant ≠ s.cadence.profile.constant →
      s.takeCadenceProfile p = installed.recomputeInterval) ∧
    (new = .synthetic → s.cadence.source = .cam →
      s.takeCadenceProfile p = (s.withCadence { s.cadence with profile := p, source := .synthetic }).recomputeInterval) := by
  intro new installed
  have stays (h : new = s.cadence.source) : installed.settleSource = installed := if_pos h
  have taken : s.takeCadenceProfile p = if decide (p.constant ≠ s.cadence.profile.constant) = true ∧
      installed.settleSource.cadence.source = .synthetic ∧ s.cadence.source = .synthetic
    then installed.settleSource.recomputeInterval else installed.settleSource := rfl
  refine ⟨fun h hk => ?_, fun h hs => ?_, fun h hs hk => ?_, fun h hs => ?_⟩
  · have idle : ¬ (decide (p.constant ≠ s.cadence.profile.constant) = true ∧ installed.cadence.source = .synthetic ∧
        s.cadence.source = .synthetic) := by
      rintro ⟨changed, -, source⟩
      rcases hk with hk | hk
      · exact absurd (hk.symm.trans (h.trans source)) nofun
      · exact of_decide_eq_true changed hk
    rw [taken, stays h, if_neg idle]
  · have turned : installed.settleSource =
        s.withCadence { s.cadence with profile := p, source := .cam, interval := none, chuffTimer := .stopped } :=
      (installed.settleSource_turned h (show s.cadence.source ≠ _ by rw [hs]; nofun)).1 rfl
    rw [taken, turned, if_neg]
    rintro ⟨-, source, -⟩
    exact absurd source nofun
  · rw [taken, stays (h.trans hs.symm), if_pos ⟨decide_eq_true hk, hs, hs⟩]
  · have turned : installed.settleSource =
        (s.withCadence { s.cadence with profile := p, source := .synthetic }).recomputeInterval :=
      (installed.settleSource_turned h (show s.cadence.source ≠ _ by rw [hs]; nofun)).2 rfl
    rw [taken, turned, if_neg]
    rintro ⟨-, -, source⟩
    exact absurd (hs.symm.trans source) nofun

/-- What the hand-over leaves of the cadence unit's record. -/
theorem State.takeCadenceProfile_leaves (p : CadenceProfile) :
    let c := s.cadence
    let source := settledSource p.mode c.cam
    let t := s.takeCadenceProfile p
    t.cadence.profile = p ∧ t.cadence.source = source ∧
      (source = c.source → source = .cam ∨ p.constant = c.profile.constant →
        t = s.withCadence { c with profile := p }) ∧
      (source = .cam → c.source = .synthetic →
        t.cadence = { c with profile := p, source := source, interval := none, chuffTimer := .stopped }) ∧
      (source = .synthetic → c.source = .cam ∨ p.constant ≠ c.profile.constant → t.cadence.interval =
        if c.heldV = 0 then none else some (max 20 (min 5000 (p.constant * 256 / c.heldV)))) := by
  intro c source t
  obtain ⟨same, toCam, anew, toSynthetic⟩ := s.takeCadenceProfile_eq p
  have synthetic (h : source = .synthetic) (hc : c.source = .cam ∨ p.constant ≠ c.profile.constant) :
      t.cadence.profile = p ∧ t.cadence.source = source ∧ t.cadence.interval =
        if c.heldV = 0 then none else some (max 20 (min 5000 (p.constant * 256 / c.heldV))) := by
    rw [h]
    cases hs : s.cadence.source
    case cam =>
      rw [show t = _ from toSynthetic h hs]
      exact State.recomputeInterval_cadence _
    case synthetic =>
      rw [show t = _ from anew h hs (hc.resolve_left (by rw [show c.source = _ from hs]; nofun)), ← hs]
      exact State.recomputeInterval_cadence _
  have leaves (h : source = .cam) (hs : c.source = .synthetic) :
      t.cadence = { c with profile := p, source := source, interval := none, chuffTimer := .stopped } := by
    rw [show t = _ from toCam h hs, h]
    rfl
  have both : t.cadence.profile = p ∧ t.cadence.source = source := by
    cases hn : source <;> cases hs : c.source
    case cam.synthetic => rw [leaves hn hs, hn]; exact ⟨rfl, rfl⟩
    case synthetic.cam =>
      obtain ⟨h₁, h₂, -⟩ := synthetic hn (.inl hs)
      exact ⟨h₁, h₂.trans hn⟩
    case cam.cam => rw [show t = _ from same (hn.trans hs.symm) (.inl hn)]; exact ⟨rfl, hs⟩
    case synthetic.synthetic =>
      by_cases hk : p.constant = c.profile.constant
      · rw [show t = _ from same (hn.trans hs.symm) (.inr hk)]; exact ⟨rfl, hs⟩
      · obtain ⟨h₁, h₂, -⟩ := synthetic hn (.inr hk)
        exact ⟨h₁, h₂.trans hn⟩
  exact ⟨both.1, both.2, same, leaves, fun h hc => (synthetic h hc).2.2⟩

theorem State.follows_takeCadenceProfile (p : CadenceProfile) : s.Follows (s.takeCadenceProfile p) := by
  have settles (u : State) : u.Follows u.settleSource := by
    unfold State.settleSource
    dsimp only
    split
    · exact .refl u
    · split
      · exact (State.Follows.of_keeps (u.keeps_withCadence _)).trans (.of_keeps (State.keeps_withCadence _ _))
      · exact (State.Follows.of_keeps (u.keeps_withCadence _)).trans (State.follows_recomputeInterval _)
  exact ((State.Follows.of_keeps (s.keeps_withCadence _)).trans (settles _)).trans
    (.ite (fun _ => State.follows_recomputeInterval _) fun _ => .refl _)

/-! ### The power supervisor (R72) -/

/-- A power profile is published where it changes a value in force (R72). -/
theorem State.takePowerProfile_eq (p : PowerProfile) (order : Nat) :
    let old := s.power.profile
    let installed := s.withPower { s.power with profile := p }
    (s.power.state ≠ .bridging ∨ p.ceiling = old.ceiling ∧ p.attenuation = old.attenuation ∧ p.dim = old.dim →
      s.takePowerProfile p order = installed) ∧
    (s.power.state = .bridging → p.ceiling ≠ old.ceiling ∨ p.attenuation ≠ old.attenuation ∨ p.dim ≠ old.dim →
      s.takePowerProfile p order = installed.publishPower false order) := by
  intro old installed
  refine ⟨fun h => if_neg fun ⟨bridging, changed⟩ => ?_, fun h hc => if_pos ⟨h, hc.imp Ne.symm (Or.imp Ne.symm Ne.symm)⟩⟩
  rcases h with h | ⟨h₁, h₂, h₃⟩
  · exact h bridging
  · rcases changed with h | h | h
    · exact h h₁.symm
    · exact h h₂.symm
    · exact h h₃.symm

/-- What it leaves of the supervisor's record, and of what the quiesce waits for. -/
theorem State.takePowerProfile_leaves (p : PowerProfile) (order : Nat) :
    (s.takePowerProfile p order).power = { s.power with profile := p } ∧ s.Heeds (s.takePowerProfile p order) := by
  have set : s.Heeds (s.withPower { s.power with profile := p }) := .of_frame (s.sameExcept_withPower _)
  refine ⟨?_, .ite (fun _ => set.trans (State.heeds_publishPower _ _ _)) fun _ => set⟩
  unfold State.takePowerProfile
  dsimp only
  split
  · exact (State.keeps_publishPower _ _ _).same .power
  · rfl

/-- The publication stands where its parts do. -/
theorem State.PowerPublished.of_frame {s t : State} {l : List Component} (h : s.PowerPublished) (f : s.SameExcept t l)
    (hl : Component.drive ∉ l ∧ .power ∉ l ∧ .lamps ∉ l ∧ .sound ∉ l ∧ .smoke ∉ l := by decide) : t.PowerPublished := by
  obtain ⟨hd, hp, hla, hso, hsm⟩ := hl
  have drive : t.drive = s.drive := f .drive hd
  have power : t.power = s.power := f .power hp
  obtain ⟨factor, attenuation, hold, formed, ceiling⟩ := h
  refine ⟨?_, ?_, ?_, formed.of_same (by rw [drive]) (by rw [drive]) power
    (fun c => by rw [drive]; exact ⟨rfl, rfl, rfl, rfl⟩), ?_⟩
  · rw [show t.lamps = s.lamps from f .lamps hla, power]; exact factor
  · rw [show t.sound = s.sound from f .sound hso, power]; exact attenuation
  · rw [show t.smoke = s.smoke from f .smoke hsm, power]; exact hold
  · rw [drive, power]; exact ceiling

/-! ### The receiver (R151) -/

/-- Where silence is in force, the profile withdraws the cause, changes its action, or changes nothing of it. -/
theorem State.takeRadioProfile_silent (p : RadioProfile) (h : s.radio.silence = .silent) :
    s.takeRadioProfile p =
      if p.silenceTimeout = 0 then
        (((s.withRadio { s.radio with profile := p, silence := .disarmed }).endSilence 2#8).writeRadioReadings)
      else if p.silenceAction ≠ s.radio.profile.silenceAction then
        (s.withRadio { s.radio with profile := p }).recomputeProtection
      else s.withRadio { s.radio with profile := p } := by
  unfold State.takeRadioProfile
  dsimp only [State.withRadio]
  rw [h]

/-- The level that the drive takes over is the one its causes give (R35). -/
theorem State.recomputeProtection_level : s.recomputeProtection.drive.level = s.recomputeProtection.protectionLevel := by
  have keeps := s.keeps_recomputeProtection
  rw [State.protectionLevel_congr (keeps.same .sequencer) (keeps.same .radio)]
  exact s.recomputeProtection_stores.same .level

theorem State.heeds_takeRadioProfile (p : RadioProfile) : s.Heeds (s.takeRadioProfile p) := by
  have set (u : State) (r : Radio) : u.Heeds (u.withRadio r) := .of_frame (u.sameExcept_withRadio r)
  have written (u : State) : u.Heeds u.writeRadioReadings := .of_frame u.keeps_writeRadioReadings.frame
  have ended (u : State) : u.Heeds (u.endSilence 2#8) :=
    (((set u _).event (by simp) _ _).raise _).trans (State.follows_recomputeProtection _).toHeeds
  cases h : s.radio.silence
  case silent =>
    rw [s.takeRadioProfile_silent p h]
    split
    · exact ((set s _).trans (ended _)).trans (written _)
    · split
      · exact (set s _).trans (State.follows_recomputeProtection _).toHeeds
      · exact set s _
  case disarmed =>
    unfold State.takeRadioProfile
    dsimp only [State.withRadio_radio]
    rw [h]
    exact .ite (fun _ => ((set s _).trans (set _ _)).trans (written _)) fun _ => set s _
  case listening =>
    unfold State.takeRadioProfile
    dsimp only [State.withRadio_radio]
    rw [h]
    exact .ite (fun _ => ((set s _).trans (set _ _)).trans (written _)) fun _ => set s _

/-- Where silence is not in force, the hand-over acts on the receiver and its readings alone (R151). -/
theorem State.takeRadioProfile_quiet (p : RadioProfile) :
    (s.radio.silence = .disarmed → 0 < p.silenceTimeout → s.radio.heard = true → s.takeRadioProfile p =
      (s.withRadio { s.radio with
        profile := p, silence := .listening,
        silenceTimer := .running (millis s.time + hundredMillis p.silenceTimeout) }).writeRadioReadings) ∧
    (s.radio.silence = .disarmed → p.silenceTimeout = 0 ∨ s.radio.heard = false →
      s.takeRadioProfile p = s.withRadio { s.radio with profile := p }) ∧
    (s.radio.silence = .listening → 0 < p.silenceTimeout →
      s.takeRadioProfile p = s.withRadio { s.radio with profile := p }) ∧
    (s.radio.silence = .listening → p.silenceTimeout = 0 → s.takeRadioProfile p =
      (s.withRadio { s.radio with profile := p, silence := .disarmed, silenceTimer := .stopped }).writeRadioReadings) := by
  unfold State.takeRadioProfile
  dsimp only [State.withRadio_radio]
  refine ⟨fun h ht hh => ?_, fun h ht => ?_, fun h ht => ?_, fun h ht => ?_⟩ <;> rw [h]
  · exact if_pos ⟨ht, hh⟩
  · refine if_neg fun ⟨h₁, h₂⟩ => ?_
    rcases ht with ht | ht
    · omega
    · exact absurd (h₂.symm.trans ht) nofun
  · exact if_neg (by omega)
  · exact if_pos ht

theorem State.takeRadioProfile_frame (p : RadioProfile) (h : s.radio.silence ≠ .silent) :
    s.SameExcept (s.takeRadioProfile p) [.radio, .store] := by
  obtain ⟨arms, idles, stays, disarms⟩ := s.takeRadioProfile_quiet p
  have set (r : Radio) : s.SameExcept (s.withRadio r) [.radio, .store] :=
    State.sameExcept_mono (s.sameExcept_withRadio r) (by decide)
  have written (u : State) : u.SameExcept u.writeRadioReadings [.radio, .store] :=
    State.sameExcept_mono u.keeps_writeRadioReadings.frame (by decide)
  by_cases ht : p.silenceTimeout = 0
  · cases hs : s.radio.silence
    case disarmed => rw [idles hs (.inl ht)]; exact set _
    case listening => rw [disarms hs ht]; exact State.sameExcept_trans (set _) (written _)
    case silent => exact absurd hs h
  · cases hs : s.radio.silence
    case disarmed =>
      cases hh : s.radio.heard
      · rw [idles hs (.inr hh)]; exact set _
      · rw [arms hs (by omega) hh]; exact State.sameExcept_trans (set _) (written _)
    case listening => rw [stays hs (by omega)]; exact set _
    case silent => exact absurd hs h

/-- The end of silence as it is raised, before the drive takes it (R151, R156). -/
def State.silenceRaised (subject : Byte) : State :=
  ((s.withRadio { s.radio with elapsedTimer := .stopped }).event .radioRestored subject
    (BitVec.ofNat 16 s.radio.elapsed)).raise .silence

theorem State.endSilence_eq (subject : Byte) : s.endSilence subject = (s.silenceRaised subject).recomputeProtection := rfl

theorem State.silenceRaised_drive (subject : Byte) : (s.silenceRaised subject).drive = s.drive :=
  ((State.keeps_raise _ _).same .drive).trans ((State.keeps_event _ _ _ _).same .drive)

theorem State.silenceRaised_events (subject : Byte) : (s.silenceRaised subject).events =
    (s.event .radioRestored subject (BitVec.ofNat 16 s.radio.elapsed)).events := by
  have attends : (s.withRadio { s.radio with elapsedTimer := .stopped }).AttendsAs s := .of_frame (s.sameExcept_withRadio _)
  exact ((State.keeps_raise _ _).same .events).trans (attends.event _ _ _).2.1

/-- The end of silence that a timeout of 0 brings (R151, R156). -/
theorem State.endSilence_leaves (subject : Byte) : let t := (s.endSilence subject).writeRadioReadings
    t.radio = { s.radio with elapsedTimer := .stopped } ∧ t.drive.level = t.protectionLevel ∧
      (s.drive.profile.momentum ≠ .off →
        t.events = (s.event .radioRestored subject (BitVec.ofNat 16 s.radio.elapsed)).events) := by
  have radio := s.endSilence_radio subject
  rw [s.endSilence_eq] at radio ⊢
  rw [← s.silenceRaised_events, ← s.silenceRaised_drive subject]
  generalize s.silenceRaised subject = u at *
  have keeps := u.recomputeProtection.keeps_writeRadioReadings
  have level := u.recomputeProtection_level
  have shown := u.recomputeProtection_shows
  generalize u.recomputeProtection = x at *
  refine ⟨(keeps.same .radio).trans radio, ?_, fun on => (keeps.same .events).trans ((shown on).1.same .events)⟩
  rw [State.protectionLevel_congr (keeps.same .sequencer) (keeps.same .radio), keeps.same .drive]
  exact level

/-- What the hand-over leaves where silence is in force (R151). -/
theorem State.takeRadioProfile_leaves (p : RadioProfile) :
    let r := s.radio
    let t := s.takeRadioProfile p
    t.radio.profile = p ∧ (r.silence = .silent → 0 < p.silenceTimeout → t.radio = { r with profile := p }) ∧
      (r.silence = .silent → p.silenceAction ≠ r.profile.silenceAction ∨ p.silenceTimeout = 0 →
        t.drive.level = t.protectionLevel) ∧
      (r.silence = .silent → p.silenceTimeout = 0 →
        t.radio = { r with profile := p, silence := .disarmed, elapsedTimer := .stopped } ∧
          (s.drive.profile.momentum ≠ .off →
            t.events = (s.event .radioRestored 2#8 (BitVec.ofNat 16 r.elapsed)).events)) := by
  intro r t
  have silent (h : r.silence = .silent) := s.takeRadioProfile_silent p h
  obtain ⟨arms, idles, stays, disarms⟩ := s.takeRadioProfile_quiet p
  obtain ⟨radio, level, events⟩ := (s.withRadio { s.radio with profile := p, silence := .disarmed }).endSilence_leaves 2#8
  have written (u : State) : u.writeRadioReadings.radio = u.radio := u.keeps_writeRadioReadings.same .radio
  have kept (h : r.silence = .silent) (ht : 0 < p.silenceTimeout) : t.radio = { r with profile := p } := by
    rw [show t = _ from silent h, if_neg (by omega)]
    split
    · exact (State.keeps_recomputeProtection _).same .radio
    · rfl
  have ended (h : r.silence = .silent) (ht : p.silenceTimeout = 0) :
      t = ((s.withRadio { s.radio with profile := p, silence := .disarmed }).endSilence 2#8).writeRadioReadings := by
    rw [show t = _ from silent h, if_pos ht]
  refine ⟨?_, kept, fun h hc => ?_, fun h ht => ?_⟩
  · by_cases ht : p.silenceTimeout = 0
    · cases hs : s.radio.silence
      case disarmed => rw [show t = _ from idles hs (.inl ht)]; rfl
      case listening => rw [show t = _ from disarms hs ht, written]; rfl
      case silent => rw [ended hs ht, radio]; rfl
    · cases hs : s.radio.silence
      case disarmed =>
        cases hh : s.radio.heard
        · rw [show t = _ from idles hs (.inr hh)]; rfl
        · rw [show t = _ from arms hs (by omega) hh, written]; rfl
      case listening => rw [show t = _ from stays hs (by omega)]; rfl
      case silent => rw [kept hs (by omega)]
  · by_cases ht : p.silenceTimeout = 0
    · rw [ended h ht]
      exact level
    · rw [show t = _ from silent h, if_neg ht, if_pos (hc.resolve_right ht)]
      exact State.recomputeProtection_level _
  · have attends : (s.withRadio { s.radio with profile := p, silence := .disarmed }).AttendsAs s :=
      .of_frame (s.sameExcept_withRadio _)
    rw [ended h ht]
    exact ⟨radio, fun on => (events on).trans (attends.event _ _ _).2.1⟩

end

/-- Settles O51: each hand-over is followed to the verdict that is written behind it. -/
theorem handOversOfProfiles : Obligations.HandOversOfProfiles := by
  intro s body order _
  refine ⟨fun ho hq => ?_, fun ho hq => ?_, fun ho hq => ?_, fun ho hq => ?_, fun ho hq => ?_⟩
  · obtain ⟨period, correction, slots⟩ := readMeasureProfile_values ho.fine
    obtain ⟨t, ht, frame⟩ := State.HandsOver.finish (read := readMeasureProfile) (take := State.takeMeasureProfile) ho rfl
      (hq.open.of_frame (s.sameExcept_withSequencer _))
    refine ⟨t, (readMeasureProfile body).1, congrArg Host.Outcome.next ht, frame .sequencer (by decide), period, correction,
      fun k => ?_, State.sameExcept_trans (State.sameExcept_mono (s.sameExcept_withSequencer _) (by decide))
        (State.sameExcept_mono frame (by decide))⟩
    obtain ⟨slot, listed⟩ := slots k
    rw [slot]
    exact readSlotProfile_values listed
  · have keeps := s.keeps_takePowerProfile (readPowerProfile body).1 order
    intro p old
    have hp : (readPowerProfile body).1 = p := readPowerProfile_eq body
    obtain ⟨still, published⟩ := s.takePowerProfile_eq p order
    obtain ⟨power, heeds⟩ := s.takePowerProfile_leaves p order
    obtain ⟨t, ht, frame⟩ := State.HandsOver.finish (read := readPowerProfile)
      (take := fun s p => s.takePowerProfile p order) ho rfl
      (by rw [hp]; exact hq.open.of_voices heeds.part (hp ▸ keeps.same .acks) heeds.voices)
    rw [hp] at frame keeps
    refine ⟨t, congrArg Host.Outcome.next ht, (frame .power (by decide)).trans power, fun h => ?_, fun h hc => ?_,
      State.sameExcept_trans (State.sameExcept_mono keeps.frame (by decide)) (State.sameExcept_mono frame (by decide))⟩
    · rw [still h] at frame
      exact State.sameExcept_trans (State.sameExcept_mono (s.sameExcept_withPower _) (by decide))
        (State.sameExcept_mono frame (by decide))
    · rw [published h hc] at frame
      exact (State.powerPublished_publishPower _ false order).of_frame frame
  · obtain ⟨mode, code, hp⟩ := readCadenceProfile_values ho.fine
    obtain ⟨p, hp'⟩ : ∃ p, p = (readCadenceProfile body).1 := ⟨_, rfl⟩
    have keeps := s.keeps_takeCadenceProfile p
    have follows := s.follows_takeCadenceProfile p
    obtain ⟨t, ht, frame⟩ := State.HandsOver.finish (read := readCadenceProfile) (take := State.takeCadenceProfile) ho rfl
      (by rw [← hp']; exact hq.open.of_voices follows.part (keeps.same .acks) follows.voices)
    rw [← hp'] at frame hp
    refine ⟨t, mode, congrArg Host.Outcome.next ht, code, ?_⟩
    intro p' c source
    obtain ⟨settled, pe⟩ : source = settledSource p.mode s.cadence.cam ∧ p' = p := by
      refine ⟨?_, hp.symm⟩
      rw [show p.mode = mode by rw [hp]]
      cases mode
      · rfl
      · rfl
      · exact (settledSource_auto _).symm
    clear_value source p'
    subst settled
    obtain rfl := pe.symm
    obtain ⟨profile, settled, stays, leaves, synthetic⟩ := s.takeCadenceProfile_leaves p
    have cadence : t.cadence = (s.takeCadenceProfile p).cadence := frame .cadence (by decide)
    rw [cadence]
    refine ⟨profile, settled, fun h hk => ?_, leaves, synthetic,
      State.sameExcept_trans (State.sameExcept_mono keeps.frame (by decide)) (State.sameExcept_mono frame (by decide))⟩
    rw [stays h hk] at frame ⊢
    exact ⟨rfl, State.sameExcept_trans (State.sameExcept_mono (s.sameExcept_withCadence _) (by decide))
      (State.sameExcept_mono frame (by decide))⟩
  · obtain ⟨t, ht, frame⟩ := State.HandsOver.finish (read := readSoundProfile) (take := State.takeSoundProfile) ho rfl
      (hq.open.of_voices rfl rfl fun _ => rfl)
    have load : (readSoundProfile body).1 = (u8At body 0 == 1) :=
      switchField_value (v := u8At body 0) (listed_of_firstRefusal ho.fine _ (by simp [sectionFindings, readSoundProfile]))
    refine ⟨t, congrArg Host.Outcome.next ht, ?_, State.sameExcept_trans
      (State.sameExcept_mono (s.sameExcept_withSound _) (by decide)) (State.sameExcept_mono frame (by decide))⟩
    rw [← load]
    exact frame .sound (by decide)
  · obtain ⟨p, hp⟩ : ∃ p, p = (readRadioProfile body).1 := ⟨_, rfl⟩
    have fields := readRadioProfile_values ho.fine
    have keeps := s.keeps_takeRadioProfile p
    have heeds := s.heeds_takeRadioProfile p
    obtain ⟨t, ht, frame⟩ := State.HandsOver.finish (read := readRadioProfile) (take := State.takeRadioProfile) ho rfl
      (by rw [← hp]; exact hq.open.of_voices heeds.part (keeps.same .acks) heeds.voices)
    rw [← hp] at fields frame
    obtain ⟨arms, idles, stays, disarms⟩ := s.takeRadioProfile_quiet p
    obtain ⟨profile, kept, level, ended⟩ := s.takeRadioProfile_leaves p
    have radio : t.radio = (s.takeRadioProfile p).radio := frame .radio (by decide)
    have drive : t.drive = (s.takeRadioProfile p).drive := frame .drive (by decide)
    have events : t.events = (s.takeRadioProfile p).events := frame .events (by decide)
    have causes : t.protectionLevel = (s.takeRadioProfile p).protectionLevel :=
      State.protectionLevel_congr (frame .sequencer (by decide)) radio
    have written (u : State) : u.writeRadioReadings.radio = u.radio := u.keeps_writeRadioReadings.same .radio
    refine ⟨t, congrArg Host.Outcome.next ht, ?_⟩
    dsimp only
    rw [radio, profile, drive, events, causes]
    obtain ⟨f₁, f₂, f₃, f₄, f₅, f₆, f₇, f₈, f₉, f₁₀, f₁₁, f₁₂, f₁₃⟩ := fields
    refine ⟨f₁, f₂, f₃, f₄, f₅, f₆, f₇, f₈, f₉, f₁₀, f₁₁, f₁₂, f₁₃, fun h ht hh => ?_, fun h ht => ?_, fun h ht => ?_,
      fun h ht => ?_, kept, level, ended, fun h => ?_,
      State.sameExcept_trans (State.sameExcept_mono keeps.frame (by decide)) (State.sameExcept_mono frame (by decide))⟩
    · rw [arms h ht hh, written]; rfl
    · rw [idles h ht]; rfl
    · rw [stays h ht]; rfl
    · rw [disarms h ht, written]; rfl
    · exact State.sameExcept_trans (State.sameExcept_mono (s.takeRadioProfile_frame p h) (by decide))
        (State.sameExcept_mono frame (by decide))

end Sys2Proof.Machine

/-! ## The hand-overs to the smoke unit -/

namespace Sys2Proof.Machine

-- One proof at a time: proofs that wait for one another would each hold a thread.
set_option Elab.async false

/-! ### Their fields -/

theorem readSmokeProfile_eq (b : List Byte) : (readSmokeProfile b).1 =
    ⟨max 100 (min 300 (u16At b 0)), max 1 (min 64 (u8At b 2)), u8At b 3, max 1 (u8At b 4), min 80 (u8At b 5), u8At b 6,
      u8At b 7, max 10 (min 250 (u8At b 8)), u8At b 9, u8At b 10, u16At b 11⟩ := by
  simp only [readSmokeProfile, numField_min]
  rw [numField_value (v := u16At b 0) (by decide), numField_value (v := u8At b 2) (by decide), numField_max b 4 (by decide),
    numField_value (v := u8At b 8) (by decide)]

/-- The fields of a SMOKE directive that is not refused (R90). -/
theorem readSmokeDirective_values {b : List Byte} (h : firstRefusal (readSmokeDirective b).2 = none) :
    let d := (readSmokeDirective b).1
    some d.enable = SmokeEnable.ofCode (u8At b 0) ∧ d.fill = (u8At b 1 == 1) := by
  have listed := listed_of_firstRefusal h
  exact ⟨codeField_value (listed _ (by simp [readSmokeDirective])),
    switchField_value (v := u8At b 1) (listed _ (by simp [readSmokeDirective]))⟩

section
variable (s : State)

/-! ### A smoke profile (R89, R100) -/

/-- The new profile with what it clamps, the fan read again. -/
theorem State.takeSmokeProfile_smoke (p : SmokeProfile) : (s.takeSmokeProfile p).smoke = { s.smoke with
    profile := p, heater := min s.smoke.heater p.heaterMax, computed := min s.smoke.computed p.heaterMax,
    heaterPwm := min s.smoke.heaterPwm (min s.smoke.heater p.heaterMax),
    puffTimer := if s.smoke.profile.puffInterval = 0 ∧ p.puffInterval ≠ 0 ∧ s.smoke.state = .idling
      then .running (millis s.time + hundredMillis p.puffInterval) else s.smoke.puffTimer,
    budget := if p.capacity = 0 then s.smoke.budget else min s.smoke.budget (p.capacity * 256),
    fan := (s.takeSmokeProfile p).fanDuty, fanPwm := min s.smoke.fanPwm (s.takeSmokeProfile p).fanDuty } := by
  have budget : (if p.capacity ≠ 0 then min s.smoke.budget (p.capacity * 256) else s.smoke.budget) =
      if p.capacity = 0 then s.smoke.budget else min s.smoke.budget (p.capacity * 256) := ite_not ..
  rw [← budget]
  rfl

/-! ### The enabled value (R90, R91) -/

/-- The state a unit enters that may heat: HELD under a hold cause. -/
def Smoke.enters (u : Smoke) : SmokeState := if u.held then .held else .warming

/-- The timers of a unit that `old` has left. -/
structure State.SmokeEntered (s : State) (old : Smoke) (t : Smoke) : Prop where
  warming : t.state = .warming → old.state ≠ .warming →
    t.heater = 0 ∧ t.staleTimer = .running (millis s.time + 5000000) ∧ t.cooldownTimer = .stopped
  off : t.state = .off → old.state.heating = true → t.heater = 0 ∧ t.cooldownTimer =
    (if old.profile.cooldown = 0 then .stopped else .running (millis s.time + seconds old.profile.cooldown))

/-- The enabled value acts on OFF, and its loss on a heating state (R91). -/
theorem State.smokeEnableActs_eq : s.smokeEnableActs =
    if s.smoke.enabled then
      if s.smoke.state = .off then
        if s.smoke.held then s.withSmoke { s.smoke with state := .held } else s.enterWarming
      else s
    else if s.smoke.state.heating then s.enterSmokeOff else s := by
  unfold State.smokeEnableActs
  cases s.smoke.enabled <;> cases s.smoke.state <;> rfl

theorem State.smokeEnableActs_leaves : let t := s.smokeEnableActs.smoke
    (s.smoke.enabled = true → t.state = if s.smoke.state = .off then s.smoke.enters else s.smoke.state) ∧
    (s.smoke.enabled = false → t.state = if s.smoke.state.heating then .off else s.smoke.state) ∧
    t.budget = s.smoke.budget ∧ s.SmokeEntered s.smoke t := by
  have stays : s.SmokeEntered s.smoke s.smoke :=
    ⟨fun h h' => absurd h h', fun h h' => absurd (h ▸ h' : SmokeState.heating .off = true) nofun⟩
  rw [s.smokeEnableActs_eq]
  split
  · rename_i on
    rw [on]
    split
    · rename_i off
      split
      · rename_i held
        exact ⟨fun _ => by rw [Smoke.enters, if_pos held]; rfl, nofun, rfl, ⟨nofun, nofun⟩⟩
      · rename_i free
        exact ⟨fun _ => by rw [Smoke.enters, if_neg free]; rfl, nofun, rfl, ⟨fun _ _ => ⟨rfl, rfl, rfl⟩, nofun⟩⟩
    · exact ⟨fun _ => rfl, nofun, rfl, stays⟩
  · rename_i off
    rw [Bool.eq_false_iff.mpr off]
    split
    · exact ⟨nofun, fun _ => rfl, rfl, ⟨nofun, fun _ _ => ⟨rfl, s.cooldownStart_eq⟩⟩⟩
    · exact ⟨nofun, fun _ => rfl, rfl, stays⟩

/-- What working the enabled value out again leaves of the unit (R90, R91). -/
theorem State.reevaluateSmoke_leaves : let t := s.reevaluateSmoke.smoke
    (s.smoke.enabled = s.smokeWanted → t = s.smoke) ∧
    (s.smoke.enabled = false → s.smokeWanted = true →
      t.state = if s.smoke.state = .off then s.smoke.enters else s.smoke.state) ∧
    (s.smoke.enabled = true → s.smokeWanted = false →
      t.state = if s.smoke.state.heating then .off else s.smoke.state) ∧
    t.budget = s.smoke.budget ∧ s.SmokeEntered s.smoke t := by
  intro t
  by_cases same : s.smokeWanted = s.smoke.enabled
  · have ht : t = s.smoke := congrArg State.smoke (if_pos same)
    rw [ht]
    exact ⟨fun _ => rfl, fun h h' => absurd (h'.symm.trans (same.trans h)) nofun,
      fun h h' => absurd (h'.symm.trans (same.trans h)) nofun, rfl,
      ⟨fun h h' => absurd h h', fun h h' => absurd (h ▸ h' : SmokeState.heating .off = true) nofun⟩⟩
  · obtain ⟨on, off, budget, entered⟩ := (s.withSmoke { s.smoke with enabled := s.smokeWanted }).smokeEnableActs_leaves
    have ht : t = ((s.withSmoke { s.smoke with enabled := s.smokeWanted }).smokeEnableActs.smokeMoved s.smoke.state).smoke :=
      congrArg State.smoke (if_neg same)
    rw [State.smokeMoved_smoke] at ht
    rw [ht]
    exact ⟨fun h => absurd h.symm same, fun _ h => on h, fun _ h => off h, budget, ⟨entered.warming, entered.off⟩⟩

/-! ### The dry latch (R96) -/

/-- The unit out of the latch, in what its enabled value gives. -/
def State.dryReleased : State :=
  let u := s.withSmoke { s.smoke with enabled := s.smokeWanted }
  if s.smokeWanted then
    if s.smoke.held then u.withSmoke { u.smoke with state := .held } else u.enterWarming
  else u.withSmoke { u.smoke with state := .off }

theorem State.releaseDry_eq (h : s.smoke.state = .dry ∧ s.smoke.alarmDry.toList.all (fun b => !b) = true) :
    s.releaseDry = s.dryReleased.smokeMoved .dry :=
  if_pos h

theorem State.dryReleased_leaves (hs : s.smoke.state.heating = false) : let t := s.dryReleased.smoke
    t.enabled = s.smokeWanted ∧ t.directive = s.smoke.directive ∧ t.budget = s.smoke.budget ∧
      t.state = (if s.smokeWanted then s.smoke.enters else .off) ∧ s.SmokeEntered s.smoke t := by
  unfold State.dryReleased
  dsimp only
  split
  · split
    · rename_i held
      exact ⟨rfl, rfl, rfl, by rw [Smoke.enters, if_pos held]; rfl, ⟨nofun, nofun⟩⟩
    · rename_i free
      exact ⟨rfl, rfl, rfl, by rw [Smoke.enters, if_neg free]; rfl, ⟨fun _ _ => ⟨rfl, rfl, rfl⟩, nofun⟩⟩
  · exact ⟨rfl, rfl, rfl, rfl, ⟨nofun, fun _ h => absurd (hs.symm.trans h) nofun⟩⟩

/-- A fill releases the latch, where no slot contributes DRY: the unit enters what its enabled value gives. -/
theorem State.releaseDry_leaves (hs : s.smoke.state = .dry) (ha : ∀ k : SlotIx, s.smoke.alarmDry[k] = false) :
    let t := s.releaseDry.smoke
    t.enabled = s.smokeWanted ∧ t.directive = s.smoke.directive ∧ t.budget = s.smoke.budget ∧
      t.state = (if s.smokeWanted then s.smoke.enters else .off) ∧ s.SmokeEntered s.smoke t := by
  have wet : s.smoke.state = .dry ∧ s.smoke.alarmDry.toList.all (fun b => !b) = true := by
    refine ⟨hs, List.all_eq_true.mpr fun b hb => ?_⟩
    obtain ⟨k, hk, rfl⟩ := List.getElem_of_mem hb
    have := ha ⟨k, by simpa using hk⟩
    simpa using this
  obtain ⟨enabled, directive, budget, state, entered⟩ := s.dryReleased_leaves (by rw [hs]; rfl)
  rw [s.releaseDry_eq wet, State.smokeMoved_smoke]
  exact ⟨enabled, directive, budget, state, entered.warming, entered.off⟩

theorem State.releaseDry_stays (h : ¬ (s.smoke.state = .dry ∧ ∀ k : SlotIx, s.smoke.alarmDry[k] = false)) : s.releaseDry = s := by
  refine if_neg fun ⟨hs, ha⟩ => h ⟨hs, fun k => ?_⟩
  have := List.all_eq_true.mp ha s.smoke.alarmDry[k] (Vector.mem_toList_iff.mpr (Vector.getElem_mem k.isLt))
  simpa using this

/-! ### The directive (R90, R96) -/

/-- The directive taken, with its fill. -/
def State.directiveFilled (d : SmokeDirective) : State :=
  let u := s.withSmoke { s.smoke with directive := d }
  if d.fill then u.fillBudget.releaseDry else u

theorem State.takeSmokeDirective_eq (d : SmokeDirective) : s.takeSmokeDirective d = (s.directiveFilled d).reevaluateSmoke := rfl

/-- What the directive leaves of the unit. -/
theorem State.takeSmokeDirective_leaves (d : SmokeDirective) :
    let t := s.takeSmokeDirective d
    let u := s.smoke
    let wet := d.fill = true ∧ u.state = .dry ∧ ∀ k : SlotIx, u.alarmDry[k] = false
    t.smoke.directive = d ∧ t.smoke.enabled = t.smokeWanted ∧
      t.smoke.budget = (if d.fill then u.profile.capacity * 256 else u.budget) ∧
      (wet → t.smoke.state = if t.smoke.enabled then u.enters else .off) ∧
      (¬ wet → u.enabled = t.smoke.enabled → t.smoke.state = u.state) ∧
      (¬ wet → u.enabled = false → t.smoke.enabled = true → t.smoke.state = if u.state = .off then u.enters else u.state) ∧
      (¬ wet → u.enabled = true → t.smoke.enabled = false → t.smoke.state = if u.state.heating then .off else u.state) ∧
      s.SmokeEntered u t.smoke := by
  intro t u wet
  obtain ⟨enabled, directive, shown⟩ := (s.directiveFilled d).reevaluateSmoke_eq
  obtain ⟨same, on, off, budget, entered⟩ := (s.directiveFilled d).reevaluateSmoke_leaves
  have wanted : t.smokeWanted = (s.directiveFilled d).smokeWanted :=
    State.smokeWanted_congr (shown.same .functions) directive
  have dry (h : ¬ wet) : (s.directiveFilled d).smoke = { u with
      directive := d, budget := if d.fill then u.profile.capacity * 256 else u.budget } ∧ (s.directiveFilled d).time = s.time := by
    unfold State.directiveFilled
    dsimp only
    split
    · rename_i fills
      have stays := State.releaseDry_stays (s.withSmoke { s.smoke with directive := d }).fillBudget
        fun ⟨hs, ha⟩ => h ⟨fills, hs, ha⟩
      rw [stays]
      exact ⟨rfl, rfl⟩
    · exact ⟨rfl, rfl⟩
  have released (h : wet) : (s.directiveFilled d).smoke.enabled = (s.directiveFilled d).smokeWanted ∧
      (s.directiveFilled d).smoke.directive = d ∧ (s.directiveFilled d).smoke.budget = u.profile.capacity * 256 ∧
      (s.directiveFilled d).smoke.state = (if (s.directiveFilled d).smoke.enabled then u.enters else .off) ∧
      s.SmokeEntered u (s.directiveFilled d).smoke := by
    obtain ⟨fills, hs, ha⟩ := h
    have e : s.directiveFilled d = ((s.withSmoke { s.smoke with directive := d }).fillBudget).releaseDry := if_pos fills
    obtain ⟨enabled, directive, budget, state, entered⟩ :=
      ((s.withSmoke { s.smoke with directive := d }).fillBudget).releaseDry_leaves hs ha
    have functions := ((s.withSmoke { s.smoke with directive := d }).fillBudget).keeps_releaseDry.same .functions
    rw [e, enabled]
    exact ⟨(State.smokeWanted_congr functions directive).symm, directive, budget, state, entered.warming, entered.off⟩
  by_cases h : wet
  · obtain ⟨settled, directive', budget', state, entered'⟩ := released h
    have ht : t.smoke = (s.directiveFilled d).smoke := same settled
    rw [wanted, ht, if_pos h.1]
    exact ⟨directive', settled, budget', fun _ => state, fun k => absurd h k, fun k => absurd h k, fun k => absurd h k, entered'⟩
  · obtain ⟨smoke, time⟩ := dry h
    have warming := entered.warming
    have cooled := entered.off
    rw [smoke, time] at warming cooled
    rw [smoke] at same on off budget directive
    rw [wanted]
    exact ⟨directive, enabled, budget, fun k => absurd k h,
      fun _ k => (congrArg Smoke.state (same (k.trans enabled)) :),
      fun _ k k' => on k (enabled.symm.trans k'), fun _ k k' => off k (enabled.symm.trans k'), warming, cooled⟩

end

end Sys2Proof.Machine

/-! ## The hand-overs to the lamps, the sound engine and the function table -/

namespace Sys2Proof.Machine

-- One proof at a time: proofs that wait for one another would each hold a thread.
set_option Elab.async false

/-! ### Their fields -/

/-- A lamp's run, which a ONE_SHOT lamp keeps as it stands (R109, R177). -/
theorem lampRunField_value {m : LampMode} {code : Nat} (h : (lampRunField (some m) code).2 ≠ .unknownCode) :
    (m ≠ .oneShot → some (lampRunField (some m) code).1 = LampRun.ofCode code) ∧
      (m = .oneShot → (lampRunField (some m) code).1 = (LampRun.ofCode code).getD (.unlisted code)) := by
  unfold lampRunField at *
  cases hc : LampRun.ofCode code with
  | some r => exact ⟨fun _ => rfl, fun _ => rfl⟩
  | none =>
    rw [hc] at h
    by_cases hm : m = .oneShot
    · exact ⟨fun k => absurd hm k, fun _ => by simp [hm]⟩
    · simp [hm] at h

/-- The partner of an ALTERNATE lamp is another lamp (R104). -/
theorem partnerFinding_value {k : Fin 8} {partner : Nat} (h : partnerFinding k (some .alternate) partner ≠ .badPartner) :
    partner < 8 ∧ partner ≠ k.val := by
  unfold partnerFinding at h
  split at h
  · exact absurd rfl h
  · rename_i hn
    constructor
    · by_contra hp
      exact hn ⟨rfl, .inr (by omega)⟩
    · exact fun hp => hn ⟨rfl, .inl hp⟩

/-- The fields of a lamp's record that is not refused (R104). -/
theorem readLampRecord_values {b : List Byte} {k : Fin 8} {i : Nat}
    (h : ∀ f ∈ (readLampRecord k (b.drop i)).2, f ≠ .unknownCode ∧ f ≠ .badPartner) :
    let r := (readLampRecord k (b.drop i)).1
    some r.mode = LampMode.ofCode (u8At b i) ∧ r.brightness = u8At b (i + 1) ∧ some r.gate = Gate.ofCode (u8At b (i + 2)) ∧
      r.stopDim = u8At b (i + 3) ∧ r.countA = max 1 (u8At b (i + 4)) ∧ r.countB = max 1 (u8At b (i + 5)) ∧
      (r.mode ≠ .oneShot → some r.run = LampRun.ofCode (u8At b (i + 6))) ∧
      (r.mode = .oneShot → r.run = (LampRun.ofCode (u8At b (i + 6))).getD (.unlisted (u8At b (i + 6)))) ∧
      r.partner = u8At b (i + 7) ∧ (r.mode = .alternate → r.partner < 8 ∧ r.partner ≠ k.val) := by
  have mode : some (readLampRecord k (b.drop i)).1.mode = LampMode.ofCode (u8At (b.drop i) 0) :=
    codeField_value (h _ (by simp [readLampRecord])).1
  have run : (readLampRecord k (b.drop i)).1.run =
      (lampRunField (LampMode.ofCode (u8At (b.drop i) 0)) (u8At (b.drop i) 6)).1 := rfl
  have listedRun := (h (lampRunField (LampMode.ofCode (u8At (b.drop i) 0)) (u8At (b.drop i) 6)).2
    (by simp [readLampRecord])).1
  have partnered := (h (partnerFinding k (LampMode.ofCode (u8At (b.drop i) 0)) (u8At (b.drop i) 7))
    (by simp [readLampRecord])).2
  have partner : (readLampRecord k (b.drop i)).1.partner = u8At (b.drop i) 7 := rfl
  simp only [← u8At_drop, show u8At b i = u8At (b.drop i) 0 from (u8At_drop b i 0).symm]
  rw [← mode] at run listedRun partnered
  refine ⟨mode, rfl, codeField_value (h _ (by simp [readLampRecord])).1, rfl, numField_max _ 4 (by decide),
    numField_max _ 5 (by decide), fun hm => ?_, fun hm => ?_, rfl, fun hm => ?_⟩
  · rw [run]
    exact (lampRunField_value listedRun).1 hm
  · rw [run]
    exact (lampRunField_value listedRun).2 hm
  · rw [hm] at partnered
    exact partnerFinding_value partnered

theorem readFunctionMap_values {b : List Byte} (h : firstRefusal (readFunctionMap b).2 = none) (n : Fin 32) :
    (readFunctionMap b).1[n] =
      ⟨b.getD (3 * n.val) 0#8, u8At b (3 * n.val + 1) == 1, min 63 (u8At b (3 * n.val + 2))⟩ := by
  have listed := listed_of_firstRefusal h
  have smoke : (switchField (u8At b (3 * n.val + 1))).1 = (u8At b (3 * n.val + 1) == 1) := by
    refine switchField_value (listed _ ?_)
    rw [← u8At_drop]
    simp only [readFunctionMap, List.mem_flatten, List.mem_map, List.mem_range]
    exact ⟨_, ⟨n.val, n.isLt, rfl⟩, by simp [readFunctionEntry]⟩
  unfold readFunctionMap
  simp only [vecTab_get, readFunctionEntry, numField_min, u8At_drop, getD_drop, Nat.add_zero, smoke]

theorem readLampDirective_values {b : List Byte} (h : firstRefusal (readLampDirective b).2 = none) (k : Fin 8) :
    some (readLampDirective b).1[k] = Activity.ofCode (u8At b k.val) := by
  have listed := listed_of_firstRefusal h
  unfold readLampDirective
  simp only [vecTab_get]
  refine codeField_value (listed _ ?_)
  simp only [readLampDirective, List.mem_map, List.mem_range]
  exact ⟨k.val, k.isLt, rfl⟩

theorem readSoundDirective_eq {b : List Byte} (h : firstRefusal (readSoundDirective b).2 = none) :
    (readSoundDirective b).1 = ⟨u8At b 0 == 1, u8At b 1⟩ := by
  have mount : (switchField (u8At b 0)).1 = (u8At b 0 == 1) :=
    switchField_value (listed_of_firstRefusal h _ (by simp [readSoundDirective]))
  simp only [readSoundDirective, mount]

section
variable (s : State)

/-! ### The lamps (R104, R105) -/

/-- The lamps under a new profile, before their levels are formed. -/
def State.lampsRestarted (p : LampProfile) : State :=
  s.withLamps { s.lamps with
    profile := p
    lamps := vecTab 8 fun k =>
      if s.lamps.profile[k].restarts p[k] then s.lamps.lamps[k].restart else s.lamps.lamps[k] }

theorem State.takeLampProfile_eq (p : LampProfile) : s.takeLampProfile p = (s.lampsRestarted p).formLamps := rfl

/-- A counter stands where its record keeps mode, run and counts. -/
theorem LampRecord.restarts_iff (old new : LampRecord) : old.restarts new = false ↔
    new.mode = old.mode ∧ new.run = old.run ∧ new.countA = old.countA ∧ new.countB = old.countB := by
  simp only [LampRecord.restarts, Bool.or_eq_false_iff, bne_eq_false_iff_eq, and_assoc]
  constructor <;> exact fun ⟨mode, run, a, b⟩ => ⟨mode.symm, run.symm, a.symm, b.symm⟩

/-- What a new lamp profile leaves of a lamp. -/
theorem State.takeLampProfile_leaves (p : LampProfile) (k : Fin 8) :
    let t := s.takeLampProfile p
    let x := s.lamps.lamps[k]
    let y := t.lamps.lamps[k]
    let old := s.lamps.profile[k]
    let kept := p[k].mode = old.mode ∧ p[k].run = old.run ∧ p[k].countA = old.countA ∧ p[k].countB = old.countB
    (kept → y.phase = x.phase ∧ y.count = x.count) ∧ (¬ kept → y.phase = .a ∧ y.count = 0) ∧
      y.active = x.active ∧ y.level = t.lamps.levelOf k ∧ y.duty = t.lampDuty y.level ∧ y.pwm = min x.pwm y.duty := by
  intro t x y old kept
  have restarts := LampRecord.restarts_iff old p[k]
  have lamp : (s.lampsRestarted p).lamps.lamps[k] = if old.restarts p[k] then x.restart else x := vecTab_get _ _ k
  have counters := (s.lampsRestarted p).formLamps_counters
  have level : t.lamps.levelOf k = (s.lampsRestarted p).lamps.levelOf k := counters.levelOf k
  have part : t.part = s.part := ((s.lampsRestarted p).sameExcept_formLamps .part (by decide)).trans rfl
  have duty (n : Nat) : t.lampDuty n = (s.lampsRestarted p).lampDuty n := by
    obtain ⟨-, -, -, -, factor, -⟩ := counters
    have factor' : t.lamps.factor = (s.lampsRestarted p).lamps.factor := factor
    unfold State.lampDuty
    rw [part, factor']
    rfl
  have hy : y = (s.lampsRestarted p).lampFormed k := (s.lampsRestarted p).formLamps_get k
  have level' : y.level = (s.lampsRestarted p).lamps.levelOf k := by rw [hy]; rfl
  rw [duty, level, level', hy]
  unfold State.lampFormed
  dsimp only
  rw [lamp]
  cases hr : old.restarts p[k]
  · rw [if_neg nofun]
    exact ⟨fun _ => ⟨rfl, rfl⟩, fun h => absurd (restarts.mp hr) h, rfl, rfl, rfl, rfl⟩
  · rw [if_pos rfl]
    exact ⟨fun h => absurd (hr.symm.trans (restarts.mpr h)) nofun, fun _ => ⟨rfl, rfl⟩, rfl, rfl, rfl, rfl⟩

/-- Activity worked out anew, with the smoke unit's enabled value behind it: what a change of the function table's map
brings (R153). -/
theorem State.takeFunctionMap_leaves (m : FunctionMap) :
    let t := s.takeFunctionMap m
    let u := s.withFunctions { s.functions with map := m }
    t.functions = u.functions ∧ u.Activated t ∧ t.lampWanted = u.lampWanted ∧ t.smoke.enabled = t.smokeWanted ∧
      s.SameExcept t [.functions, .lamps, .smoke, .store] := by
  intro t u
  obtain ⟨activated, -, directive, shown⟩ := u.workOutActivity_eq
  obtain ⟨enabled, directive', shown'⟩ := u.workOutActivity.reevaluateSmoke_eq
  have lamps : t.lamps = u.workOutActivity.lamps := shown'.same .lamps
  have functions : t.functions = u.functions := (shown'.same .functions).trans (shown.same .functions)
  refine ⟨functions, ?_, State.lampWanted_congr functions (by rw [lamps, directive]), ?_, ?_⟩
  · unfold State.Activated
    rw [lamps]
    exact activated
  · have wanted : t.smokeWanted = u.workOutActivity.smokeWanted := State.smokeWanted_congr (shown'.same .functions) directive'
    rw [wanted]
    exact enabled
  · exact State.sameExcept_trans (State.sameExcept_mono (s.sameExcept_withFunctions _) (by decide))
      (State.sameExcept_trans (State.sameExcept_mono shown.1 (by decide)) (State.sameExcept_mono shown'.1 (by decide)))

/-! ### The sound engine (R116, R118) -/

theorem State.changeBank_sound (e : Sound) : (s.changeBank e).sound = e := (State.keeps_writeSoundReadings _).same .sound

/-- Voices freed leave the start order empty. -/
theorem State.freeVoices_sound : s.freeVoices.sound.order = [] ∧ (∀ v : Fin 6, s.freeVoices.sound.voices[v].state = .free) ∧
    s.freeVoices.sound.volume = s.sound.volume := by
  have free (v : Fin 6) : (vecMap (fun v : Voice => { v with state := .free }) s.sound.voices)[v].state = .free := by
    rw [vecMap_get]
  have order : (s.sound.order.filter fun v => (vecMap (fun v : Voice => { v with state := .free }) s.sound.voices)[v].busy) =
      [] := by
    refine List.filter_eq_nil_iff.mpr fun v _ => ?_
    rw [Voice.busy, free v]
    decide
  unfold State.freeVoices State.settleVoices
  dsimp only [State.withSound_sound]
  split
  · exact ⟨order, free, rfl⟩
  · exact ⟨order, free, rfl⟩

/-- The SOUND directive by the bank's state and the mount field. -/
theorem State.takeSoundDirective_leaves (d : SoundDirective) :
    let e := s.sound
    let t := s.takeSoundDirective d
    (d.mount = true → s.part ≠ .run → e.bank = .absent → t.sound = { e with directive := d, volume := d.volume }) ∧
    (d.mount = true → s.part ≠ .run → e.bank = .faulty → t.sound = { e with
      directive := d, volume := d.volume, bank := .absent, fault := .none, progress := 0, header := none, cues := [],
      clips := [] }) ∧
    (d.mount = true → s.part = .run → e.bank = .absent ∨ e.bank = .faulty → t.sound = { e with
      directive := d, volume := d.volume, bank := .mounting, fault := .none, progress := 0, header := none, cues := [],
      clips := [] }) ∧
    (d.mount = true → e.bank = .mounting ∨ e.bank = .ready → t.sound = { e with directive := d, volume := d.volume }) ∧
    (d.mount = false → e.bank = .absent → t.sound = { e with directive := d, volume := d.volume }) ∧
    (d.mount = false → e.bank = .mounting → t.sound = { e with
      directive := d, volume := d.volume, bank := .absent, progress := 0, header := none, cues := [], clips := [] }) ∧
    (d.mount = false → e.bank = .ready → t.sound.bank = .absent ∧ t.sound.cues = [] ∧ t.sound.clips = [] ∧
      t.sound.order = [] ∧ t.sound.volume = d.volume ∧ ∀ v : Fin 6, t.sound.voices[v].state = .free) ∧
    (d.mount = false → e.bank = .faulty → t.sound = { e with
      directive := d, volume := d.volume, bank := .absent, fault := .none, header := none }) := by
  intro e t
  obtain ⟨x, hx⟩ : ∃ x, x = s.withSound { s.sound with directive := d } := ⟨_, rfl⟩
  have sound : x.sound = { e with directive := d } := by rw [hx]; rfl
  have part : x.part = s.part := by rw [hx]; rfl
  have ht : t.sound = { (x.applyMount d.mount).sound with volume := d.volume } := by rw [hx]; rfl
  have bank : x.sound.bank = e.bank := by rw [sound]
  have begun : x.beginMount.sound = _ := x.changeBank_sound _
  unfold State.applyMount at ht
  rw [bank, part] at ht
  refine ⟨fun hm hp hb => ?_, fun hm hp hb => ?_, fun hm hp hb => ?_, fun hm hb => ?_, fun hm hb => ?_, fun hm hb => ?_,
    fun hm hb => ?_, fun hm hb => ?_⟩
  · rw [hb, hm] at ht
    rw [ht]
    dsimp only
    rw [if_neg hp, sound]
  · rw [hb, hm] at ht
    rw [ht]
    dsimp only
    rw [if_neg hp, State.changeBank_sound, sound]
  · rcases hb with hb | hb <;>
    · rw [hb, hm] at ht
      rw [ht]
      dsimp only
      rw [if_pos hp, begun, sound]
  · rcases hb with hb | hb <;>
    · rw [hb, hm] at ht
      rw [ht]
      dsimp only
      rw [sound]
  · rw [hb, hm] at ht
    rw [ht]
    dsimp only
    rw [sound]
  · rw [hb, hm] at ht
    rw [ht]
    dsimp only [State.abandonMount]
    rw [State.changeBank_sound, sound]
  · obtain ⟨order, voices, -⟩ := x.freeVoices_sound
    rw [hb, hm] at ht
    rw [ht]
    dsimp only [State.unmountReady]
    rw [State.changeBank_sound]
    exact ⟨rfl, rfl, rfl, order, rfl, voices⟩
  · rw [hb, hm] at ht
    rw [ht]
    dsimp only
    rw [State.changeBank_sound, sound]

end

/-! ### The function directive (R152, R153) -/

/-- The edges do the same where the engine plays the same and the function table stands. -/
theorem State.PlaysAs.functionEdges {s t : State} (h : t.PlaysAs s) (hm : t.functions.map = s.functions.map)
    (hf : t.functions.flags = s.functions.flags) (write : Fin 32 → Option Bool) :
    (t.functionEdges write).PlaysAs (s.functionEdges write) := by
  unfold State.functionEdges
  rw [hm, hf]
  refine List.foldl_rel (r := fun u v : State => u.PlaysAs v) h fun n _ u v huv => ?_
  cases write n with
  | none => exact huv
  | some on =>
    dsimp only
    split
    · exact huv
    · exact huv.functionEdge _ _

end Sys2Proof.Machine

/-! ## The hand-overs to the effects and the function table, settled -/

namespace Sys2Proof.Machine

-- One proof at a time: proofs that wait for one another would each hold a thread.
set_option Elab.async false

section
variable (s : State)

/-- Activity worked out anew, read by the lamps wanted in the state that it leaves. -/
theorem State.Activated.edges {u t : State} (h : u.Activated t) (hl : u.lamps.lamps = s.lamps.lamps)
    (hw : t.lampWanted = u.lampWanted) (k : Fin 8) :
    t.lamps.lamps[k].active = t.lampWanted k ∧
      (t.lampWanted k = true → s.lamps.lamps[k].active = false →
        t.lamps.lamps[k].phase = .a ∧ t.lamps.lamps[k].count = 0) ∧
      (t.lampWanted k = false ∨ s.lamps.lamps[k].active = true →
        t.lamps.lamps[k].phase = s.lamps.lamps[k].phase ∧ t.lamps.lamps[k].count = s.lamps.lamps[k].count) := by
  rw [hw, ← hl]
  exact h k

/-! ### The function directive (R152, R153) -/

/-- The flags a directive writes. -/
def FunctionDirective.write (d : FunctionDirective) (n : Fin 32) : Option Bool :=
  if d.mask.getLsbD n.val then some (d.states.getLsbD n.val) else none

theorem readFunctionDirective_write (b : List Byte) (n : Fin 32) : (readFunctionDirective b).1.write n =
    if (u32At b 0).testBit n.val then some ((u32At b 4).testBit n.val) else none := by
  have bit (x : Nat) : (BitVec.ofNat 32 x).getLsbD n.val = x.testBit n.val := by
    rw [BitVec.getLsbD_ofNat, decide_eq_true n.isLt, Bool.true_and]
  unfold FunctionDirective.write readFunctionDirective
  dsimp only
  rw [bit, bit]

/-- What a function directive leaves. -/
theorem State.takeFunctionDirective_leaves (d : FunctionDirective) :
    let t := s.takeFunctionDirective d
    let moved := ∃ n, s.Changes d.write n
    (∀ n : Fin 32, t.functions.flags[n] = match d.write n with
      | some on => ⟨on, .host⟩
      | none => s.functions.flags[n]) ∧
    t.functions.map = s.functions.map ∧
    (moved → (∃ u : State, u.Activated t ∧ u.lamps.lamps = s.lamps.lamps ∧ t.lampWanted = u.lampWanted) ∧
      t.smoke.enabled = t.smokeWanted ∧ t.PlaysAs (s.functionEdges d.write)) ∧
    (¬ moved → s.SameExcept t [.functions]) := by
  intro t moved
  obtain ⟨x, hx⟩ : ∃ x, x = s.withFunctions { s.functions with directive := d } := ⟨_, rfl⟩
  have set : s.SameExcept x [.functions] := by rw [hx]; exact s.sameExcept_withFunctions _
  have flags : x.functions.flags = s.functions.flags := by rw [hx]; rfl
  have map : x.functions.map = s.functions.map := by rw [hx]; rfl
  have ht : t = x.writeFunctions d.write .host := by rw [hx]; rfl
  obtain ⟨functions, changed⟩ := x.writeFunctions_eq d.write .host
  have changes (n : Fin 32) : x.Changes d.write n ↔ s.Changes d.write n := by rw [State.Changes, State.Changes, flags]
  have mapped : (x.flagged d.write .host).functions.map = s.functions.map := map
  rw [ht]
  refine ⟨fun n => ?_, by rw [functions, mapped], fun h => ?_, fun h => ?_⟩
  · have got := x.flagged_get d.write .host n
    rw [flags] at got
    rw [functions]
    refine got.trans ?_
    cases d.write n <;> rfl
  · have h' : ∃ n, x.Changes d.write n := h.imp fun n => (changes n).mpr
    obtain ⟨activated, wanted, enabled⟩ := changed h'
    refine ⟨⟨_, activated, ?_, wanted⟩, enabled,
      ((State.PlaysAs.of_shows (.of_frame set)).functionEdges map flags d.write).trans (x.writeFunctions_plays _ _ h')⟩
    exact congrArg Lamps.lamps (set .lamps (by decide))
  · rw [x.writeFunctions_unchanged d.write .host fun n hn => h ⟨n, (changes n).mp hn⟩]
    exact State.sameExcept_trans set (x.sameExcept_withFunctions _)

end

/-- Settles O52: each hand-over is followed to the verdict that is written behind it. -/
theorem handOversToEffectsAndFunctions : Obligations.HandOversToEffectsAndFunctions := by
  intro s body puff edges
  have composed {h t : State} {l m : List Component} (f : s.SameExcept h l)
      (g : h.SameExcept t [.store, .adoption, .attention, .acks])
      (hl : l ⊆ m := by decide) (hm : [Component.store, .adoption, .attention, .acks] ⊆ m := by decide) : s.SameExcept t m :=
    State.sameExcept_trans (State.sameExcept_mono f hl) (State.sameExcept_mono g hm)
  have wanted {h t : State} (g : h.SameExcept t [.store, .adoption, .attention, .acks]) :
      t.lampWanted = h.lampWanted ∧ t.smokeWanted = h.smokeWanted := by
    have functions : t.functions = h.functions := g .functions (by decide)
    have lamps : t.lamps = h.lamps := g .lamps (by decide)
    have smoke : t.smoke = h.smoke := g .smoke (by decide)
    exact ⟨State.lampWanted_congr functions (by rw [lamps]), State.smokeWanted_congr functions (by rw [smoke])⟩
  have settles {u h t : State} (act : u.Activated h) (hl : u.lamps.lamps = s.lamps.lamps) (hw : h.lampWanted = u.lampWanted)
      (g : h.SameExcept t [.store, .adoption, .attention, .acks]) : edges t := by
    have lamps : t.lamps = h.lamps := g .lamps (by decide)
    intro k
    rw [lamps, (wanted g).1]
    exact act.edges s hl hw k
  refine ⟨fun ho hq => ?_, fun ho hq => ?_, fun ho hq => ?_, fun ho hq => ?_, fun ho hq => ?_, fun ho hq => ?_, fun ho hq => ?_⟩
  · have keeps := s.keeps_takeSmokeProfile (readSmokeProfile body).1
    obtain ⟨t, ht, frame⟩ := State.HandsOver.finish (read := readSmokeProfile) (take := State.takeSmokeProfile) ho rfl
      (hq.open.of_frame keeps.frame)
    have smoke : t.smoke = (s.takeSmokeProfile (readSmokeProfile body).1).smoke := frame .smoke (by decide)
    have fan : t.fanDuty = (s.takeSmokeProfile (readSmokeProfile body).1).fanDuty :=
      State.fanDuty_congr (frame .part (by decide)) smoke
    refine ⟨t, congrArg Host.Outcome.next ht, ?_, composed keeps.frame frame⟩
    rw [smoke, fan, s.takeSmokeProfile_smoke, readSmokeProfile_eq]
  · have keeps := s.keeps_takeLampProfile (readLampProfile body).1
    have leaves := s.takeLampProfile_leaves (readLampProfile body).1
    have profile : (s.takeLampProfile (readLampProfile body).1).lamps.profile = (readLampProfile body).1 ∧
        (s.takeLampProfile (readLampProfile body).1).lamps.factor = s.lamps.factor ∧
        (s.takeLampProfile (readLampProfile body).1).lamps.lfsr = s.lamps.lfsr := by
      obtain ⟨profile, lfsr, -, -, factor, -⟩ := (s.lampsRestarted (readLampProfile body).1).formLamps_counters
      exact ⟨profile, factor, lfsr⟩
    obtain ⟨t, ht, frame⟩ := State.HandsOver.finish (read := readLampProfile) (take := State.takeLampProfile) ho rfl
      (hq.open.of_frame keeps.frame)
    have part : t.part = (s.takeLampProfile (readLampProfile body).1).part := frame .part (by decide)
    have lamps : t.lamps = (s.takeLampProfile (readLampProfile body).1).lamps := frame .lamps (by decide)
    have duty (n : Nat) : t.lampDuty n = (s.takeLampProfile (readLampProfile body).1).lampDuty n := by
      unfold State.lampDuty
      rw [part, lamps]
    have record (k : Fin 8) : (readLampProfile body).1[k] = (readLampRecord k (body.drop (8 * k.val))).1 := vecTab_get _ _ k
    refine ⟨t, congrArg Host.Outcome.next ht, fun k => ?_, by rw [lamps, profile.2.1], by rw [lamps, profile.2.2],
      composed keeps.frame frame⟩
    have values := readLampRecord_values (b := body) (k := k) (i := 8 * k.val) fun f hf =>
      (firstRefusal_eq_none _).mp ho.fine f (List.mem_flatten.mpr ⟨_, List.mem_map.mpr ⟨k, List.mem_finRange k, rfl⟩, hf⟩)
    dsimp only at leaves values ⊢
    simp only [lamps, profile.1, duty]
    rw [← record] at values
    obtain ⟨v₁, v₂, v₃, v₄, v₅, v₆, v₇, v₈, v₉, v₁₀⟩ := values
    exact ⟨v₁, v₂, v₃, v₄, v₅, v₆, v₇, v₈, v₉, v₁₀, leaves k⟩
  · obtain ⟨functions, activated, lampWanted, enabled, shown⟩ := s.takeFunctionMap_leaves (readFunctionMap body).1
    obtain ⟨t, ht, frame⟩ := State.HandsOver.finish (read := readFunctionMap) (take := State.takeFunctionMap) ho rfl
      (hq.open.of_frame shown)
    have smoke : t.smoke = (s.takeFunctionMap (readFunctionMap body).1).smoke := frame .smoke (by decide)
    have functions' : t.functions = _ := (frame .functions (by decide)).trans functions
    refine ⟨t, congrArg Host.Outcome.next ht, fun n => ?_, by rw [functions']; rfl, settles activated rfl lampWanted frame,
      by rw [smoke, (wanted frame).2]; exact enabled, composed shown frame⟩
    rw [functions']
    exact readFunctionMap_values ho.fine n
  · have keeps := s.keeps_takeSmokeDirective (readSmokeDirective body).1
    obtain ⟨enable, fill⟩ := readSmokeDirective_values ho.fine
    have leaves := s.takeSmokeDirective_leaves (readSmokeDirective body).1
    obtain ⟨t, ht, frame⟩ := State.HandsOver.finish (read := readSmokeDirective) (take := State.takeSmokeDirective) ho rfl
      (hq.open.of_frame keeps.frame)
    have smoke : t.smoke = (s.takeSmokeDirective (readSmokeDirective body).1).smoke := frame .smoke (by decide)
    obtain ⟨directive, enabled, budget, wet, same, on, off, entered⟩ := leaves
    rw [fill] at wet same on off budget
    rw [← smoke] at directive enabled budget wet same on off entered
    refine ⟨t, congrArg Host.Outcome.next ht, ?_⟩
    intro u fills dried enters
    have fills' : (u8At body 1 == 1) = true ↔ fills := beq_iff_eq
    refine ⟨by rw [directive, enable], by rw [enabled, (wanted frame).2], ?_, ?_, ?_, ?_, ?_, entered.warming, entered.off,
      composed keeps.frame frame⟩
    · rw [budget]
      simp only [beq_iff_eq]
      rfl
    · exact fun h => wet ⟨fills'.mpr h.1, h.2⟩
    · exact fun h => same fun h' => h ⟨fills'.mp h'.1, h'.2⟩
    · exact fun h => on fun h' => h ⟨fills'.mp h'.1, h'.2⟩
    · exact fun h => off fun h' => h ⟨fills'.mp h'.1, h'.2⟩
  · have keeps := s.keeps_takeLampDirective (readLampDirective body).1
    obtain ⟨activated, profile, directive, -⟩ :=
      (s.withLamps { s.lamps with directive := (readLampDirective body).1 }).workOutActivity_eq
    obtain ⟨t, ht, frame⟩ := State.HandsOver.finish (read := readLampDirective) (take := State.takeLampDirective) ho rfl
      (hq.open.of_frame keeps.frame)
    have lamps : t.lamps = (s.takeLampDirective (readLampDirective body).1).lamps := frame .lamps (by decide)
    have wanted' : (s.takeLampDirective (readLampDirective body).1).lampWanted =
        (s.withLamps { s.lamps with directive := (readLampDirective body).1 }).lampWanted :=
      State.lampWanted_congr (keeps.same .functions) directive
    refine ⟨t, congrArg Host.Outcome.next ht, fun k => ?_, settles activated rfl wanted' frame, by rw [lamps]; exact profile,
      composed keeps.frame frame⟩
    rw [lamps, show (s.takeLampDirective (readLampDirective body).1).lamps.directive = _ from directive]
    exact readLampDirective_values ho.fine k
  · have keeps := s.keeps_takeSoundDirective (readSoundDirective body).1
    have read := readSoundDirective_eq ho.fine
    have leaves := s.takeSoundDirective_leaves (readSoundDirective body).1
    obtain ⟨t, ht, frame⟩ := State.HandsOver.finish (read := readSoundDirective) (take := State.takeSoundDirective) ho rfl
      (.of_acks (hq.sequencer (.inl rfl)) (keeps.same .part) (keeps.same .acks))
    have sound : t.sound = (s.takeSoundDirective (readSoundDirective body).1).sound := frame .sound (by decide)
    refine ⟨t, congrArg Host.Outcome.next ht, ?_⟩
    dsimp only at leaves ⊢
    rw [← sound, read] at leaves
    obtain ⟨l₁, l₂, l₃, l₄, l₅, l₆, l₇, l₈⟩ := leaves
    exact ⟨l₁, l₂, l₃, l₄, l₅, l₆, l₇, l₈, composed keeps.frame frame⟩
  · obtain ⟨d, hd⟩ : ∃ d, d = (readFunctionDirective body).1 := ⟨_, rfl⟩
    have write : d.write = fun n => if (u32At body 0).testBit n.val then some ((u32At body 4).testBit n.val) else none := by
      rw [hd]
      exact funext (readFunctionDirective_write body)
    have keeps := s.keeps_takeFunctionDirective d
    obtain ⟨flags, map, changed, same⟩ := s.takeFunctionDirective_leaves d
    obtain ⟨t, ht, frame⟩ := State.HandsOver.finish (read := readFunctionDirective) (take := State.takeFunctionDirective) ho rfl
      (by rw [← hd]; exact .of_acks (hq.sequencer (.inr rfl)) (keeps.same .part) (keeps.same .acks))
    rw [← hd] at frame
    have functions : t.functions = (s.takeFunctionDirective d).functions := frame .functions (by decide)
    have moves (n : Fin 32) : s.Changes d.write n ↔
        (u32At body 0).testBit n.val = true ∧ (u32At body 4).testBit n.val ≠ s.functions.flags[n].on := by
      rw [State.Changes, write]
      dsimp only
      cases (u32At body 0).testBit n.val <;> cases (u32At body 4).testBit n.val <;> cases s.functions.flags[n].on <;> simp
    refine ⟨t, congrArg Host.Outcome.next ht, ?_⟩
    intro mask states moved
    have moved' : moved ↔ ∃ n, s.Changes d.write n := exists_congr fun n => (moves n).symm
    refine ⟨fun n => ?_, by rw [functions, map], fun h => ?_, fun h => ?_, composed keeps.frame frame⟩
    · rw [functions, flags, write]
      dsimp only
      by_cases hm : (u32At body 0).testBit n.val = true
      · rw [if_pos hm, if_pos hm]
      · rw [if_neg hm, if_neg hm]
    · obtain ⟨⟨u, activated, lamps, wanted'⟩, enabled, sound, -, events, seq, -⟩ := changed (moved'.mp h)
      have smoke : t.smoke = (s.takeFunctionDirective d).smoke := frame .smoke (by decide)
      refine ⟨settles activated lamps wanted' frame, by rw [smoke, (wanted frame).2]; exact enabled, ?_⟩
      rw [write] at sound events seq
      exact ⟨(frame .sound (by decide)).trans sound, (frame .events (by decide)).trans events,
        (frame .eventSeq (by decide)).trans seq⟩
    · exact composed (same fun h' => h (moved'.mpr h')) frame

end Sys2Proof.Machine

/-! ## What the hand-overs and the conversions leave: the section bytes, VERDICT, and a block that has come to rest -/

namespace Sys2Proof.Machine

-- One proof at a time: proofs that wait for one another would each hold a thread.
set_option Elab.async false

section
variable (s : State)

/-! ### The power supervisor -/

theorem State.shows_smokePower : s.Shows s.smokePower Component.ofSmoke := s.shows_setHolds _ _

theorem Receiver.winds_takes (b : Bool) (g : Receiver) : s.Winds (g.takes b s) := by
  cases g
  · exact s.winds_drivePower b
  · exact .of_shows s.shows_smokePower
  · exact .of_keeps s.keeps_lampPower
  · exact .of_sound (.of_keeps s.keeps_soundPower) fun _ => id

theorem State.winds_publishPower (b : Bool) (order : Nat) : s.Winds (s.publishPower b order) :=
  s.publishPower_stays (P := s.Winds) b order (fun g u hu => hu.trans (Receiver.winds_takes u b g)) (.refl s)

theorem State.winds_announcePower (kind : EventKind) (subject : Byte) (detail : Nat) (b : Bool) (order : Nat) :
    s.Winds (s.announcePower kind subject detail b order) := by
  have written (u : State) : u.Winds u.writePowerReadings := .of_shows (u.shows_writeGroup _ _ _)
  exact ((((State.Winds.refl s).event kind subject (BitVec.ofNat 16 detail)).raise .power).trans (written _)).trans
    (State.winds_publishPower _ _ _)

theorem State.winds_powerContributions (order : Nat) : s.Winds (s.powerContributions order) := by
  obtain ⟨supplied, bridging, spent⟩ := s.powerContributions_cases order
  have set (p : Power) : s.Winds (s.withPower p) := .of_keeps (s.keeps_withPower p)
  have announced (p : Power) (kind : EventKind) (subject : Byte) (detail : Nat) (b : Bool) :
      s.Winds ((s.withPower p).announcePower kind subject detail b order) :=
    (set p).trans (State.winds_announcePower _ _ _ _ _ _)
  cases hs : s.power.state
  case supplied =>
    rw [supplied hs, s.leaveSupplied_eq]
    exact .ite (fun _ => .ite (fun _ => announced _ _ _ _ _) fun _ => announced _ _ _ _ _) fun _ => set _
  case bridging =>
    rw [bridging hs, s.returnSupplied_eq]
    exact .ite (fun _ => announced _ _ _ _ _) fun _ => .ite (fun _ => announced _ _ _ _ _) fun _ => set _
  case spent =>
    rw [spent hs, s.returnSupplied_eq]
    exact .ite (fun _ => announced _ _ _ _ _) fun _ => set _

theorem State.winds_takePowerProfile (p : PowerProfile) (order : Nat) : s.Winds (s.takePowerProfile p order) := by
  have set : s.Winds (s.withPower { s.power with profile := p }) := .of_keeps (s.keeps_withPower _)
  exact .ite (fun _ => set.trans (State.winds_publishPower _ _ _)) fun _ => set

/-! ### The smoke unit -/

theorem State.winds_enterDry (subject : Byte) (detail : Half) : s.Winds (s.enterDry subject detail) := by
  refine .ite (fun _ => .refl s) fun _ => ?_
  have moved (u : Smoke) : s.Winds ((s.withSmoke u).smokeMoved s.smoke.state) :=
    State.Winds.trans (t := s.withSmoke u) (.of_shows (.of_frame (s.sameExcept_withSmoke u))) (.of_shows (State.shows_smokeMoved _ _))
  exact (moved _).event .smokeDry _ _

theorem State.winds_smokeContributions (holds drys : Vector Bool 12) : s.Winds (s.smokeContributions holds drys) := by
  have recorded : s.Winds (s.withSmoke { s.smoke with alarmDry := drys }) := .of_shows (.of_frame (s.sameExcept_withSmoke _))
  exact (recorded.trans (.foldl (fun u k => u.winds_enterDry _ _) _ _)).trans (.of_shows (State.shows_setHolds _ _ _))

theorem State.winds_heatValue (value : Nat) : s.Winds (s.heatValue value) := by
  have set (u : State) (x : Smoke) : u.Winds (u.withSmoke x) := .of_shows (.of_frame (u.sameExcept_withSmoke x))
  unfold State.heatValue
  dsimp only
  exact (set s _).trans (.ite (fun _ => (set _ _).trans (.of_shows (State.shows_smokeMoved _ _))) fun _ => .refl _)

theorem State.shows_releaseDry : s.Shows s.releaseDry Component.ofSmoke := by
  have released : s.Shows s.dryReleased [.smoke] := by
    have set (u : State) (x : Smoke) : u.Shows (u.withSmoke x) [.smoke] := .of_frame (u.sameExcept_withSmoke x)
    refine .ite (fun _ => .ite (fun _ => ?_) fun _ => ?_) fun _ => ?_
    · exact (set _ _).trans (set _ _)
    · exact (set _ _).trans (State.shows_enterWarming _)
    · exact (set _ _).trans (set _ _)
  by_cases h : s.smoke.state = .dry ∧ s.smoke.alarmDry.toList.all (fun b => !b) = true
  · rw [s.releaseDry_eq h]
    exact released.mono.trans (State.shows_smokeMoved _ _)
  · rw [show s.releaseDry = s from if_neg h]
    exact .refl _ _

theorem State.winds_takeSmokeDirective (d : SmokeDirective) : s.Winds (s.takeSmokeDirective d) := by
  have set (u : State) (x : Smoke) : u.Winds (u.withSmoke x) := .of_shows (.of_frame (u.sameExcept_withSmoke x))
  obtain ⟨-, -, shown⟩ := (s.directiveFilled d).reevaluateSmoke_eq
  refine State.Winds.trans (t := s.directiveFilled d) ?_ (.of_shows shown)
  exact (set s _).trans (.ite (fun _ => (set _ _).trans (.of_shows (State.shows_releaseDry _))) fun _ => .refl _)

/-! ### The sound engine -/

theorem State.winds_changeBank (e : Sound) (h : s.part = .quiescing → s.sound.anyBusy = false → e.anyBusy = false) :
    s.Winds (s.changeBank e) :=
  .of_sound (l := [.sound, .store])
    ((State.Shows.of_frame (s.sameExcept_withSound e)).mono.trans (State.shows_writeGroup _ _ _ _).mono)
    fun hp hb => by rw [s.changeBank_sound]; exact h hp hb

/-- Voices freed are none of them busy. -/
theorem State.winds_freeVoices : s.Winds s.freeVoices := by
  refine .of_sound (s.shows_settleVoices _) fun _ _ => ?_
  obtain ⟨-, free, -⟩ := s.freeVoices_sound
  rw [Bool.eq_false_iff, ne_eq, Sound.anyBusy_iff]
  rintro ⟨v, hv⟩
  rw [Voice.busy, free v] at hv
  cases hv

theorem State.winds_takeSoundDirective (d : SoundDirective) : s.Winds (s.takeSoundDirective d) := by
  have set (u : State) (e : Sound) (h : e.voices = u.sound.voices) : u.Winds (u.withSound e) :=
    .of_sound (.of_frame (u.sameExcept_withSound e)) fun _ hb => by
      unfold Sound.anyBusy at hb ⊢
      rwa [show (u.withSound e).sound.voices = u.sound.voices from h]
  have banked (u : State) (e : Sound) (h : e.voices = u.sound.voices) : u.Winds (u.changeBank e) :=
    u.winds_changeBank e fun _ hb => by
      unfold Sound.anyBusy at hb ⊢
      rwa [h]
  have mounted (u : State) (b : Bool) : u.Winds (u.applyMount b) := by
    unfold State.applyMount
    split
    · exact .ite (fun _ => banked u _ rfl) fun _ => .refl u
    · exact .refl u
    · exact .refl u
    · exact banked u _ rfl
    · exact .refl u
    · exact u.winds_freeVoices.trans (banked _ _ rfl)
    · exact .ite (fun _ => banked u _ rfl) fun _ => banked u _ rfl
    · exact banked u _ rfl
  have directed : s.Winds (s.withSound { s.sound with directive := d }) := set s _ rfl
  exact (directed.trans (mounted _ d.mount)).trans (set _ { ((s.withSound { s.sound with directive := d }).applyMount d.mount).sound
    with volume := d.volume } rfl)

/-- A STOP makes no voice busy. -/
theorem State.winds_stopCue (n : Nat) : s.Winds (s.stopCue n).1 := by
  have set (e : Sound) (h : e.voices = s.sound.voices) : s.Winds (s.withSound e) :=
    .of_sound (.of_frame (s.sameExcept_withSound e)) fun _ hb => by
      unfold Sound.anyBusy at hb ⊢
      rwa [show (s.withSound e).sound.voices = s.sound.voices from h]
  rcases s.stopCue_cases n with ⟨-, e⟩ | ⟨-, -, e⟩ | ⟨-, -, -, e⟩ | ⟨r, -, -, -, ⟨-, e⟩ | ⟨v, hold, e⟩⟩ <;> rw [e]
  · exact .refl s
  · exact set _ rfl
  · exact set _ rfl
  · exact .refl s
  · refine .of_sound (s.shows_settleVoices _) fun _ hb => ?_
    have busy : s.sound.anyBusy = true := (s.sound.anyBusy_iff).mpr ⟨v, (Sound.holder_some hold).1⟩
    exact absurd (hb.symm.trans busy) nofun

/-! ### The function table -/

theorem State.winds_soundEdge (n : Fin 32) (on : Bool) : s.Winds (s.soundEdge n on) := by
  rw [s.soundEdge_eq]
  unfold State.functionEdge
  exact .ite (fun _ => .ite (fun _ => .refl s) fun _ => s.winds_startCue _ _ _) fun _ =>
    .ite (fun _ => s.winds_stopCue _) fun _ => .refl s

theorem State.winds_activity : s.Winds s.workOutActivity.reevaluateSmoke := by
  obtain ⟨-, -, -, shown⟩ := s.workOutActivity_eq
  obtain ⟨-, -, shown'⟩ := s.workOutActivity.reevaluateSmoke_eq
  exact (State.Winds.of_shows shown).trans (.of_shows shown')

theorem State.winds_takeFunctionMap (m : FunctionMap) : s.Winds (s.takeFunctionMap m) :=
  (State.Winds.of_keeps (s.keeps_withFunctions _)).trans (State.winds_activity _)

theorem State.winds_writeFunctions (write : Fin 32 → Option Bool) (source : Source) : s.Winds (s.writeFunctions write source) :=
  (State.Winds.of_keeps (s.keeps_withFunctions _)).trans (.ite (fun _ => .refl _) fun _ =>
    (State.winds_activity _).trans (.foldl (fun u n => u.winds_soundEdge n _) _ _))

theorem State.winds_takeFunctionDirective (d : FunctionDirective) : s.Winds (s.takeFunctionDirective d) :=
  (State.Winds.of_keeps (s.keeps_withFunctions _)).trans (State.winds_writeFunctions _ _ _)

theorem State.winds_takeLampDirective (d : LampDirective) : s.Winds (s.takeLampDirective d) := by
  obtain ⟨-, -, -, shown⟩ := (s.withLamps { s.lamps with directive := d }).workOutActivity_eq
  exact State.Winds.trans (t := s.withLamps { s.lamps with directive := d }) (.of_shows (.of_frame (s.sameExcept_withLamps _)))
    (.of_shows shown)

/-! ### The receiver -/

theorem State.winds_endSilence (subject : Byte) : s.Winds (s.endSilence subject) := by
  have set : s.Winds (s.withRadio { s.radio with elapsedTimer := .stopped }) := .of_shows (.of_frame (s.sameExcept_withRadio _))
  exact ((set.event _ _ _).raise .silence).trans (State.winds_recomputeProtection _)

theorem State.winds_takeRadioProfile (p : RadioProfile) : s.Winds (s.takeRadioProfile p) := by
  have set (r : Radio) : s.Winds (s.withRadio r) := .of_shows (.of_frame (s.sameExcept_withRadio r))
  have written (u : State) : u.Winds u.writeRadioReadings := .of_shows (u.shows_writeGroup _ _ _)
  obtain ⟨arms, idles, stays, disarms⟩ := s.takeRadioProfile_quiet p
  cases hs : s.radio.silence
  case silent =>
    rw [s.takeRadioProfile_silent p hs]
    exact .ite (fun _ => ((set _).trans (State.winds_endSilence _ _)).trans (written _)) fun _ =>
      .ite (fun _ => (set _).trans (State.winds_recomputeProtection _)) fun _ => set _
  case disarmed =>
    by_cases ht : p.silenceTimeout = 0 ∨ s.radio.heard = false
    · rw [idles hs ht]
      exact set _
    · obtain ⟨timeout, heard⟩ := not_or.mp ht
      rw [arms hs (by omega) (by simpa using heard)]
      exact (set _).trans (written _)
  case listening =>
    by_cases ht : p.silenceTimeout = 0
    · rw [disarms hs ht]
      exact (set _).trans (written _)
    · rw [stays hs (by omega)]
      exact set _

/-! ### The sequencer -/

theorem Contributee.winds_takes (order : Nat) (g : Contributee) : s.Winds (g.takes order s) := by
  cases g
  · exact s.winds_recomputeProtection
  · exact s.winds_smokeContributions _ _
  · exact s.winds_powerContributions _

theorem State.winds_handContributions (order : Nat) : s.Winds (s.handContributions order) :=
  s.handContributions_stays (P := s.Winds) order (fun g u hu => hu.trans (Contributee.winds_takes u order g)) (.refl s)

theorem State.winds_takeWaitingProfile (order : Nat) : s.Winds (s.takeWaitingProfile order) := by
  unfold State.takeWaitingProfile
  split
  · exact .refl s
  · exact (State.Winds.of_keeps (s.keeps_withSequencer _)).trans (State.winds_handContributions _ _)

theorem State.winds_endPassIfDone (order : Nat) : s.Winds (s.endPassIfDone order) := by
  have written (u : State) : u.Winds u.writeSequencerReadings := .of_shows (u.shows_writeGroup _ _ _)
  exact .ite (fun _ => (s.winds_takeWaitingProfile order).trans
    ((State.Winds.of_keeps (State.keeps_withSequencer _ _)).trans (written _))) fun _ => .refl s

theorem State.winds_alarmEvent (k : SlotIx) (x y : Slot) (v : Nat) : s.Winds (s.alarmEvent k x y v) :=
  .ite (fun _ => ((State.Winds.refl s).event _ _ _).raise .alarm) fun _ =>
    .ite (fun _ => ((State.Winds.refl s).event _ _ _).raise .alarm) fun _ => .refl s

theorem State.winds_deliver (c : Conversion) (value : Nat) : s.Winds (s.deliver c value) := by
  refine .ite (fun _ => s.winds_heatValue value) fun _ => .ite (fun _ => ?_) fun _ => ?_
  · exact .ite (fun _ => .of_keeps (s.keeps_withPower _)) fun _ => .refl s
  · split
    · exact s.winds_deliverEmf _ _ _
    · exact .refl s

theorem State.winds_conversionEnded (c : Conversion) (raw order : Nat) : s.Winds (s.conversionEnded c raw order) := by
  have judged (k : SlotIx) (n : Nat) : s.Winds (s.conversionJudged k raw n) :=
    ((State.Winds.of_keeps (s.keeps_withSequencer _)).trans (State.winds_alarmEvent _ _ _ _ _)).trans
      (.ite (fun _ => State.winds_handContributions _ _) fun _ => .refl _)
  exact ((judged _ _).trans (State.winds_deliver _ _ _)).trans (State.winds_endPassIfDone _ _)

end

end Sys2Proof.Machine

/-! ## The end of a visit, for each section -/

namespace Sys2Proof.Machine

-- One proof at a time: proofs that wait for one another would each hold a thread.
set_option Elab.async false

/-- What a hand-over can touch: the blocks, and what they raise and show. -/
abbrev Component.ofHandOver : List Component :=
  [.sequencer, .power, .cadence, .smoke, .lamps, .sound, .radio, .functions, .drive, .store, .events, .eventSeq, .attention]

/-- What a hand-over of section `k` leaves for the end of its visit. -/
structure State.HandedOver (s : State) (k : Fin 15) (t : State) : Prop where
  winds : s.Winds t
  frame : s.SameExcept t Component.ofHandOver
  opens : s.QuiesceOpenForVisit k → t.VisitOpen

namespace State.HandedOver
variable {s t : State} {k : Fin 15}

theorem of_voices {l : List Component} (w : s.Winds t) (keeps : s.Keeps t l) (voices : s.part ≠ .run → t.sound.voices = s.sound.voices)
    (hl : l ⊆ Component.ofHandOver := by decide) : s.HandedOver k t where
  winds := w
  frame := State.sameExcept_mono keeps.frame hl
  opens := fun hq => hq.open.of_voices w.part (State.sameExcept_mono keeps.frame hl .acks (by decide)) voices

theorem of_keeps {l : List Component} (w : s.Winds t) (keeps : s.Keeps t l)
    (hl : l ⊆ Component.ofHandOver := by decide) (hs : Component.sound ∉ l := by decide) : s.HandedOver k t :=
  of_voices w keeps (fun _ => by rw [show t.sound = s.sound from keeps.same .sound hs]) hl

theorem of_acks {l : List Component} (w : s.Winds t) (keeps : s.Keeps t l) (hk : k = 13 ∨ k = 14)
    (hl : l ⊆ Component.ofHandOver := by decide) : s.HandedOver k t where
  winds := w
  frame := State.sameExcept_mono keeps.frame hl
  opens := fun hq => .of_acks (hq.sequencer hk) w.part (State.sameExcept_mono keeps.frame hl .acks (by decide))

end State.HandedOver

/-- The row of each section, by how it reads a body and what it hands over. -/
theorem exec_adoptCommand (s : State) (k : Fin 15) (order : Nat) :
    ∃ (α : Type) (read : List Byte → α × List Finding) (take : State → α → State),
      exec (adoptCommand order k) s = .next (s.finishVisit k read take) ∧ (∀ b, (read b).2 = sectionFindings k b) ∧
      ∀ x, s.HandedOver k (take s x) := by
  match k with
  | 0 => exact ⟨_, readDriveProfile, State.takeDriveProfile, rfl, fun _ => rfl, fun p =>
      .of_voices (s.winds_takeDriveProfile p) (s.keeps_takeDriveProfile p) (s.follows_takeDriveProfile p).voices⟩
  | 1 => exact ⟨_, readSpeedTable, State.takeSpeedTable, rfl, fun _ => rfl, fun p =>
      .of_keeps (s.winds_takeSpeedTable p) (s.keeps_takeSpeedTable p)⟩
  | 2 => exact ⟨_, readMeasureProfile, State.takeMeasureProfile, rfl, fun _ => rfl, fun p =>
      .of_keeps (.of_keeps (s.keeps_takeMeasureProfile p)) (s.keeps_takeMeasureProfile p)⟩
  | 3 => exact ⟨_, readPowerProfile, fun s p => s.takePowerProfile p order, rfl, fun _ => rfl, fun p =>
      .of_voices (s.winds_takePowerProfile p order) (s.keeps_takePowerProfile p order) (s.takePowerProfile_leaves p order).2.voices⟩
  | 4 => exact ⟨_, readCadenceProfile, State.takeCadenceProfile, rfl, fun _ => rfl, fun p =>
      .of_voices (s.winds_takeCadenceProfile p) (s.keeps_takeCadenceProfile p) (s.follows_takeCadenceProfile p).voices⟩
  | 5 => exact ⟨_, readSmokeProfile, State.takeSmokeProfile, rfl, fun _ => rfl, fun p =>
      .of_keeps (.of_keeps (s.keeps_takeSmokeProfile p)) (s.keeps_takeSmokeProfile p)⟩
  | 6 => exact ⟨_, readLampProfile, State.takeLampProfile, rfl, fun _ => rfl, fun p =>
      .of_keeps (.of_keeps (s.keeps_takeLampProfile p)) (s.keeps_takeLampProfile p)⟩
  | 7 => exact ⟨_, readSoundProfile, State.takeSoundProfile, rfl, fun _ => rfl, fun p =>
      .of_voices (.of_sound (.of_keeps (s.keeps_takeSoundProfile p)) fun _ => id) (s.keeps_takeSoundProfile p) fun _ => rfl⟩
  | 8 => exact ⟨_, readRadioProfile, State.takeRadioProfile, rfl, fun _ => rfl, fun p =>
      .of_voices (s.winds_takeRadioProfile p) (s.keeps_takeRadioProfile p) (s.heeds_takeRadioProfile p).voices⟩
  | 9 => exact ⟨_, readFunctionMap, State.takeFunctionMap, rfl, fun _ => rfl, fun p =>
      .of_voices (s.winds_takeFunctionMap p) (s.keeps_takeFunctionMap p) fun _ => by
        obtain ⟨-, -, -, -, shown⟩ := s.takeFunctionMap_leaves p
        rw [show (s.takeFunctionMap p).sound = s.sound from shown .sound (by decide)]⟩
  | 10 => exact ⟨_, readDriveDirective, State.takeDriveDirective, rfl, fun _ => rfl, fun p =>
      .of_voices (s.winds_takeDriveDirective p) (s.keeps_takeDriveDirective p)
        ((State.Follows.of_keeps (s.keeps_withDrive _)).trans (State.follows_writeTarget _ _ _ _)).voices⟩
  | 11 => exact ⟨_, readSmokeDirective, State.takeSmokeDirective, rfl, fun _ => rfl, fun p =>
      .of_keeps (s.winds_takeSmokeDirective p) (s.keeps_takeSmokeDirective p)⟩
  | 12 => exact ⟨_, readLampDirective, State.takeLampDirective, rfl, fun _ => rfl, fun p =>
      .of_keeps (s.winds_takeLampDirective p) (s.keeps_takeLampDirective p)⟩
  | 13 => exact ⟨_, readSoundDirective, State.takeSoundDirective, rfl, fun _ => rfl, fun p =>
      .of_acks (s.winds_takeSoundDirective p) (s.keeps_takeSoundDirective p) (.inl rfl)⟩
  | 14 => exact ⟨_, readFunctionDirective, State.takeFunctionDirective, rfl, fun _ => rfl, fun p =>
      .of_acks (s.winds_takeFunctionDirective p) (s.keeps_takeFunctionDirective p) (.inr rfl)⟩

/-! ### The row that waits once more (log entry 54) -/

/-- The commands that end a visit to section `k` are its row's. -/
theorem endedSection_eq (c : Instr) (k : Fin 15) : endedSection c = some k ↔ ∃ o, c = adoptCommand o k := by
  constructor
  · intro h
    cases c
    case adoptPowerProfile order =>
      obtain rfl : 3 = k := Option.some.inj h
      exact ⟨order, rfl⟩
    all_goals
      simp only [endedSection, reduceCtorEq, Option.some.injEq] at h
    all_goals
      subst h
      exact ⟨0, rfl⟩
  · rintro ⟨o, rfl⟩
    exact endedSection_adoptCommand o k

theorem State.pausesVisit_iff (s : State) (k : Fin 15) :
    s.pausesVisit k = true ↔ ∃ (o : Nat) (rest : List Instr), s.pending = adoptCommand o k :: rest := by
  unfold State.pausesVisit
  rw [beq_iff_eq]
  cases hp : s.pending with
  | nil => simp
  | cons c rest =>
    rw [List.head?_cons, Option.bind_some, endedSection_eq]
    simp

/-! ### The answer -/

section
variable (s : State) (v : Visit) (d : Verdict)

theorem State.writeVerdict_storeAt (a : Nat) : (s.writeVerdict v d).storeAt a =
    if a = sectionBase v.section_ + 2 then BitVec.ofNat 8 d.code
    else if a = sectionBase v.section_ + 3 then BitVec.ofNat 8 d.reason else s.storeAt a := by
  show (s.writeStore _ _).storeAt a = _
  split
  · rename_i h
    subst h
    exact s.storeAt_writeStore_inside (sectionBase v.section_ + 2) 0 _ (by simp)
  · split
    · rename_i h
      subst h
      exact s.storeAt_writeStore_inside (sectionBase v.section_ + 2) 1 _ (by simp)
    · exact s.storeAt_writeStore_outside _ a _ (by simp only [List.length_cons, List.length_nil]; omega)

theorem State.writeVerdict_attends : (s.writeVerdict v d).AttendsAs s := by
  have := section_bounds v.section_
  exact ⟨⟨rfl, rfl, fun a _ h => by
    rw [s.writeVerdict_storeAt, if_neg (by omega), if_neg (by omega)]⟩, rfl, rfl, rfl⟩

/-- The header, the unit's record and what is raised at the end of a visit whose verdict is written (R164). -/
theorem State.VisitOpen.ends {h : State} (o : h.VisitOpen) :
    let x := h.writeVerdict v d
    let k := v.section_
    let t := if x.pausesVisit k then x.settleQuiesce else x.writeAdopted v d
    (∀ a, t.storeAt a = if a = sectionBase k + 2 then BitVec.ofNat 8 d.code
      else if a = sectionBase k + 3 then BitVec.ofNat 8 d.reason
      else if a = sectionBase k + 1 ∧ h.pausesVisit k = false then v.revision else h.storeAt a) ∧
    (h.pausesVisit k = true → t.adoption = { h.adoption with visit := some { v with verdict := some d } }) ∧
    (h.pausesVisit k = false → t.adoption = { h.adoption with
      visit := none, sweep := if h.adoption.sweep = some 15 then none else h.adoption.sweep,
      adopted := h.adoption.adopted.set k true }) ∧
    (h.pausesVisit k = true → t.EventsAs h) ∧
    (h.pausesVisit k = false → t.EventsAs (if d = .accepted then h else h.raise .verdict)) ∧
    h.SameExcept t [.store, .adoption, .attention, .acks] := by
  intro x k t
  have written := h.writeVerdict_storeAt v d
  have attends := h.writeVerdict_attends v d
  have frame := h.sameExcept_writeVerdict v d
  have opened : x.VisitOpen := o.of_frame frame
  have pauses : x.pausesVisit k = h.pausesVisit k := by
    unfold State.pausesVisit
    rw [show x.pending = h.pending from frame .pending (by decide)]
  have whole : h.SameExcept t [.store, .adoption, .attention, .acks] :=
    State.sameExcept_trans (State.sameExcept_mono frame (by decide)) (opened.frame k v d)
  cases hp : h.pausesVisit k
  · have ht : t = x.writeAdopted v d := if_neg (by rw [pauses, hp]; nofun)
    obtain ⟨a, e⟩ := opened.writeAdopted v d
    rw [ht, e] at whole ⊢
    refine ⟨fun n => ?_, nofun, fun _ => ?_, nofun, fun _ => ?_, whole⟩
    · have stored : ((x.answered v d).withAcks a).storeAt n = (x.answered v d).storeAt n := rfl
      rw [stored, x.answered_storeAt, written]
      by_cases h₁ : n = sectionBase k + 1
      · have h₂ : ¬ n = sectionBase k + 2 := by omega
        have h₃ : ¬ n = sectionBase k + 3 := by omega
        rw [if_pos h₁, if_neg h₂, if_neg h₃, if_pos ⟨h₁, rfl⟩]
      · rw [if_neg h₁, if_neg (fun h => h₁ h.1 : ¬ (n = sectionBase k + 1 ∧ false = false))]
    · exact x.answered_adoption v d
    · have answered := (x.answered_attends v d).2
      split
      · rename_i hd
        rw [if_pos hd] at answered
        exact answered.trans attends.2
      · rename_i hd
        rw [if_neg hd] at answered
        exact answered.trans (attends.raise .verdict).2
  · have ht : t = x.settleQuiesce := if_pos (by rw [pauses, hp])
    obtain ⟨a, e, -⟩ := State.settleQuiesce_withAcks opened.unfinished
    rw [ht, e] at whole ⊢
    refine ⟨fun n => ?_, fun _ => rfl, nofun, fun _ => attends.2, nofun, whole⟩
    have stored : (x.withAcks a).storeAt n = x.storeAt n := rfl
    rw [stored, written, if_neg (by simp : ¬ (n = sectionBase k + 1 ∧ true = false))]

end

/-! ### The verdict (R164) -/

/-- The code of a refusal, 0 for a field that is taken. -/
def Finding.refusal : Finding → Nat
  | .fine | .clamped => 0
  | .unknownCode => 1
  | .badPartner => 2

theorem firstRefusal_of_first {fs : List Finding} {n : Nat} {f : Finding} (h : fs[n]? = some f) (hf : 0 < f.refusal)
    (before : ∀ m g, m < n → fs[m]? = some g → g.refusal = 0) : firstRefusal fs = some f.refusal := by
  induction fs generalizing n with
  | nil => simp at h
  | cons g fs ih =>
    cases n with
    | zero =>
      obtain rfl : g = f := by simpa using h
      cases g with
      | fine | clamped => exact absurd hf (by decide)
      | unknownCode | badPartner => rfl
    | succ n =>
      have taken : g.refusal = 0 := before 0 g (by omega) rfl
      have rest := ih h fun m x hm hx => before (m + 1) x (by omega) hx
      cases g with
      | fine | clamped => exact rest
      | unknownCode | badPartner => exact absurd taken (by decide)

theorem firstRefusal_of_taken {fs : List Finding} (h : ∀ f ∈ fs, f.refusal = 0) : firstRefusal fs = none := by
  refine (firstRefusal_eq_none fs).mpr fun f hf => ?_
  have := h f hf
  constructor <;> rintro rfl <;> cases this

/-- Without a refusal the first clamped field gives the verdict. -/
theorem verdictOf_clamped {fs : List Finding} (h : firstRefusal fs = none) {n : Nat} (hn : fs[n]? = some .clamped)
    (before : ∀ m, m < n → fs[m]? ≠ some .clamped) : verdictOf fs = .clamped (n + 1) := by
  have found : fs.findIdx? (· == .clamped) = some n := by
    obtain ⟨hlt, e⟩ := List.getElem?_eq_some_iff.mp hn
    refine List.findIdx?_eq_some_iff_getElem.mpr ⟨hlt, by rw [e]; rfl, fun m hm => ?_⟩
    have other := before m hm
    rw [List.getElem?_eq_getElem (by omega)] at other
    simpa using other
  unfold verdictOf
  rw [h, found]

theorem verdictOf_accepted {fs : List Finding} (h : firstRefusal fs = none) (hc : Finding.clamped ∉ fs) :
    verdictOf fs = .accepted := by
  have none : fs.findIdx? (· == .clamped) = none := by
    refine List.findIdx?_eq_none_iff.mpr fun f hf => ?_
    simp only [beq_eq_false_iff_ne]
    rintro rfl
    exact hc hf
  unfold verdictOf
  rw [h, none]

section
variable {s : State} {v : Visit} {k : Fin 15}

/-- The end of a visit whose copy is torn (R163). -/
theorem State.finishVisit_torn {α : Type} (read : List Byte → α × List Finding) (take : State → α → State)
    (hv : s.adoption.visit = some v) (hk : v.section_ = k) (hd : v.verdict = none) (ht : s.isTorn v = true) :
    s.finishVisit k read take = s.endVisit := by
  unfold State.finishVisit
  rw [hv]
  dsimp only
  rw [if_pos hk, hd]
  dsimp only
  rw [if_pos ht]

/-- The end of a visit whose verdict stands (R164). -/
theorem State.finishVisit_judged {α : Type} (read : List Byte → α × List Finding) (take : State → α → State)
    (hv : s.adoption.visit = some v) (hk : v.section_ = k) {d : Verdict} (hd : v.verdict = some d) :
    s.finishVisit k read take = s.writeAdopted v d := by
  unfold State.finishVisit
  rw [hv]
  dsimp only
  rw [if_pos hk, hd]

/-- The end of a visit whose copy is whole (R164). -/
theorem State.finishVisit_whole {α : Type} {read : List Byte → α × List Finding} (take : State → α → State)
    (hv : s.adoption.visit = some v) (hk : v.section_ = k) (hd : v.verdict = none) (ht : s.isTorn v = false)
    {fs : List Finding} (hf : (read (s.copiedBody v)).2 = fs) :
    s.finishVisit k read take =
      let x := (s.handOver (verdictOf fs) (read (s.copiedBody v)).1 take).writeVerdict v (verdictOf fs)
      if x.pausesVisit k then x.settleQuiesce else x.writeAdopted v (verdictOf fs) := by
  subst hf
  unfold State.finishVisit
  rw [hv]
  dsimp only
  rw [if_pos hk, hd]
  dsimp only
  rw [if_neg (by rw [ht]; nofun)]

theorem State.isTorn_iff (s : State) (v : Visit) : s.isTorn v = true ↔
    s.storeAt (sectionBase v.section_) ≠ v.revision ∨ s.adoption.marks[v.section_] = true := by
  unfold State.isTorn State.revision
  rw [Bool.or_eq_true, bne_iff_ne]

/-- Nothing handed over. -/
theorem State.HandedOver.refl (s : State) (k : Fin 15) : s.HandedOver k s :=
  .of_keeps (.refl s) (.refl s [])

/-- A hand-over that its verdict allows. -/
theorem State.HandedOver.handOver {α : Type} {take : State → α → State} (h : ∀ x, s.HandedOver k (take s x)) (d : Verdict) (x : α) :
    s.HandedOver k (s.handOver d x take) := by
  cases d
  case refused => exact .refl s k
  all_goals exact h x

/-- What the header and the unit's record hold at the end of a visit with its verdict `d` (R164). -/
theorem State.HandedOver.ends {h : State} (ho : s.HandedOver k h) (hq : s.QuiesceOpenForVisit k) (hk : v.section_ = k) (d : Verdict) :
    let x := h.writeVerdict v d
    let t := if x.pausesVisit k then x.settleQuiesce else x.writeAdopted v d
    t.storeAt (sectionBase k + 2) = BitVec.ofNat 8 d.code ∧ t.storeAt (sectionBase k + 3) = BitVec.ofNat 8 d.reason ∧
    (s.pausesVisit k = false → t.storeAt (sectionBase k + 1) = v.revision ∧ t.adoption = { s.adoption with
      visit := none, sweep := if s.adoption.sweep = some 15 then none else s.adoption.sweep,
      adopted := s.adoption.adopted.set k true }) ∧
    (s.pausesVisit k = true → t.storeAt (sectionBase k + 1) = s.storeAt (sectionBase k + 1) ∧
      t.adoption = { s.adoption with visit := some { v with verdict := some d } }) ∧
    h.StoreSameOutside t (sectionBase k + 1) 3 ∧
    (s.pausesVisit k = true → t.EventsAs h) ∧
    (s.pausesVisit k = false → t.EventsAs (if d = .accepted then h else h.raise .verdict)) ∧
    h.SameExcept t [.store, .adoption, .attention, .acks] := by
  subst hk
  obtain ⟨stored, paused, closed, pausedAs, overAs, frame⟩ := (ho.opens hq).ends v d
  have bounds := section_bounds v.section_
  have pauses : h.pausesVisit v.section_ = s.pausesVisit v.section_ := by
    unfold State.pausesVisit
    rw [show h.pending = s.pending from ho.frame .pending (by decide)]
  have adoption : h.adoption = s.adoption := ho.frame .adoption (by decide)
  have base : readingsBase = 0x0800 := rfl
  rw [pauses, adoption] at paused closed
  rw [pauses] at pausedAs overAs
  intro x t
  refine ⟨(stored _).trans (if_pos rfl), (stored _).trans ?_, fun hp => ⟨(stored _).trans ?_, closed hp⟩,
    fun hp => ⟨(stored _).trans ?_, paused hp⟩, fun a ha => (stored a).trans ?_, pausedAs, overAs, frame⟩
  · rw [if_neg (by omega), if_pos rfl]
  · rw [if_neg (by omega), if_neg (by omega), if_pos ⟨rfl, pauses.trans hp⟩]
  · rw [if_neg (by omega), if_neg (by omega), if_neg fun ⟨_, h⟩ => absurd ((pauses.trans hp).symm.trans h) nofun]
    exact ho.winds.low _ (by omega)
  · rw [if_neg (by omega), if_neg (by omega), if_neg (by omega)]

end

/-- Settles O49: the rows of the fifteen sections are one walk, whose findings are the fields' in order. -/
theorem visitsEndTornOrAnswered : Obligations.VisitsEndTornOrAnswered := by
  refine ⟨sectionFindings_eq, ?_⟩
  rintro s _ order v - active hv rfl hq
  intro u base freed torn found refusal twice answered
  obtain ⟨α, read, take, row, finds, hands⟩ := exec_adoptCommand s v.section_ order
  have tornIff : s.isTorn v = true ↔ torn := s.isTorn_iff v
  have twiceIff : s.pausesVisit v.section_ = true ↔ twice := s.pausesVisit_iff _
  have pausedIff : s.pausesVisit v.section_ = false ↔ ¬ twice := by rw [← twiceIff, Bool.not_eq_true]
  have refuses (f : Finding) : refusal f = f.refusal := by cases f <;> rfl
  rw [row]
  refine ⟨fun hd ht => ?_, fun hd ht => ?_, fun d hd => ?_⟩
  · have closed : (s.withAdoption s.adoption.visitOver).VisitOpen := hq.open.of_frame (s.sameExcept_withAdoption _)
    obtain ⟨a, e, -⟩ := State.settleQuiesce_withAcks closed.unfinished
    refine ⟨_, congrArg Host.Outcome.next ((State.finishVisit_torn read take hv rfl hd (tornIff.mpr ht)).trans e), rfl, ?_⟩
    exact State.sameExcept_trans (State.sameExcept_mono (s.sameExcept_withAdoption _) (by decide))
      (State.sameExcept_mono (State.sameExcept_withAcks _ _) (by decide))
  · have whole : s.isTorn v = false := Bool.eq_false_iff.mpr fun h => ht (tornIff.mp h)
    have finished := State.finishVisit_whole take hv rfl hd whole (fs := found) (finds _)
    obtain ⟨h, hh⟩ : ∃ h, h = s.handOver (verdictOf found) (read (s.copiedBody v)).1 take := ⟨_, rfl⟩
    have handed : s.HandedOver v.section_ h := by rw [hh]; exact .handOver hands _ _
    have ends := handed.ends hq rfl (verdictOf found)
    have verdict : h.attention.pending[(2 : Fin 12)] = s.attention.pending[(2 : Fin 12)] := handed.winds.verdict
    have raised : (h.raise .verdict).attention.pending[(2 : Fin 12)] = true := by
      rw [State.raise_active _ _ (handed.winds.part ▸ active), State.setPending_get]
      rfl
    rw [← hh] at finished
    refine ⟨_, congrArg Host.Outcome.next finished, ?_⟩
    dsimp only at ends ⊢
    generalize (if (h.writeVerdict v (verdictOf found)).pausesVisit v.section_ = true then
      (h.writeVerdict v (verdictOf found)).settleQuiesce
      else (h.writeVerdict v (verdictOf found)).writeAdopted v (verdictOf found)) = t at *
    obtain ⟨code, reason, closed, paused, outside, pausedAs, overAs, frame⟩ := ends
    have answers (d : Verdict) (hd : verdictOf found = d) (c : Byte) (n : Nat) (hc : BitVec.ofNat 8 d.code = c) (hn : d.reason = n) :
        answered t c n d := by
      rw [hd] at code reason paused
      exact ⟨code.trans hc, hn ▸ reason, fun h => closed (pausedIff.mpr h), fun h => paused (twiceIff.mpr h)⟩
    refine ⟨fun n f hn hf before => ?_, fun taken => ⟨fun n hn before => ?_, fun hc => ?_⟩⟩
    · have first : firstRefusal found = some f.refusal :=
        firstRefusal_of_first hn (refuses f ▸ hf) fun m g hm hg => refuses g ▸ before m g hm hg
      have judged : verdictOf found = .refused f.refusal := by
        unfold verdictOf
        rw [first]
      have stays : h = s := by rw [hh, judged]; rfl
      subst stays
      rw [judged] at overAs
      rw [refuses f]
      exact ⟨answers _ judged _ _ rfl rfl, outside, fun h => overAs (pausedIff.mpr h), fun h => pausedAs (twiceIff.mpr h),
        State.sameExcept_mono frame (by decide)⟩
    · have none : firstRefusal found = none := firstRefusal_of_taken fun f hf => refuses f ▸ taken f hf
      have judged := verdictOf_clamped none hn before
      rw [judged] at overAs
      refine ⟨answers _ judged _ _ rfl rfl, fun h => ?_, fun h => ?_⟩
      · rw [(overAs (pausedIff.mpr h)).2.2]
        exact raised
      · rw [(pausedAs (twiceIff.mpr h)).2.2]
        exact verdict
    · have none : firstRefusal found = none := firstRefusal_of_taken fun f hf => refuses f ▸ taken f hf
      exact answers _ (verdictOf_accepted none hc) _ _ rfl rfl
  · obtain ⟨a, e⟩ := hq.open.writeAdopted v d
    have bounds := section_bounds v.section_
    have stored (n : Nat) : ((s.answered v d).withAcks a).storeAt n = if n = base + 1 then v.revision else s.storeAt n :=
      s.answered_storeAt v d n
    have adoption := s.answered_adoption v d
    refine ⟨_, congrArg Host.Outcome.next ((State.finishVisit_judged read take hv rfl hd).trans e), (stored _).trans (if_pos rfl),
      fun n hn => (stored n).trans (if_neg (by omega)), adoption, (s.answered_attends v d).2, ?_⟩
    exact State.sameExcept_trans (State.sameExcept_mono (s.answered_frame v d) (by decide))
      (State.sameExcept_mono (State.sameExcept_withAcks _ _) (by decide))

end Sys2Proof.Machine

/-! ## The last acknowledgement of a quiesce -/

namespace Sys2Proof.Machine

-- One proof at a time: proofs that wait for one another would each hold a thread.
set_option Elab.async false

/-- A command taken in QUIESCING leaves the acknowledgements `a`: with all of them the quiesce ends, else it goes on. -/
def State.Acknowledges (s : State) (c : Instr) (a : Acks) : Prop :=
  (a.all = true → ∃ t, exec c s = .next t ∧ s.QuiesceEnded t) ∧
    (a.all = false → ∃ t, exec c s = .next t ∧ t.part = .quiescing ∧ t.deadline = s.deadline ∧ t.acks = a)

section
variable {s u : State} {a : Acks} {l : List Component}

/-- The last acknowledgement ends the quiesce (R167). -/
theorem State.quiesceEnded_settles (hp : u.part = .quiescing) (hm : u.resetMark = s.resetMark) (ha : u.acksNow.all = true) :
    s.QuiesceEnded u.settleQuiesce := by
  rcases u.settleQuiesce_cases with ⟨h, -⟩ | ⟨-, h, -⟩ | ⟨-, -, h⟩
  · exact absurd hp h
  · exact absurd (h.symm.trans ha) nofun
  · rw [h]
    exact s.quiesceEnded_endQuiesce hm

/-- A move that the quiesce is settled behind. -/
theorem State.Acknowledges.of_settles {c : Instr} (hp : s.part = .quiescing) (frame : s.SameExcept u l)
    (taken : exec c s = .next u.settleQuiesce) (ha : u.acksNow = a)
    (hl : Component.part ∉ l ∧ .resetMark ∉ l ∧ .deadline ∉ l := by decide) : s.Acknowledges c a := by
  have part : u.part = .quiescing := (frame .part hl.1).trans hp
  refine ⟨fun all => ⟨_, taken, State.quiesceEnded_settles part (frame .resetMark hl.2.1) (ha ▸ all)⟩, fun some => ?_⟩
  have settles : u.settleQuiesce = u.withAcks a := by
    rcases u.settleQuiesce_cases with ⟨h, -⟩ | ⟨-, -, h⟩ | ⟨-, h, -⟩
    · exact absurd part h
    · rw [h, ha]
    · rw [ha] at h
      exact absurd (h.symm.trans some) nofun
  rw [settles] at taken
  exact ⟨_, taken, part, frame .deadline hl.2.2, rfl⟩

/-! ### The drive's -/

/-- R at 0 is the drive's acknowledgement, where the voices and the visit stand. -/
theorem State.acksNow_of_drive (frame : s.SameExcept u l) (hr : u.drive.ramp = 0) (hv : u.sound.voices = s.sound.voices)
    (hl : Component.acks ∉ l ∧ .adoption ∉ l := by decide) : u.acksNow = { s.acksNow with drive := true } := by
  have acks : u.acks = s.acks := frame .acks hl.1
  have adoption : u.adoption = s.adoption := frame .adoption hl.2
  have busy : u.sound.anyBusy = s.sound.anyBusy := by
    unfold Sound.anyBusy
    rw [hv]
  unfold State.acksNow
  rw [acks, adoption, busy, hr]
  exact congrArg (fun b => ({ s.acksNow with drive := b } : Acks)) (Bool.or_true _)

/-- A step of the ramp that brings R to 0. -/
theorem State.acknowledges_rampStep (hp : s.part = .quiescing) (hrun : s.drive.rampTimer.isRunning = true)
    (hm : s.drive.profile.momentum ≠ .off) (hz : rampStepFrom s.drive.profile s.drive.ramp s.effectiveTarget = 0) :
    s.Acknowledges .rampStep { s.acksNow with drive := true } := by
  have taken : exec .rampStep s = .next s.rampStepped.rampMoved.settleDrive.settleQuiesce := by
    show execRampStep s = _
    unfold execRampStep
    rw [if_pos hrun]
    rfl
  obtain ⟨moved, stepped, -⟩ := s.rampStepped_moved
  have frame : s.SameExcept s.rampStepped.rampMoved.settleDrive Component.ofDrive :=
    ((s.keeps_withDrive _).mono.trans ((State.keeps_rampMoved _).trans (State.keeps_settleDrive _))).frame
  have ramp : s.rampStepped.rampMoved.settleDrive.drive.ramp = 0 :=
    (State.settleDrive_ramp _ (by rwa [moved.same .profile])).trans ((stepped.same .ramp).trans hz)
  have outside : s.part ≠ .run := by rw [hp]; nofun
  have voices : s.rampStepped.rampMoved.settleDrive.sound.voices = s.sound.voices :=
    (State.follows_settleDrive _).voices (by rwa [(State.keeps_rampMoved _).same .part]) |>.trans
      ((State.follows_rampMoved s.rampStepped).voices outside)
  exact .of_settles hp frame taken (State.acksNow_of_drive frame ramp voices)

/-- A HALT that stops the drive. -/
theorem State.acknowledges_halt (hp : s.part = .quiescing) (hc : s.command = 1#8) (h : s.drive.state ≠ .halted)
    (h' : s.drive.state ≠ .locked) : s.Acknowledges .commandHalt { s.acksNow with drive := true } := by
  have taken : exec .commandHalt s =
      .next ((((s.withCommandResult .accepted).withCommand 0#8).halt .host).settleQuiesce) :=
    congrArg Host.Outcome.next ((if_pos (by rw [hc]; rfl)).trans (if_pos (by rw [hp]; rfl)))
  have frame : s.SameExcept ((s.withCommandResult .accepted).withCommand 0#8) [.command, .commandResult] :=
    ((s.keeps_withCommandResult _).mono.trans (State.keeps_withCommand _ _).mono).frame
  have drive : ((s.withCommandResult .accepted).withCommand 0#8).drive = s.drive := rfl
  generalize (s.withCommandResult .accepted).withCommand 0#8 = u at *
  obtain ⟨⟨-, -, rest, -⟩, -, -, -, -, -, -, -, -, kept⟩ :=
    State.halt_stops (s := u) .host (by rwa [drive]) (by rwa [drive])
  have sound : (u.halt .host).sound.voices = s.sound.voices := by
    rw [show (u.halt .host).sound = u.sound from kept .sound (by decide), show u.sound = s.sound from frame .sound (by decide)]
  have whole : s.SameExcept (u.halt .host) (.command :: .commandResult :: Component.ofDrive) :=
    State.sameExcept_trans (State.sameExcept_mono frame (by decide)) (State.sameExcept_mono kept (by decide))
  exact .of_settles hp whole taken (State.acksNow_of_drive whole rest.1 sound)

/-- A trip that stops the drive. -/
theorem State.acknowledges_trip (hp : s.part = .quiescing) (c : Channel) (order : Nat)
    (h : s.drive.state = .idle ∨ s.drive.state = .running ∨ s.drive.state = .reversing) :
    s.Acknowledges (.trip c order) { s.acksNow with drive := true } := by
  have taken : exec (.trip c order) s = .next ((s.shortSeen c).takeTrip c order).settleQuiesce := by
    have outside : ¬ ((s.shortSeen c).part = .quiet ∨ (s.shortSeen c).part = .resetting) := by
      rw [(s.keeps_shortSeen c).same .part, hp]
      rintro (h | h) <;> cases h
    cases c
    · exact congrArg Host.Outcome.next (if_neg outside)
    · exact congrArg Host.Outcome.next (if_neg outside)
  have seen := (s.keeps_shortSeen c).frame
  have moving : (s.shortSeen c).drive.state.stopped = false := by
    rw [(s.driveSame_shortSeen c).same .state]
    rcases h with h | h | h <;> rw [h] <;> rfl
  generalize s.shortSeen c = u at *
  obtain ⟨new, retry, ⟨-, -, rest, -⟩, -, -, -, -, -, -, -, kept⟩ : ∃ new retry, u.TrippedIn (u.takeTrip c order) c new retry := by
    by_cases hc : u.drive.tripCount + 1 ≤ u.drive.profile.retryLimit
    · exact ⟨_, _, (State.takeTrip_tripped c order moving hc).1⟩
    · exact ⟨_, _, (State.takeTrip_locked c order moving (Nat.lt_of_not_le hc)).1⟩
  have sound : (u.takeTrip c order).sound.voices = s.sound.voices := by
    rw [show (u.takeTrip c order).sound = u.sound from kept .sound (by decide),
      show u.sound = s.sound from seen .sound (by decide)]
  have whole : s.SameExcept (u.takeTrip c order) Component.ofDrive :=
    State.sameExcept_trans (State.sameExcept_mono seen (by decide)) (State.sameExcept_mono kept (by decide))
  exact .of_settles hp whole taken (State.acksNow_of_drive whole rest.1 sound)

/-- The tick that ends the bridge. -/
theorem State.acknowledges_outageTick (hp : s.part = .quiescing) (order : Nat) (hrun : s.power.outageTimer.isRunning = true)
    (hs : s.power.state = .bridging) (hb : s.power.bridge ≤ 1) :
    s.Acknowledges (.outageTick order) { s.acksNow with drive := true } := by
  have empty : s.outageTicked.bridge = 0 := (if_pos hs).trans (by omega)
  have taken := exec_outageTick s order hrun
  rw [if_pos ⟨hs, empty⟩] at taken
  have frame := State.keeps_announcePower (s.withPower s.outageTicked.spend) .powerSpent 1#8 s.outageTicked.outage true order
  obtain ⟨-, rest, -, -, sound, -⟩ := State.announcePower_spent (s.withPower s.outageTicked.spend)
    (.of_frame (s.sameExcept_withPower _)) rfl .powerSpent 1#8 s.outageTicked.outage order
  generalize (s.withPower s.outageTicked.spend).announcePower .powerSpent 1#8 s.outageTicked.outage true order = t at *
  have whole : s.SameExcept t (.power :: Component.ofPower) :=
    State.sameExcept_trans (State.sameExcept_mono (s.sameExcept_withPower _) (by decide))
      (State.sameExcept_mono frame.frame (by decide))
  exact .of_settles hp whole taken (State.acksNow_of_drive whole rest.1 (by rw [sound]; rfl))

/-! ### The sound engine's -/

/-- A voice that fades out at this sample is FREE behind it (R122). -/
theorem State.advanceVoice_ends (s : State) {v : Voice}
    (h : v.busy = true → v.state = .fading ∧ v.fade ≤ 1) : (s.advanceVoice v).state = .free := by
  unfold State.advanceVoice
  split
  · rename_i r _
    obtain ⟨stays, -, -, -, -, -, -, ends, -⟩ := v.advance_eq r (((s.sound.clip v.clip).map (·.length)).getD 0)
    by_cases hf : v.state = .free
    · rw [stays hf, hf]
    · obtain ⟨fading, last⟩ := h (by simpa [Voice.busy] using hf)
      exact ends fading (.inl last)
  · rfl

/-- The sample at which the last voice fades out. -/
theorem State.acknowledges_outputSample (hp : s.part = .quiescing)
    (h : ∀ v : Fin 6, s.sound.voices[v].busy = true → s.sound.voices[v].state = .fading ∧ s.sound.voices[v].fade ≤ 1) :
    s.Acknowledges .outputSample { s.acksNow with sound := true } := by
  obtain ⟨e, sampled, voices, -⟩ := s.sampleVoices_eq
  have taken : exec .outputSample s = .next (s.withSound e).settleQuiesce := by
    rw [← sampled]
    exact congrArg Host.Outcome.next (if_pos (by rw [hp]; rfl))
  have silent : e.anyBusy = false := by
    rw [Bool.eq_false_iff, ne_eq, Sound.anyBusy_iff]
    rintro ⟨v, busy⟩
    rw [voices, vecMap_get, Voice.busy, s.advanceVoice_ends (h v)] at busy
    cases busy
  have acks : (s.withSound e).acksNow = { s.acksNow with sound := true } := by
    show ({ s.acksNow with sound := s.acks.sound || !e.anyBusy } : Acks) = _
    rw [silent]
    exact congrArg (fun b => ({ s.acksNow with sound := b } : Acks)) (Bool.or_true _)
  exact .of_settles hp (s.sameExcept_withSound e) taken acks

end

end Sys2Proof.Machine

/-! ## The last acknowledgement of a quiesce: the sequencer's and the adoption unit's -/

namespace Sys2Proof.Machine

-- One proof at a time: proofs that wait for one another would each hold a thread.
set_option Elab.async false

section
variable {s u t : State} {l : List Component}

/-! ### The sequencer's -/

/-- What the end of a quiesce leaves does not lie with the sequencer. -/
theorem State.QuiesceEnded.beginConversion (h : s.QuiesceEnded t) : s.QuiesceEnded t.beginConversion := h

/-- The blocks that have acknowledged, or have nothing left to finish, stay so behind a move. -/
theorem State.Winds.acksNow (w : s.Winds t) (hp : s.part = .quiescing) (frame : s.SameExcept t l)
    (hl : Component.acks ∉ l ∧ .adoption ∉ l := by decide) :
    (s.acksNow.drive = true → t.acksNow.drive = true) ∧ (s.acksNow.sound = true → t.acksNow.sound = true) ∧
      t.acksNow.smoke = s.acksNow.smoke ∧ t.acksNow.sequencer = s.acksNow.sequencer ∧
      t.acksNow.radio = s.acksNow.radio ∧ t.acksNow.lamps = s.acksNow.lamps ∧
      t.acksNow.adoption = s.acksNow.adoption := by
  have acks : t.acks = s.acks := frame .acks hl.1
  have adoption : t.adoption = s.adoption := frame .adoption hl.2
  unfold State.acksNow
  simp only [acks, adoption, Bool.or_eq_true, beq_iff_eq, Bool.not_eq_true', and_true]
  exact ⟨Or.imp_right (w.still hp), Or.imp_right (w.silent hp)⟩

/-- The conversion that a quiesce waits for last. -/
theorem State.quiesceEnded_conversion (hp : s.part = .quiescing) (raw : BitVec 12) (order : Nat)
    (hf : s.sequencer.inFlight ≠ none) (all : ({ s.acksNow with sequencer := true } : Acks).all = true) :
    ∃ t, exec (.adcConversionComplete raw order) s = .next t ∧ s.QuiesceEnded t := by
  obtain ⟨c, hc⟩ := Option.ne_none_iff_exists'.mp hf
  have taken := exec_adcConversionComplete s raw order hc
  have winds := s.winds_conversionEnded c raw.toNat order
  have frame := (s.keeps_conversionEnded c raw.toNat order).frame
  rw [show (s.conversionDelivered c raw.toNat (order % handOffOrders)).endPassIfDone (order / handOffOrders) =
    s.conversionEnded c raw.toNat order from rfl] at taken
  generalize s.conversionEnded c raw.toNat order = u at *
  have part : u.part = .quiescing := winds.part.trans hp
  obtain ⟨drive, sound, smoke, -, radio, lamps, adoption⟩ := winds.acksNow hp frame
  have done : (u.withAcks { u.acks with sequencer := true }).acksNow.all = true := by
    obtain ⟨hd, hs, hm, -, hr, hl, ha⟩ := (Acks.all_iff _).mp all
    exact (Acks.all_iff _).mpr ⟨drive hd, sound hs, smoke.trans hm, rfl, radio.trans hr, lamps.trans hl, adoption.trans ha⟩
  have acked : u.ackSequencer = (u.withAcks { u.acks with sequencer := true }).settleQuiesce := if_pos part
  rw [acked] at taken
  exact ⟨_, taken, (State.quiesceEnded_settles (u := u.withAcks { u.acks with sequencer := true }) part
    (frame .resetMark (by decide)) done).beginConversion⟩

/-! ### The adoption unit's -/

/-- A visit that is over, in a state with the other acknowledgements as they were. -/
theorem State.Winds.endsVisit (w : s.Winds t) (hp : s.part = .quiescing) (frame : s.SameExcept t l)
    (all : ({ s.acksNow with adoption := true } : Acks).all = true) {x : State} {m : List Component} (f : t.SameExcept x m)
    (hv : x.adoption.visit = none)
    (hl : Component.acks ∉ l ∧ .adoption ∉ l ∧ .resetMark ∉ l := by decide)
    (hm : Component.acks ∉ m ∧ .drive ∉ m ∧ .sound ∉ m ∧ .part ∉ m ∧ .resetMark ∉ m := by decide) :
    s.QuiesceEnded x.settleQuiesce := by
  obtain ⟨drive, sound, smoke, sequencer, radio, lamps, -⟩ := w.acksNow hp frame ⟨hl.1, hl.2.1⟩
  obtain ⟨hd, hs, hsm, hq, hr, hla, -⟩ := (Acks.all_iff _).mp all
  have acks : x.acksNow = { t.acksNow with adoption := true } := by
    unfold State.acksNow
    rw [show x.acks = t.acks from f .acks hm.1, show x.drive = t.drive from f .drive hm.2.1,
      show x.sound = t.sound from f .sound hm.2.2.1, hv]
    exact congrArg (fun b => ({ t.acksNow with adoption := b } : Acks)) (Bool.or_true _)
  refine State.quiesceEnded_settles ((f .part hm.2.2.2.1).trans (w.part.trans hp))
    ((f .resetMark hm.2.2.2.2).trans (frame .resetMark hl.2.2)) ?_
  rw [acks]
  exact (Acks.all_iff _).mpr ⟨drive hd, sound hs, smoke.trans hsm, sequencer.trans hq, radio.trans hr, lamps.trans hla, rfl⟩

/-- The visit that a quiesce waits for last, where it does not stop at its verdict (log entry 54). -/
theorem State.quiesceEnded_visit (hp : s.part = .quiescing) (order : Nat) {v : Visit} (hv : s.adoption.visit = some v)
    (stops : v.verdict = none → s.pausesVisit v.section_ = true → s.isTorn v = true)
    (all : ({ s.acksNow with adoption := true } : Acks).all = true) :
    ∃ t, exec (adoptCommand order v.section_) s = .next t ∧ s.QuiesceEnded t := by
  obtain ⟨α, read, take, row, -, hands⟩ := exec_adoptCommand s v.section_ order
  refine ⟨_, row, ?_⟩
  have here (x : State) (f : s.SameExcept x [.store, .adoption, .attention]) (hx : x.adoption.visit = none) :
      s.QuiesceEnded x.settleQuiesce := State.Winds.endsVisit (.refl s) hp (s.sameExcept_refl []) all f hx
  cases hd : v.verdict with
  | some d =>
    rw [State.finishVisit_judged read take hv rfl hd, s.writeAdopted_eq]
    exact here _ (s.answered_frame v d) (by rw [s.answered_adoption])
  | none =>
    cases ht : s.isTorn v with
    | true =>
      rw [State.finishVisit_torn read take hv rfl hd ht]
      exact here _ (State.sameExcept_mono (s.sameExcept_withAdoption _) (by decide)) rfl
    | false =>
      obtain ⟨d, handed⟩ : ∃ d, d = verdictOf (read (s.copiedBody v)).2 := ⟨_, rfl⟩
      have ho : s.HandedOver v.section_ (s.handOver d (read (s.copiedBody v)).1 take) := .handOver hands _ _
      rw [State.finishVisit_whole take hv rfl hd ht rfl, ← handed]
      generalize s.handOver d (read (s.copiedBody v)).1 take = h at *
      have frame := h.sameExcept_writeVerdict v d
      have goes : (h.writeVerdict v d).pausesVisit v.section_ = false := by
        unfold State.pausesVisit
        rw [show (h.writeVerdict v d).pending = h.pending from frame .pending (by decide),
          show h.pending = s.pending from ho.frame .pending (by decide)]
        exact Bool.eq_false_iff.mpr fun hq => absurd ((stops hd hq).symm.trans ht) nofun
      dsimp only
      rw [if_neg (by rw [goes]; nofun), State.writeAdopted_eq]
      exact ho.winds.endsVisit hp ho.frame all
        (State.sameExcept_trans (State.sameExcept_mono frame (by decide)) ((h.writeVerdict v d).answered_frame v d))
        (by rw [State.answered_adoption])

/-- A visit that stops at its verdict has not acknowledged (log entry 54). -/
theorem State.visit_waits (hp : s.part = .quiescing) (order : Nat) {v : Visit} (hv : s.adoption.visit = some v)
    (hd : v.verdict = none) (ht : s.isTorn v = false) (ha : s.acks.adoption = false) (hq : s.pausesVisit v.section_ = true) :
    ∃ t, exec (adoptCommand order v.section_) s = .next t ∧ t.part = .quiescing ∧ t.deadline = s.deadline ∧
      t.acks.adoption = false := by
  obtain ⟨α, read, take, row, -, hands⟩ := exec_adoptCommand s v.section_ order
  obtain ⟨d, handed⟩ : ∃ d, d = verdictOf (read (s.copiedBody v)).2 := ⟨_, rfl⟩
  have ho : s.HandedOver v.section_ (s.handOver d (read (s.copiedBody v)).1 take) := .handOver hands _ _
  rw [State.finishVisit_whole take hv rfl hd ht rfl, ← handed] at row
  refine ⟨_, row, ?_⟩
  generalize s.handOver d (read (s.copiedBody v)).1 take = h at *
  have frame : s.SameExcept (h.writeVerdict v d) (.adoption :: Component.ofHandOver) :=
    State.sameExcept_trans (State.sameExcept_mono ho.frame (by decide))
      (State.sameExcept_mono (h.sameExcept_writeVerdict v d) (by decide))
  have visit : (h.writeVerdict v d).adoption.visit = some { v with verdict := some d } := rfl
  have pauses : (h.writeVerdict v d).pausesVisit v.section_ = true := by
    unfold State.pausesVisit
    rw [show (h.writeVerdict v d).pending = s.pending from frame .pending (by decide)]
    exact hq
  dsimp only
  rw [if_pos pauses]
  generalize h.writeVerdict v d = x at *
  have waiting : x.acksNow.adoption = false := by
    unfold State.acksNow
    rw [show x.acks = s.acks from frame .acks (by decide), ha, visit]
    rfl
  have part : x.part = .quiescing := (frame .part (by decide)).trans hp
  rcases x.settleQuiesce_cases with ⟨h', -⟩ | ⟨-, -, h'⟩ | ⟨-, h', -⟩
  · exact absurd part h'
  · rw [h']
    exact ⟨part, frame .deadline (by decide), waiting⟩
  · obtain ⟨-, -, -, -, -, -, done⟩ := (Acks.all_iff _).mp h'
    exact absurd (waiting.symm.trans done) nofun

end

end Sys2Proof.Machine

/-! ## The drive that the deadline forces -/

namespace Sys2Proof.Machine

-- One proof at a time: proofs that wait for one another would each hold a thread.
set_option Elab.async false

section
variable {s u t : State}

/-- A change of drive state shows the drive as it then stands (R43). -/
theorem State.enterDriveState_groupShows {new : DriveState} (h : s.drive.state ≠ new) (asserting : Option Channel) :
    (s.enterDriveState new asserting).DriveGroupShows := by
  unfold State.enterDriveState
  rw [if_neg h]
  exact (State.writeDriveReadings_shows _).1

/-- R = 0 that ends a reversal or a run shows the drive as it then stands. -/
theorem State.reachedZero_groupShows (hr : s.drive.ramp = 0)
    (h : s.drive.state = .reversing ∨ s.drive.state = .running ∧ s.drive.target.magnitude = 0) : s.reachedZero.DriveGroupShows := by
  rcases h with hs | ⟨hs, hm⟩
  · rw [s.reachedZero_reversing hr hs]
    refine State.enterDriveState_groupShows ?_ none
    rw [(s.driveSame_setDirection _).same .state, hs]
    split <;> nofun
  · rw [s.reachedZero_running hr hs, if_pos hm]
    exact State.enterDriveState_groupShows (by rw [hs]; nofun) none

/-- What R = 0 leaves is a drive that R = 0 does not move. -/
theorem Drive.stays_reachedZero (hr : s.drive.ramp = 0) : s.reachedZero.drive.Stays := by
  obtain ⟨-, -, ends⟩ := s.reachedZero_state hr
  have target : s.reachedZero.drive.target = s.drive.target := s.driveSame_reachedZero.same .target
  by_cases hs : s.drive.state = .reversing ∨ s.drive.state = .running
  · unfold Drive.Stays
    rw [ends hs, target]
    split
    · exact ⟨nofun, nofun⟩
    · exact ⟨nofun, fun _ => ‹_›⟩
  · obtain ⟨reversing, running⟩ := not_or.mp hs
    rw [s.reachedZero_stays (.inr ⟨reversing, running⟩)]
    exact ⟨reversing, fun h => absurd h running⟩

/-- Forced, the drive coasts while the part quiesces (log entry 55). -/
theorem State.bridgeMode_of_forced (hp : s.part = .quiescing) (hf : s.drive.forced = true)
    (hs : s.drive.state = .idle ∨ s.drive.state = .running) : s.bridgeMode = .coast := by
  rcases hs with hs | hs <;> simp [State.bridgeMode, hp, hf, hs]

theorem State.coastForced_drive : s.coastForced.drive.SameBut { s.drive with forced := true } [.channels] ∧
    ∀ c : Channel, (s.coastForced.drive.channels.get c).lastEmf = (s.drive.channels.get c).lastEmf := by
  refine ⟨fun f hf => ?_, fun c => ?_⟩
  · cases f <;> first | rfl | exact absurd hf (by decide)
  · unfold State.coastForced
    rw [State.latchBridge_get]
    rfl

/-- The drive forced to rest: what it leaves, and what its readings show of a change of its state (R41). -/
theorem State.driveForce_eq (hp : s.part = .quiescing) :
    let t := s.driveForce
    s.drive.AtRest t.drive ∧ t.drive.Stays ∧ t.drive.target = s.drive.target ∧
      (s.drive.state = .reversing ∨ s.drive.state = .running ∧ s.drive.target.magnitude = 0 →
        t.drive.state = (if s.drive.target.magnitude = 0 then .idle else .running) ∧
        t.drive.direction = (if s.drive.state = .reversing then s.drive.target.direction else s.drive.direction) ∧
        t.storeNum (driveGroup + 1) = (if s.drive.target.magnitude = 0 then 0 else 1) ∧
        t.storeNum (driveGroup + 30) = 1 ∧ t.storeNum (driveGroup + 44) = 1) ∧
      s.Shows t (.cadence :: Component.ofZero) := by
  intro t
  have forcing : s.Keeps s.coastForced [.drive] := s.keeps_coastForced
  obtain ⟨forced, emf⟩ := s.coastForced_drive
  have ht : t = s.coastForced.stilled.settleDrive := rfl
  generalize s.coastForced = c at *
  have rest : s.drive.AtRest c.stilled.drive := State.atRest_stilled emf
  have still := c.driveSame_stilled
  have shown : s.Shows c.stilled (.cadence :: Component.ofZero) := (State.Shows.of_keeps forcing).mono.trans c.shows_stilled.mono
  have state : c.stilled.drive.state = s.drive.state := (still.same .state).trans (forced .state (by decide)).symm
  have direction : c.stilled.drive.direction = s.drive.direction := (still.same .direction).trans (forced .direction (by decide)).symm
  have target : c.stilled.drive.target = s.drive.target := (still.same .target).trans (forced .target (by decide)).symm
  have coasting : c.stilled.drive.forced = true := (still.same .forced).trans (forced .forced (by decide)).symm
  generalize c.stilled = x at *
  have part : x.part = .quiescing := (shown.same .part).trans hp
  have zero (v : State) (hv : v.part = x.part) : v.effectiveTarget = 0 :=
    v.effectiveTarget_of_windingDown (.inl (hv.trans part))
  have window := x.driveSame_settleWindow
  have windowed := x.keeps_settleWindow
  have settles : t = x.settleWindow.reachedZero.settleWindow := by
    refine ht.trans (State.settleDrive_of_rest rest (zero x rfl) (zero _ ?_))
    rw [(State.keeps_reachedZero _).same .part, windowed.same .part]
  have settled := (x.shows_settleDrive_quiescing part).1
  rw [← ht] at settled
  clear ht
  have rested := rest.settleWindow
  have ramp : x.settleWindow.drive.ramp = 0 := rested.1
  obtain ⟨turned, kept, ended⟩ := State.reachedZero_state x.settleWindow ramp
  have stays := Drive.stays_reachedZero ramp
  have shows := State.reachedZero_groupShows ramp
  have reached := State.driveSame_reachedZero x.settleWindow
  rw [window.same .state, window.same .target, state, target] at turned ended shows
  rw [window.same .state, window.same .direction, state, direction] at kept
  have aimed : x.settleWindow.reachedZero.drive.target = s.drive.target :=
    (reached.same .target).trans ((window.same .target).trans target)
  have coasts : x.settleWindow.reachedZero.drive.forced = true :=
    (reached.same .forced).trans ((window.same .forced).trans coasting)
  have part' : x.settleWindow.reachedZero.part = .quiescing := by
    rw [(State.keeps_reachedZero _).same .part, windowed.same .part, part]
  have rests := rested.reachedZero
  generalize x.settleWindow.reachedZero = y at *
  have last := y.driveSame_settleWindow
  have stored (a : Nat) : y.settleWindow.storeAt a = y.storeAt a := y.keeps_settleWindow.same .store (by decide) a
  clear_value t
  subst settles
  refine ⟨rests.settleWindow, ?_, (last.same .target).trans aimed, fun h => ?_, shown.trans settled⟩
  · unfold Drive.Stays at stays ⊢
    rwa [last.same .state, last.same .target]
  · have moved := ended (h.imp_right And.left)
    have idle : y.drive.state = .idle ∨ y.drive.state = .running := by
      rw [moved]
      split
      · exact .inl rfl
      · exact .inr rfl
    obtain ⟨code, -, -, -, -, -, -, -, -, -, -, -, -, -, -, -, -, channels⟩ := shows h
    obtain ⟨-, -, -, modeA, -⟩ := channels .a
    obtain ⟨-, -, -, modeB, -⟩ := channels .b
    rw [State.bridgeMode_of_forced part' coasts idle] at modeA modeB
    have num (a : Nat) : y.settleWindow.storeNum a = y.storeNum a := congrArg BitVec.toNat (stored a)
    refine ⟨(last.same .state).trans moved, (last.same .direction).trans ?_, (num _).trans (code.trans ?_),
      (num _).trans modeA, (num _).trans modeB⟩
    · split
      · exact turned ‹_›
      · exact kept ‹_›
    · rw [moved]
      split <;> rfl

end

end Sys2Proof.Machine

/-! ## A forced drive, while the other blocks are forced behind it -/

namespace Sys2Proof.Machine

-- One proof at a time: proofs that wait for one another would each hold a thread.
set_option Elab.async false

/-! ### Moves beside the drive -/

/-- A move that leaves the part state, the drive, and the store up to the end of the drive's readings. -/
structure State.Spares (s t : State) : Prop where
  part : t.part = s.part
  drive : t.drive = s.drive
  low : ∀ a, a < sequencerGroup → t.storeAt a = s.storeAt a

namespace State.Spares
variable {s t u : State}

theorem refl (s : State) : s.Spares s := ⟨rfl, rfl, fun _ _ => rfl⟩

theorem trans (h : s.Spares t) (k : t.Spares u) : s.Spares u :=
  ⟨k.part.trans h.part, k.drive.trans h.drive, fun a ha => (k.low a ha).trans (h.low a ha)⟩

theorem ite {c : Prop} [Decidable c] (ht : c → s.Spares t) (hu : ¬ c → s.Spares u) : s.Spares (if c then t else u) := by
  split
  · exact ht ‹_›
  · exact hu ‹_›

theorem foldl {α : Type} {f : State → α → State} (h : ∀ (s : State) (a : α), s.Spares (f s a)) (xs : List α) (s : State) :
    s.Spares (xs.foldl f s) := by
  induction xs generalizing s with
  | nil => exact refl s
  | cons x xs ih => exact (h s x).trans (ih (f s x))

theorem of_frame {l : List Component} (h : s.SameExcept t l)
    (hl : Component.part ∉ l ∧ .drive ∉ l ∧ .store ∉ l := by decide) : s.Spares t :=
  ⟨h .part hl.1, h .drive hl.2.1, fun a _ => h .store hl.2.2 a⟩

theorem of_keeps {l : List Component} (h : s.Keeps t l)
    (hl : Component.part ∉ l ∧ .drive ∉ l ∧ .store ∉ l := by decide) : s.Spares t :=
  of_frame h.frame hl

end State.Spares

section
variable (s : State)

/-- A writing of a group behind the drive's. -/
theorem State.spares_writeGroup (base offset : Nat) (fields : List Byte) (h : sequencerGroup ≤ base := by decide) :
    s.Spares (s.writeGroup base offset fields) := by
  refine ⟨rfl, rfl, fun a ha => ?_⟩
  unfold State.writeGroup
  rw [State.storeAt_writeStore_outside _ _ _ _ (.inl (by omega)), State.storeAt_writeStore_outside _ _ _ _ (.inl (by omega))]

theorem State.spares_withSmoke (u : Smoke) : s.Spares (s.withSmoke u) := .of_frame (s.sameExcept_withSmoke u)

theorem State.spares_smokeMoved (old : SmokeState) : s.Spares (s.smokeMoved old) :=
  (s.spares_withSmoke _).trans (.ite (fun _ => .refl _) fun _ =>
    (State.spares_writeGroup _ _ _ _).trans (State.spares_writeGroup _ _ _ _))

theorem State.spares_setHolds (power : Bool) (alarms : Vector Bool 12) : s.Spares (s.setHolds power alarms) :=
  ((s.spares_withSmoke _).trans (.ite (fun _ => .ite (fun _ => State.spares_withSmoke _ _) fun _ => .refl _) fun _ =>
    .ite (fun _ => .ite (fun _ => .ite (fun _ => State.spares_withSmoke _ _) fun _ => State.spares_withSmoke _ _)
      fun _ => .refl _) fun _ => .refl _)).trans (State.spares_smokeMoved _ _)

theorem State.spares_enterDry (subject : Byte) (detail : Half) : s.Spares (s.enterDry subject detail) :=
  .ite (fun _ => .refl s) fun _ => ((s.spares_withSmoke _).trans (State.spares_smokeMoved _ _)).trans
    (.of_keeps (State.keeps_event _ _ _ _))

theorem State.spares_smokeContributions (holds drys : Vector Bool 12) : s.Spares (s.smokeContributions holds drys) :=
  ((s.spares_withSmoke _).trans (.foldl (fun u _ => u.spares_enterDry _ _) _ _)).trans (State.spares_setHolds _ _ _)

end

/-! ### A drive at rest that R = 0 does not move -/

/-- The drive forced in `w`, asked and emptied as `d`'s: behind a move to `u` it rests as it did, with its state, its
direction, its target and its readings (R41). -/
structure State.Reposes (d : Drive) (w u : State) : Prop where
  part : u.part = .quiescing
  rest : d.AtRest u.drive
  stays : u.drive.Stays
  state : u.drive.state = w.drive.state
  direction : u.drive.direction = w.drive.direction
  low : ∀ a, a < sequencerGroup → u.storeAt a = w.storeAt a

namespace State.Reposes
variable {d : Drive} {w u t : State}

theorem spares (h : Reposes d w u) (k : u.Spares t) : Reposes d w t where
  part := k.part.trans h.part
  rest := k.drive ▸ h.rest
  stays := k.drive ▸ h.stays
  state := k.drive ▸ h.state
  direction := k.drive ▸ h.direction
  low := fun a ha => (k.low a ha).trans (h.low a ha)

/-- A move of the drive that leaves it at rest, in its state, its direction and its target. -/
theorem moved (h : Reposes d w u) {l : List Component} {m : List DriveField} (f : u.SameExcept t l) (k : u.DriveSame t m)
    (rest : d.AtRest t.drive) (hl : Component.part ∉ l ∧ .store ∉ l := by decide)
    (hm : DriveField.state ∉ m ∧ .direction ∉ m ∧ .target ∉ m := by decide) : Reposes d w t where
  part := (f .part hl.1).trans h.part
  rest := rest
  stays := by
    have stays := h.stays
    unfold Drive.Stays at stays ⊢
    rwa [show t.drive.state = u.drive.state from k .state hm.1, show t.drive.target = u.drive.target from k .target hm.2.2]
  state := (k .state hm.1).trans h.state
  direction := (k .direction hm.2.1).trans h.direction
  low := fun a ha => (f .store hl.2 a).trans (h.low a ha)

theorem settleWindow (h : Reposes d w u) : Reposes d w u.settleWindow :=
  h.moved u.keeps_settleWindow.frame u.driveSame_settleWindow h.rest.settleWindow

theorem refreshDuty (h : Reposes d w u) : Reposes d w u.refreshDuty :=
  h.moved u.keeps_refreshDuty.frame u.driveSame_refreshDuty h.rest.refreshDuty

theorem closeWindowEarly (h : Reposes d w u) : Reposes d w u.closeWindowEarly :=
  h.moved u.keeps_closeWindowEarly.frame u.driveSame_closeWindowEarly h.rest.closeWindowEarly

theorem zeroRamp (h : Reposes d w u) : Reposes d w u.zeroRamp :=
  h.moved u.shows_zeroRamp.1 u.driveSame_zeroRamp (State.atRest_zeroRamp fun c => (h.rest.2.2.2 c).2.2.2.2.2)

theorem stilled (h : Reposes d w u) : Reposes d w u.stilled :=
  h.moved u.shows_stilled.1 u.driveSame_stilled (State.atRest_stilled fun c => (h.rest.2.2.2 c).2.2.2.2.2)

/-- While the part quiesces T is 0: settling the drive brings its window timer in line and no more. -/
theorem settleDrive (h : Reposes d w u) : Reposes d w u.settleDrive := by
  have windowed := h.settleWindow
  have stays : u.settleWindow.reachedZero = u.settleWindow := windowed.stays.reachedZero
  have e : u.settleDrive = u.settleWindow.settleWindow := by
    rw [State.settleDrive_of_rest h.rest (u.effectiveTarget_of_windingDown (.inl h.part)), stays]
    rw [stays]
    exact State.effectiveTarget_of_windingDown (.inl windowed.part)
  rw [e]
  exact windowed.settleWindow

theorem recomputeProtection (h : Reposes d w u) : Reposes d w u.recomputeProtection := by
  have levelled : Reposes d w u.levelled :=
    h.moved u.keeps_levelled.frame u.driveSame_levelled (h.rest.of_channels u.driveSame_levelled)
  obtain ⟨same, rises, moves⟩ := u.recomputeProtection_eq
  by_cases hl : u.protectionLevel = u.drive.level
  · rw [same hl]
    exact levelled
  · by_cases hr : u.protectionLevel.holds = true ∧ u.drive.level.holds = false
    · rw [rises hr.1 hr.2]
      exact levelled.stilled.closeWindowEarly.settleDrive
    · rw [moves hl (by simpa [or_iff_not_imp_left] using hr)]
      exact levelled.refreshDuty.settleDrive

theorem drivePower (h : Reposes d w u) (b : Bool) : Reposes d w (u.drivePower b) := by
  cases b
  · rw [u.drivePower_refreshed]
    exact h.refreshDuty.settleDrive
  · rw [u.drivePower_spent]
    exact h.zeroRamp.closeWindowEarly.settleDrive

theorem publishPower (h : Reposes d w u) (b : Bool) (order : Nat) : Reposes d w (u.publishPower b order) := by
  refine u.publishPower_stays (P := Reposes d w) b order (fun g x hx => ?_) h
  cases g
  · exact hx.drivePower b
  · exact hx.spares (x.spares_setHolds _ _)
  · exact hx.spares (.of_keeps x.keeps_lampPower)
  · exact hx.spares (.of_keeps x.keeps_soundPower)

theorem announcePower (h : Reposes d w u) (kind : EventKind) (subject : Byte) (detail : Nat) (b : Bool) (order : Nat) :
    Reposes d w (u.announcePower kind subject detail b order) :=
  ((h.spares (.of_keeps (u.keeps_event kind subject (BitVec.ofNat 16 detail)))).spares (.of_keeps (State.keeps_raise _ .power))).spares
    (State.spares_writeGroup _ powerGroup 1 _) |>.publishPower b order

theorem powerContributions (h : Reposes d w u) (order : Nat) : Reposes d w (u.powerContributions order) := by
  obtain ⟨supplied, bridging, spent⟩ := u.powerContributions_cases order
  have set (p : Power) : Reposes d w (u.withPower p) := h.spares (.of_frame (u.sameExcept_withPower p))
  cases hs : u.power.state
  case supplied =>
    rw [supplied hs, u.leaveSupplied_eq]
    split
    · split
      · exact (set _).announcePower _ _ _ _ _
      · exact (set _).announcePower _ _ _ _ _
    · exact set _
  case bridging =>
    rw [bridging hs, u.returnSupplied_eq]
    split
    · exact (set _).announcePower _ _ _ _ _
    · split
      · exact (set _).announcePower _ _ _ _ _
      · exact set _
  case spent =>
    rw [spent hs, u.returnSupplied_eq]
    split
    · exact (set _).announcePower _ _ _ _ _
    · exact set _

theorem handContributions (h : Reposes d w u) (order : Nat) : Reposes d w (u.handContributions order) := by
  refine u.handContributions_stays (P := Reposes d w) order (fun g x hx => ?_) h
  cases g
  · exact hx.recomputeProtection
  · exact hx.spares (x.spares_smokeContributions _ _)
  · exact hx.powerContributions _

end State.Reposes

end Sys2Proof.Machine

/-! ## The quiesce deadline -/

namespace Sys2Proof.Machine

-- One proof at a time: proofs that wait for one another would each hold a thread.
set_option Elab.async false

section
variable (s : State)

/-! ### The conversion abandoned (R62) -/

/-- With no profile pending the end of a pass keeps the slots and raises nothing. -/
theorem State.endPassIfDone_plain (order : Nat) (hw : s.sequencer.waiting = none) :
    (s.endPassIfDone order).sequencer.slots = s.sequencer.slots ∧
      (s.endPassIfDone order).sequencer.offset = s.sequencer.offset ∧ s.Shows (s.endPassIfDone order) [.sequencer, .store] := by
  unfold State.endPassIfDone
  split
  · rw [s.endPass_plain order hw]
    exact ⟨rfl, rfl, (State.Shows.of_frame (s.sameExcept_withSequencer _)).mono.trans (State.shows_writeGroup _ _ _ _).mono⟩
  · exact ⟨rfl, rfl, .refl _ _⟩

/-- What the abandoned conversion leaves, by the profile that waits. -/
theorem State.abandonConversion_eq (order : Nat) :
    let t := s.abandonConversion order
    s.Winds t ∧ s.Heeds t ∧ s.Keeps t Component.ofConversion ∧
      (s.sequencer.waiting = none → t.sequencer.slots = s.sequencer.slots ∧ t.sequencer.offset = s.sequencer.offset ∧
        s.Shows t [.sequencer, .store]) := by
  have begun : s.SameExcept (s.withSequencer { s.sequencer with inFlight := none }) [.sequencer] := s.sameExcept_withSequencer _
  have record : (s.withSequencer { s.sequencer with inFlight := none }).sequencer.waiting = s.sequencer.waiting ∧
    (s.withSequencer { s.sequencer with inFlight := none }).sequencer.slots = s.sequencer.slots ∧
    (s.withSequencer { s.sequencer with inFlight := none }).sequencer.offset = s.sequencer.offset := ⟨rfl, rfl, rfl⟩
  have keeps := s.keeps_abandonConversion order
  unfold State.abandonConversion at keeps ⊢
  generalize s.withSequencer { s.sequencer with inFlight := none } = u at *
  obtain ⟨waiting, slots, offset⟩ := record
  have last : (u.endPassIfDone order).SameExcept (u.endPassIfDone order).beginConversion [.sequencer] :=
    State.sameExcept_withSequencer _ _
  obtain ⟨slots', -, offset', -⟩ := (u.endPassIfDone order).sequencer.begin_same
  have plain := u.endPassIfDone_plain order
  rw [waiting, slots, offset] at plain
  refine ⟨(State.Winds.of_shows (.of_frame begun)).trans ((u.winds_endPassIfDone order).trans (.of_shows (.of_frame last))),
    (State.Heeds.of_frame begun).trans ((u.heeds_endPassIfDone order).trans (.of_frame last)), keeps, fun hw => ?_⟩
  obtain ⟨slots, offset, shown⟩ := plain hw
  exact ⟨slots'.trans slots, offset'.trans offset,
    (State.Shows.of_frame begun).mono.trans (shown.trans (State.Shows.of_frame last).mono)⟩

variable {s} in
theorem State.Reposes.abandonConversion {d : Drive} {w : State} (h : Reposes d w s) (order : Nat) :
    Reposes d w (s.abandonConversion order) := by
  have set {u : State} (hu : Reposes d w u) (q : Sequencer) : Reposes d w (u.withSequencer q) :=
    hu.spares (.of_frame (u.sameExcept_withSequencer q))
  have taken {u : State} (hu : Reposes d w u) : Reposes d w (u.takeWaitingProfile order) := by
    unfold State.takeWaitingProfile
    split
    · exact hu
    · exact (set hu _).handContributions order
  have ended {u : State} (hu : Reposes d w u) : Reposes d w (u.endPassIfDone order) := by
    unfold State.endPassIfDone
    split
    · exact (set (taken hu) _).spares (State.spares_writeGroup _ _ _ _)
    · exact hu
  exact set (ended (set h _)) _

/-! ### The blocks forced, in the order of R167's table -/

variable (a : Acks)

def State.driveForced : State := if a.drive then s else s.driveForce

def State.soundForced : State := if a.sound then s else s.freeVoices

def State.sequencerForced (order : Nat) : State := if a.sequencer then s else s.abandonConversion order

def State.adoptionForced : State := if a.adoption then s else s.withAdoption s.adoption.visitOver

def State.blocksForced (order : Nat) : State := (((s.driveForced a).soundForced a).sequencerForced a order).adoptionForced a

theorem Acks.foldl_missing (order : Nat) :
    a.missing.foldl (fun s n => s.forceBlock order n) s = s.blocksForced a order := by
  have one (b : Bool) (n : Nat) (u : State) :
      (if b then ([] : List Nat) else [n]).foldl (fun s n => s.forceBlock order n) u = if b then u else u.forceBlock order n := by
    cases b <;> rfl
  have stays (b : Bool) (u : State) : (if b = true then u else u) = u := ite_self u
  unfold Acks.missing
  simp only [List.foldl_append, one]
  rw [show ∀ u : State, u.forceBlock order 3 = u from fun _ => rfl, stays, show ∀ u : State, u.forceBlock order 5 = u from fun _ => rfl,
    stays, show ∀ u : State, u.forceBlock order 6 = u from fun _ => rfl, stays]
  rfl

/-- The blocks that have not acknowledged, by their numbers. -/
theorem Acks.missing_eq : a.missing = ([(a.drive, 1), (a.sound, 2), (a.smoke, 3), (a.sequencer, 4), (a.radio, 5), (a.lamps, 6),
    (a.adoption, 7)].filter fun x => !x.1).map Prod.snd := by
  obtain ⟨d, s, m, q, r, l, v⟩ := a
  revert d s m q r l v
  decide

/-- What the forced blocks leave. -/
theorem State.blocksForced_eq (hp : s.part = .quiescing) (order : Nat) :
    let t := s.blocksForced a order
    (a.drive = false → s.driveForce.drive.Stays ∧ State.Reposes s.drive s.driveForce t) ∧
    (a.sound = false → t.sound.order = [] ∧ ∀ v : Fin 6, t.sound.voices[v].state = .free) ∧
    (a.sound = true → t.sound = s.sound ∨ a.sequencer = false ∧ s.sequencer.waiting ≠ none) ∧
    (a.sequencer = false → s.sequencer.waiting = none →
      t.sequencer.slots = s.sequencer.slots ∧ t.sequencer.offset = s.sequencer.offset) ∧
    (a.sequencer = true → t.sequencer = s.sequencer) ∧
    (a.adoption = false → t.adoption.visit = none) ∧ t.adoption.adopted = s.adoption.adopted ∧
    (∀ n, n < readingsBase → t.storeAt n = s.storeAt n) ∧
    (a.sequencer = true ∨ s.sequencer.waiting = none → t.AttendsAs s) ∧
    t.part = .quiescing ∧ t.resetMark = s.resetMark := by
  intro t
  have drive : s.Shows (s.driveForced a) (.cadence :: Component.ofZero) ∧
      (a.drive = false → s.driveForce.drive.Stays ∧ State.Reposes s.drive s.driveForce (s.driveForced a)) := by
    obtain ⟨rest, stays, -, -, shown⟩ := State.driveForce_eq hp
    cases ha : a.drive
    · rw [State.driveForced, ha, if_neg Bool.false_ne_true]
      exact ⟨shown, fun _ => ⟨stays, (shown.same .part).trans hp, rest, stays, rfl, rfl, fun _ _ => rfl⟩⟩
    · rw [State.driveForced, ha, if_pos rfl]
      exact ⟨.refl s _, nofun⟩
  have ht : t = (((s.driveForced a).soundForced a).sequencerForced a order).adoptionForced a := rfl
  clear_value t
  generalize s.driveForced a = x at *
  obtain ⟨shown, reposes⟩ := drive
  have part : x.part = .quiescing := (shown.same .part).trans hp
  have sound : x.Shows (x.soundForced a) [.sound] ∧ (a.sound = true → (x.soundForced a).sound = s.sound) ∧
      (a.sound = false → (x.soundForced a).sound.VoicesSound ∧ ∀ v : Fin 6, (x.soundForced a).sound.voices[v].state = .free) := by
    obtain ⟨order, free, -⟩ := x.freeVoices_sound
    cases ha : a.sound
    · rw [State.soundForced, ha, if_neg Bool.false_ne_true]
      have idle (v : Fin 6) : x.freeVoices.sound.voices[v].busy = false := by
        rw [Voice.busy, free v]
        rfl
      exact ⟨x.shows_settleVoices _, nofun, fun _ => ⟨⟨fun v w hv => absurd ((idle v).symm.trans hv) nofun,
        by rw [order]; exact List.nodup_nil, fun v => by rw [order, idle v]; simp⟩, free⟩⟩
    · rw [State.soundForced, ha, if_pos rfl]
      exact ⟨.refl x _, fun _ => shown.same .sound, nofun⟩
  generalize x.soundForced a = y at *
  obtain ⟨sounds, kept, freed⟩ := sound
  have part' : y.part = .quiescing := (sounds.same .part).trans part
  have sequencer : y.sequencer = s.sequencer := (sounds.same .sequencer).trans (shown.same .sequencer)
  have rests (h : State.Reposes s.drive s.driveForce x) : State.Reposes s.drive s.driveForce y :=
    h.spares (.of_frame sounds.1)
  have behind : s.Shows y (.sound :: .cadence :: Component.ofZero) := shown.mono.trans sounds.mono
  have converted : y.Winds (y.sequencerForced a order) ∧ y.Heeds (y.sequencerForced a order) ∧
      y.Keeps (y.sequencerForced a order) Component.ofConversion ∧
      (State.Reposes s.drive s.driveForce y → State.Reposes s.drive s.driveForce (y.sequencerForced a order)) ∧
      (a.sequencer = true → y.sequencerForced a order = y) ∧
      (a.sequencer = false → s.sequencer.waiting = none → (y.sequencerForced a order).sequencer.slots = s.sequencer.slots ∧
        (y.sequencerForced a order).sequencer.offset = s.sequencer.offset ∧
        y.Shows (y.sequencerForced a order) [.sequencer, .store]) := by
    obtain ⟨winds, heeds, keeps, plain⟩ := y.abandonConversion_eq order
    rw [sequencer] at plain
    cases ha : a.sequencer
    · rw [State.sequencerForced, ha, if_neg Bool.false_ne_true]
      exact ⟨winds, heeds, keeps, fun h => h.abandonConversion order, nofun, fun _ => plain⟩
    · rw [State.sequencerForced, ha, if_pos rfl]
      exact ⟨.refl y, .refl y, .refl y _, id, fun _ => rfl, nofun⟩
  generalize y.sequencerForced a order = z at *
  obtain ⟨winds, heeds, keeps, reposed, stood, plain⟩ := converted
  have over' : z.SameExcept t [.adoption] ∧ (a.adoption = false → t.adoption.visit = none) ∧
      t.adoption.adopted = z.adoption.adopted := by
    rw [ht]
    cases ha : a.adoption
    · rw [State.adoptionForced, ha, if_neg Bool.false_ne_true]
      exact ⟨z.sameExcept_withAdoption _, fun _ => rfl, rfl⟩
    · rw [State.adoptionForced, ha, if_pos rfl]
      exact ⟨z.sameExcept_refl _, nofun, rfl⟩
  obtain ⟨last, visit, adopted⟩ := over'
  have adoption : z.adoption = s.adoption := (keeps.same .adoption).trans (behind.same .adoption)
  have engine : t.sound = z.sound := last .sound (by decide)
  have converts : t.sequencer = z.sequencer := last .sequencer (by decide)
  have shows (h : a.sequencer = true ∨ s.sequencer.waiting = none) : y.Shows z [.sequencer, .store] := by
    cases ha : a.sequencer
    · exact (plain ha (h.resolve_left (by rw [ha]; nofun))).2.2
    · rw [stood ha]
      exact .refl y _
  refine ⟨fun h => ?_, fun h => ?_, fun h => ?_, fun h h' => ?_, fun h => ?_, visit, by rw [adopted, adoption], fun n hn => ?_,
    fun h => ?_, ?_, ?_⟩
  · obtain ⟨stays, rest⟩ := reposes h
    exact ⟨stays, (reposed (rests rest)).spares (.of_frame last)⟩
  · obtain ⟨sounded, free⟩ := freed h
    have voices : z.sound.voices = y.sound.voices := heeds.voices (by rw [part']; nofun)
    obtain ⟨-, -, member⟩ := keeps.voices sounded
    rw [engine]
    refine ⟨List.eq_nil_iff_forall_not_mem.mpr fun v hv => ?_, fun v => by rw [voices]; exact free v⟩
    have busy := (member v).mp hv
    rw [voices, Voice.busy, free v] at busy
    cases busy
  · rw [engine]
    by_cases hw : a.sequencer = true ∨ s.sequencer.waiting = none
    · exact .inl (((shows hw).same .sound).trans (kept h))
    · obtain ⟨hq, hw⟩ := not_or.mp hw
      exact .inr ⟨by simpa using hq, hw⟩
  · obtain ⟨slots, offset, -⟩ := plain h h'
    rw [converts]
    exact ⟨slots, offset⟩
  · rw [converts, stood h, sequencer]
  · exact (last .store (by decide) n).trans ((winds.low n hn).trans (behind.2 n hn))
  · exact ((State.AttendsAs.of_shows behind).trans (.of_shows (shows h))).trans (.of_frame last)
  · exact (last .part (by decide)).trans (heeds.part.trans part')
  · exact (last .resetMark (by decide)).trans ((keeps.same .resetMark).trans (behind.same .resetMark))

end

end Sys2Proof.Machine

/-! ## The quiesce deadline, and the end of a quiesce -/

namespace Sys2Proof.Machine

-- One proof at a time: proofs that wait for one another would each hold a thread.
set_option Elab.async false

/-- The blocks that were forced, named behind it (log entries 4 and 52). -/
def State.forcedNamed (s : State) (ns : List Nat) : State :=
  ns.foldl (fun u n => u.event .quiesceForced (BitVec.ofNat 8 n) 0#16) s

theorem State.keeps_forcedNamed (s : State) (ns : List Nat) : s.Keeps (s.forcedNamed ns) Component.ofEvent :=
  .foldl (fun u _ => u.keeps_event _ _ _) _ _

theorem State.AttendsAs.forcedNamed {s t : State} (h : t.AttendsAs s) (ns : List Nat) :
    (t.forcedNamed ns).AttendsAs (s.forcedNamed ns) := by
  induction ns generalizing s t with
  | nil => exact h
  | cons n ns ih => exact ih (h.event _ _ _)

section
variable {s : State} (order : Nat)

/-- The deadline: the blocks that are missing are forced and named, and the quiesce ends (R167). -/
theorem exec_quiesceDeadlineExpiry (hp : s.part = .quiescing) (hd : s.deadline.isRunning = true) :
    exec (.quiesceDeadlineExpiry order) s =
      .next ((s.blocksForced s.acks (order / 24)).forcedNamed (arrange s.acks.missing (order % 24))).endQuiesce := by
  rw [← Acks.foldl_missing]
  exact congrArg Host.Outcome.next (if_pos ⟨hd, hp⟩)

/-- A drive at rest stays so behind the entry to QUIET, where it is forced no longer. -/
theorem Drive.AtRest.enterQuiet {d : Drive} {u : State} (h : d.AtRest u.drive) : d.AtRest u.enterQuiet.drive := by
  obtain ⟨-, -, -, -, -, -, same, channels, -⟩ := u.enterQuiet_eq
  obtain ⟨ramp, dir, timer, rest⟩ := h
  refine ⟨(same.same .ramp).trans ramp, (same.same .stepDir).trans dir, (same.same .rampTimer).trans timer, fun c => ?_⟩
  obtain ⟨command, integral, correction, duty, -, emf⟩ := rest c
  rw [channels c]
  exact ⟨command, integral, correction, duty, rfl, emf⟩

/-- What a forced quiesce leaves in QUIET. -/
theorem State.quiesceForced_quiet (hp : s.part = .quiescing) (hm : s.resetMark = false)
    (ns : List Nat) :
    let t := ((s.blocksForced s.acks (order / 24)).forcedNamed ns).endQuiesce
    t.part = .quiet ∧ t.deadline = .stopped ∧ t.acks = .none ∧ t.bridgeMode = .coast ∧
      (∀ d : Channel, t.appliedDuty d = 0) ∧ (s.acks.drive = false → s.drive.AtRest t.drive) ∧ t.drive.forced = false ∧
      (s.acks.drive = false → s.drive.state = .reversing ∨ s.drive.state = .running ∧ s.drive.target.magnitude = 0 →
        t.drive.state = (if s.drive.target.magnitude = 0 then .idle else .running) ∧
          t.drive.direction = (if s.drive.state = .reversing then s.drive.target.direction else s.drive.direction) ∧
          t.storeNum (driveGroup + 1) = (if s.drive.target.magnitude = 0 then 0 else 1) ∧
          t.storeNum (driveGroup + 30) = 1 ∧ t.storeNum (driveGroup + 44) = 1) ∧
      (s.acks.sound = false → t.sound.order = [] ∧ ∀ v : Fin 6, t.sound.voices[v].state = .free) ∧
      (s.acks.sound = true → t.sound = s.sound ∨ s.acks.sequencer = false ∧ s.sequencer.waiting ≠ none) ∧
      (s.acks.sequencer = false → s.sequencer.waiting = none →
        t.sequencer.slots = s.sequencer.slots ∧ t.sequencer.offset = s.sequencer.offset) ∧
      (s.acks.sequencer = true → t.sequencer = s.sequencer) ∧
      (s.acks.adoption = false → t.adoption.visit = none) ∧ t.adoption.adopted = s.adoption.adopted ∧
      (∀ n, n < 0x0800 → t.storeAt n = s.storeAt n) ∧
      (s.acks.sequencer = true ∨ s.sequencer.waiting = none → t.EventsAs ((s.forcedNamed ns).raise .partState)) := by
  obtain ⟨drive, freed, sounds, plain, stood, visit, adopted, low, attends, part, mark⟩ := s.blocksForced_eq s.acks hp (order / 24)
  obtain ⟨-, -, -, forced, -⟩ := State.driveForce_eq hp
  generalize s.blocksForced s.acks (order / 24) = z at *
  have named := z.keeps_forcedNamed ns
  have events (h : s.acks.sequencer = true ∨ s.sequencer.waiting = none) := (attends h).forcedNamed ns
  generalize z.forcedNamed ns = y at *
  have quiets : y.endQuiesce = y.enterQuiet := by
    unfold State.endQuiesce
    rw [named.same .resetMark, mark, hm]
    rfl
  rw [quiets]
  obtain ⟨quiet, deadline, acks, mode, released, duties, same, -, -, -, raised, frame⟩ := y.enterQuiet_eq
  have rests (h : s.drive.AtRest z.drive) : s.drive.AtRest y.enterQuiet.drive :=
    Drive.AtRest.enterQuiet (by rwa [named.same .drive])
  generalize y.enterQuiet = t at *
  have stored (n : Nat) : t.storeAt n = z.storeAt n := (frame .store (by decide) n).trans (named.same .store (by decide) n)
  have sound : t.sound = z.sound := (frame .sound (by decide)).trans (named.same .sound)
  have sequencer : t.sequencer = z.sequencer := (frame .sequencer (by decide)).trans (named.same .sequencer)
  have adoption : t.adoption = z.adoption := (frame .adoption (by decide)).trans (named.same .adoption)
  dsimp only
  rw [sound, sequencer, adoption]
  refine ⟨quiet, deadline, acks, mode, fun d => (duties d).1, fun h => rests (drive h).2.rest, released, fun h hs => ?_, freed,
    sounds, plain, stood, visit, adopted, fun n hn => (stored n).trans (low n hn), fun h => ?_⟩
  · obtain ⟨-, rest⟩ := drive h
    obtain ⟨state, direction, code, modeA, modeB⟩ := forced hs
    have shown (a : Nat) (ha : a < 0x0840) : t.storeNum a = s.driveForce.storeNum a :=
      congrArg BitVec.toNat ((stored a).trans (rest.low a ha))
    refine ⟨(same.same .state).trans ?_, (same.same .direction).trans ?_, (shown _ (by decide)).trans code,
      (shown _ (by decide)).trans modeA, (shown _ (by decide)).trans modeB⟩
    · rw [named.same .drive, rest.state, state]
    · rw [named.same .drive, rest.direction, direction]
  · obtain ⟨⟨-, time, config⟩, listed⟩ := events h
    have active : (s.forcedNamed ns).part.active = true := by
      rw [(s.keeps_forcedNamed ns).same .part, hp]
      rfl
    have same : (y.withPart .quiet).AttendsAs ((s.forcedNamed ns).withPart .quiet) := ⟨⟨rfl, time, config⟩, listed⟩
    have again := same.raise .partState
    rw [(s.forcedNamed ns).raise_withPart active rfl] at again
    exact raised.2.trans again.2

end

/-- Settles O46: each block's last acknowledgement, and the deadline that forces the blocks in R167's order. -/
theorem quiesceDeadlineForces : Obligations.QuiesceDeadlineForces := by
  intro s order hp a now missing ends goesOn
  have named : s.acks.missing = missing := Acks.missing_eq s.acks
  refine ⟨fun _ hd hm => ?_, fun _ hd hm => ?_, fun hrun hoff hz => s.acknowledges_rampStep hp hrun hoff hz,
    fun hc h h' => s.acknowledges_halt hp hc h h', fun c _ h => s.acknowledges_trip hp c order h,
    fun _ hrun hs hb => s.acknowledges_outageTick hp order hrun hs hb, fun h => s.acknowledges_outputSample hp h,
    fun raw _ hf all => s.quiesceEnded_conversion hp raw order hf all, fun v _ hv => ?_,
    fun v _ hv hd ht ha o rest hq => s.visit_waits hp order hv hd ht ha ((s.pausesVisit_iff _).mpr ⟨o, rest, hq⟩)⟩
  · obtain ⟨-, -, -, -, -, -, -, -, -, -, mark⟩ := s.blocksForced_eq s.acks hp (order / 24)
    have kept := (s.blocksForced s.acks (order / 24)).keeps_forcedNamed (arrange s.acks.missing (order % 24))
    have reset : ((s.blocksForced s.acks (order / 24)).forcedNamed (arrange s.acks.missing (order % 24))).resetMark =
        s.resetMark := (kept.same .resetMark).trans mark
    obtain ⟨-, -, -, -, ended⟩ := s.quiesceEnded_endQuiesce reset
    obtain ⟨part, -, events, asserted⟩ := ended hm
    exact ⟨_, exec_quiesceDeadlineExpiry order hp hd, part, events, asserted⟩
  · rw [exec_quiesceDeadlineExpiry order hp hd, named]
    exact ⟨_, rfl, State.quiesceForced_quiet order hp hm _⟩
  · intro twice stops all
    exact s.quiesceEnded_visit hp order hv (fun hd hq => stops hd ((s.pausesVisit_iff _).mp hq)) all

end Sys2Proof.Machine
